-- ==== Sys2Proof/Word.lean ====
section
/-!
DEFINITION. The word types of the block and the plainest arithmetic on them: register words, bytes, bit fields, signed
readings, and the sparse table in which the state keeps what differs from its resting value.
-/

namespace Sys2Proof

/-- A set-up register (R11). -/
abbrev Word := BitVec 64

/-- One byte. -/
abbrev Byte := BitVec 8

/-- A field of a register: lowest bit and width (R6). -/
structure Fld where
  lo : Nat
  w : Nat
  deriving DecidableEq, Repr

/-- The mask of the `w` lowest bits. -/
def maskW (w : Nat) : Word := BitVec.ofNat 64 (2 ^ w - 1)

/-- The value of a field of a word. -/
def Fld.of (f : Fld) (x : Word) : Nat := ((x >>> f.lo) &&& maskW f.w).toNat

/-- A word with one field replaced; the value is cut to the field's width. -/
def Fld.put (f : Fld) (x : Word) (v : Nat) : Word :=
  (x &&& ~~~(maskW f.w <<< f.lo)) ||| ((BitVec.ofNat 64 v &&& maskW f.w) <<< f.lo)

/-- A `w`-bit pattern read as a two's complement number. -/
def signedOf (w v : Nat) : Int := if 2 * (v % 2 ^ w) < 2 ^ w then (v % 2 ^ w : Nat) else (v % 2 ^ w : Nat) - (2 ^ w : Nat)

/-- The `w`-bit two's complement pattern of a number. -/
def patternOf (w : Nat) (v : Int) : Nat := (v % (2 ^ w : Nat)).toNat

/-- An integer limited to a closed range. -/
def clampInt (lo hi v : Int) : Int := if v < lo then lo else if hi < v then hi else v

/-- A count that stops at the largest value of `w` bits. -/
def satAdd (w a b : Nat) : Nat := min (a + b) (2 ^ w - 1)

/-- The rounded quotient of two integers, halves away from zero. -/
def roundDiv (a : Int) (b : Nat) : Int :=
  if a < 0 then -(((2 * a.natAbs + b) / (2 * b) : Nat) : Int) else (((2 * a.natAbs + b) / (2 * b) : Nat) : Int)

/-- A sparse table: the keys that differ from the default, strictly rising. -/
abbrev Tab (β : Type) := List (Nat × β)

/-- The value of a table at a key. -/
def Tab.get {β : Type} (dflt : Nat → β) : Tab β → Nat → β
  | [], k => dflt k
  | (j, v) :: t, k => if j = k then v else Tab.get dflt t k

/-- A table without a key. -/
def Tab.erase {β : Type} : Tab β → Nat → Tab β
  | [], _ => []
  | (j, v) :: t, k => if j = k then Tab.erase t k else (j, v) :: Tab.erase t k

/-- A table with an entry put in its place, whatever its value. -/
def Tab.insert {β : Type} : Tab β → Nat → β → Tab β
  | [], k, v => [(k, v)]
  | (j, u) :: t, k, v =>
    if j < k then (j, u) :: Tab.insert t k v else if j = k then (k, v) :: t else (k, v) :: (j, u) :: t

/-- A table with the value at a key replaced; a key at its default is not listed. -/
def Tab.set {β : Type} [DecidableEq β] (dflt : Nat → β) (t : Tab β) (k : Nat) (v : β) : Tab β :=
  if v = dflt k then Tab.erase t k else Tab.insert t k v

/-- The keys of a list of pairs rise strictly, all of them above a bound. -/
def Tab.risingFrom {β : Type} : Nat → Tab β → Bool
  | _, [] => true
  | lo, (j, _) :: t => decide (lo ≤ j) && Tab.risingFrom (j + 1) t

/-- The canonical form of a table: strictly rising keys, and no entry at its default. -/
def Tab.canon {β : Type} [DecidableEq β] (dflt : Nat → β) (t : Tab β) : Bool :=
  Tab.risingFrom 0 t && t.all fun e => decide (e.2 ≠ dflt e.1)

/-- The bytes of a number, least significant first (R6). -/
def leBytes : Nat → Nat → List Byte
  | 0, _ => []
  | n + 1, v => BitVec.ofNat 8 v :: leBytes n (v / 256)

/-- The number that bytes spell, least significant first (R6). -/
def ofLeBytes : List Byte → Nat
  | [] => 0
  | b :: bs => b.toNat + 256 * ofLeBytes bs

end Sys2Proof
end

