-- ==== Sys2Proof/Machine/Regs.lean ====
section
/-!
DEFINITION. The BAR0 register map: the byte offset of every set-up register (R604, R609, R617 and the register
tables of the owning chapters), the bit range of every field, and one table row per register with the access type (R13),
the values a field may take (R16) and the reset value of each field.  Fields that the manual marks reserved are absent.
-/

namespace Sys2Proof.Machine

/-! Register offsets within BAR0 (R604, R617). -/

def R.GLB_ID : Nat := 0x0
def R.GLB_SERIAL : Nat := 0x8
def R.GLB_VERSION : Nat := 0x10
def R.GLB_LOCK : Nat := 0x20
def R.GLB_SCRATCH0 : Nat := 0x28
def R.GLB_SCRATCH1 : Nat := 0x30
def R.GLB_ERR_STAT : Nat := 0x100
def R.GLB_ERR_A : Nat := 0x108
def R.GLB_ERR_B : Nat := 0x110
def R.GLB_ERR_C : Nat := 0x118
def R.TICK_COUNT : Nat := 0x10000
def R.TICK_STATUS : Nat := 0x10008
def R.TICK_OVERRUN_CNT : Nat := 0x10010
def R.TICK_BUDGET : Nat := 0x10018
def R.DOM_INCR (d : Nat) : Nat := 0x10040 + 0x40 * d
def R.DOM_TIME_NS (d : Nat) : Nat := 0x10048 + 0x40 * d
def R.DOM_TIME_SEC (d : Nat) : Nat := 0x10050 + 0x40 * d
def R.DOM_ADJ (d : Nat) : Nat := 0x10058 + 0x40 * d
def R.DOM_SET_SEC (d : Nat) : Nat := 0x10060 + 0x40 * d
def R.DOM_CTL (d : Nat) : Nat := 0x10068 + 0x40 * d
def R.TS_OFFSET : Nat := 0x10100
def R.TS_CTL : Nat := 0x10108
def R.PPS_OUT_CTL : Nat := 0x10180
def R.PPS_IN_NS (x d : Nat) : Nat := 0x10200 + 0x40 * x + 0x10 * d
def R.PPS_IN_SEC (x d : Nat) : Nat := 0x10208 + 0x40 * x + 0x10 * d
def R.PPS_IN_STAT (x : Nat) : Nat := 0x10220 + 0x40 * x
def R.TRIG_CTL (k : Nat) : Nat := 0x10400 + 0x20 * k
def R.TRIG_TIME_NS (k : Nat) : Nat := 0x10408 + 0x20 * k
def R.TRIG_TIME_SEC (k : Nat) : Nat := 0x10410 + 0x20 * k
def R.TRIG_PERIOD (k : Nat) : Nat := 0x10418 + 0x20 * k
def R.TP_CTL (p : Nat) : Nat := 0x10800 + 0x40 * p
def R.TP_LAT (p : Nat) : Nat := 0x10808 + 0x40 * p
def R.PAT_CTL_T (p : Nat) : Nat := 0x10c00 + 0x40 * p
def R.PAT_STAT_T (p : Nat) : Nat := 0x10c08 + 0x40 * p
def R.PAT_ERR_T (p : Nat) : Nat := 0x10c10 + 0x40 * p
def R.PAT_BITS_T (p : Nat) : Nat := 0x10c18 + 0x40 * p
def R.PAT_USER_T (p j : Nat) : Nat := 0x10c20 + 0x40 * p + 0x8 * j
def R.PAT_USER2_T (p : Nat) : Nat := 0x10c30 + 0x40 * p
def R.RING_OP : Nat := 0x20000
def R.RING_OP_STAT : Nat := 0x20008
def R.RING_CTX_A : Nat := 0x20010
def R.RING_CTX_B : Nat := 0x20018
def R.RING_CTX_C : Nat := 0x20020
def R.RING_CTX_D : Nat := 0x20028
def R.RING_CTX_E : Nat := 0x20030
def R.RING_ENG_STAT : Nat := 0x20040
def R.RING_CNT : Nat := 0x20048
def R.RING_CNT2 : Nat := 0x20050
def R.PWR_CTL : Nat := 0x40000
def R.PWR_STAT : Nat := 0x40008
def R.PWR_DOM_STAT (d : Nat) : Nat := 0x40100 + 0x10 * d
def R.PWR_DOM_WAKE (d : Nat) : Nat := 0x40108 + 0x10 * d
def R.THERM_CTL : Nat := 0x40400
def R.THERM_LVL : Nat := 0x40408
def R.THERM_STAT : Nat := 0x40410
def R.THERM_SENS (k : Nat) : Nat := 0x40600 + 0x8 * k
def R.ENG_THERM (o : Nat) : Nat := 0x40800 + 0x8 * o
def R.ENG_THERM_LVL : Nat := 0x40880
def R.REEF_CTL : Nat := 0x40a00
def R.REEF_STAT : Nat := 0x40a08
def R.AVS_CTL : Nat := 0x40c00
def R.AVS_STAT : Nat := 0x40c08
def R.PMB_CTL : Nat := 0x40e00
def R.PMB_DEV (k : Nat) : Nat := 0x40f00 + 0x10 * k
def R.PMB_STAT (k : Nat) : Nat := 0x40f08 + 0x10 * k
def R.PLAN_CTL : Nat := 0x48000
def R.PLAN_CTL2 : Nat := 0x48008
def R.PLAN_STAT : Nat := 0x48010
def R.JRN_STAT : Nat := 0x48018
def R.JRN_CNT : Nat := 0x48020
def R.TRIM_HK (h : Nat) : Nat := 0x48040 + 0x8 * h
def R.AGE_DIE (d : Nat) : Nat := 0x48080 + 0x8 * d
def R.AGE_WEAR (d m : Nat) : Nat := 0x48400 + 0x200 * d + 0x8 * m
def R.IN_CTL (x : Nat) : Nat := 0x4a000 + 0x8 * x
def R.IN_LEVEL : Nat := 0x4a100
def R.IN_STORM : Nat := 0x4a108
def R.WDT_CTL : Nat := 0x4a110
def R.WDT_STAT : Nat := 0x4a118
def R.HK_SEQ_CTL (h : Nat) : Nat := 0x50000 + 0x100 * h
def R.HK_STAT (h : Nat) : Nat := 0x50008 + 0x100 * h
def R.HK_PLAUS_CTL : Nat := 0x50200
def R.HK_PLAUS_STAT : Nat := 0x50208
def R.HK_SEQ (h e : Nat) : Nat := 0x51000 + 0x800 * h + 0x8 * e
def R.HK_CH_CAL (c : Nat) : Nat := 0x52000 + 0x8 * c
def R.HK_RES (c : Nat) : Nat := 0x54000 + 0x8 * c
def R.HK_IN_CFG (i : Nat) : Nat := 0x56000 + 0x8 * i
def R.EDAC_CTL : Nat := 0x60000
def R.EDAC_STAT : Nat := 0x60008
def R.LR_CTL : Nat := 0x60010
def R.LR_STAT : Nat := 0x60018
def R.ENG_I2C_CTL (k : Nat) : Nat := 0x60040 + 0x8 * k
def R.ENG_I2C_STAT (k : Nat) : Nat := 0x60080 + 0x8 * k
def R.ENG_MPD (o : Nat) : Nat := 0x60100 + 0x8 * o
def R.EDAC_CH_CFG (c : Nat) : Nat := 0x61000 + 0x8 * c
def R.EDAC_CH_STAT (c : Nat) : Nat := 0x62000 + 0x8 * c
def R.EDAC_CLR (c : Nat) : Nat := 0x63000 + 0x8 * c
def R.EDAC_RAMP_CTL (k : Nat) : Nat := 0x64000 + 0x200 * k
def R.EDAC_RAMP_ENT (k j : Nat) : Nat := 0x64008 + 0x200 * k + 0x8 * j
def R.PAIR_CTL : Nat := 0x80000
def R.PAIR_STAT : Nat := 0x80008
def R.PAIR_MIR_STAT : Nat := 0x80010
def R.PAIR_CNT : Nat := 0x80018
def R.PAIR_TWIN_DT : Nat := 0x80020
def R.PAIR_LAST : Nat := 0x80028
def R.SHRD_CTL : Nat := 0x80100
def R.SHRD_STAT : Nat := 0x80108
def R.SHRD_LANE_STAT (n : Nat) : Nat := 0x80140 + 0x10 * n
def R.SHRD_LANE_CNT (n : Nat) : Nat := 0x80148 + 0x10 * n
def R.PAT_CTL_S (n : Nat) : Nat := 0x80300 + 0x40 * n
def R.PAT_STAT_S (n : Nat) : Nat := 0x80308 + 0x40 * n
def R.PAT_ERR_S (n : Nat) : Nat := 0x80310 + 0x40 * n
def R.PAT_BITS_S (n : Nat) : Nat := 0x80318 + 0x40 * n
def R.PAT_USER_S (n j : Nat) : Nat := 0x80320 + 0x40 * n + 0x8 * j
def R.PAT_USER2_S (n : Nat) : Nat := 0x80330 + 0x40 * n
def R.CHK_CTL (c : Nat) : Nat := 0x90000 + 0x40 * c
def R.CHK_VAL (c : Nat) : Nat := 0x90008 + 0x40 * c
def R.CHK_DATA (c : Nat) : Nat := 0x90010 + 0x40 * c
def R.CHK_TAIL (c : Nat) : Nat := 0x90018 + 0x40 * c
def R.CHK_RES (c : Nat) : Nat := 0x90020 + 0x40 * c
def R.CHK_CNT (c : Nat) : Nat := 0x90028 + 0x40 * c
def R.MEM_ECC_CTL : Nat := 0xa0000
def R.MEM_CORR_LOG : Nat := 0xa0008
def R.MEM_CORR_ADDR : Nat := 0xa0010
def R.MEM_UNC_LOG : Nat := 0xa0018
def R.MEM_UNC_ADDR : Nat := 0xa0020
def R.MEM_REPAIR_STAT : Nat := 0xa0028
def R.REFRESH_STAT : Nat := 0xa0030
def R.MEM_BAD_MACRO : Nat := 0xa0038
def R.MEM_CNT (d : Nat) : Nat := 0xa0040 + 0x8 * d
def R.D2D_CNT (y : Nat) : Nat := 0xa0080 + 0x8 * y
def R.MEM_TEST_CTL : Nat := 0xa0200
def R.MEM_TEST_DATA : Nat := 0xa0208
def R.MEM_TEST_CHK : Nat := 0xa0210
def R.GD_CTL : Nat := 0xa8000
def R.GD_STAT : Nat := 0xa8008
def R.GD_CH_STAT (c : Nat) : Nat := 0xa8100 + 0x10 * c
def R.GD_CH_CNT (c : Nat) : Nat := 0xa8108 + 0x10 * c
def R.PERF_CTL : Nat := 0xb0000
def R.PERF_WIN_START : Nat := 0xb0008
def R.PERF_WIN_STOP : Nat := 0xb0010
def R.PERF_SEL (n : Nat) : Nat := 0xb0800 + 0x8 * n
def R.PERF_CNT (n : Nat) : Nat := 0xb1000 + 0x8 * n
def R.HIST_CTL (u : Nat) : Nat := 0xb2000 + 0x20 * u
def R.HIST_CFG (u : Nat) : Nat := 0xb2008 + 0x20 * u
def R.HIST_STAT (u : Nat) : Nat := 0xb2010 + 0x20 * u
def R.HIST_SUM (u : Nat) : Nat := 0xb2018 + 0x20 * u
def R.HIST_BIN (u b : Nat) : Nat := 0xb3000 + 0x200 * u + 0x8 * b
def R.PMU_SEL (c : Nat) : Nat := 0xb5000 + 0x8 * c
def R.PMU_CNT (c k : Nat) : Nat := 0xb5100 + 0x40 * c + 0x8 * k
def R.SAMP_CTL : Nat := 0xb5400
def R.SAMP_STAT : Nat := 0xb5408
def R.CAP_CFG (y : Nat) : Nat := 0xb5800 + 0x8 * y
def R.CAP_BUF_A (m : Nat) : Nat := 0xb5900 + 0x10 * m
def R.CAP_BUF_B (m : Nat) : Nat := 0xb5908 + 0x10 * m
def R.SEC_BOOT_STAT : Nat := 0xc0000
def R.SEC_FUSE_STAT : Nat := 0xc0008
def R.SEC_KEY_STAT : Nat := 0xc0010
def R.SEC_START_DOM : Nat := 0xc0018
def R.SEC_FLASH_CTL : Nat := 0xc0200
def R.SEC_FLASH_ADDR : Nat := 0xc0208
def R.SEC_FLASH_DATA : Nat := 0xc0210
def R.SEC_DIE_LOT (d : Nat) : Nat := 0xc0100 + 0x10 * d
def R.SEC_DIE_POS (d : Nat) : Nat := 0xc0108 + 0x10 * d
def R.TASK_CFG (t : Nat) : Nat := 0xc0400 + 0x20 * t
def R.TASK_STAT (t : Nat) : Nat := 0xc0408 + 0x20 * t
def R.RX_OCT_STAT (o : Nat) : Nat := 0x100000 + 0x10000 * o
def R.RX_AFE_CTL (o l : Nat) : Nat := 0x100040 + 0x10000 * o + 0x40 * l
def R.RX_AFE_STAT (o l : Nat) : Nat := 0x100048 + 0x10000 * o + 0x40 * l
def R.ADC_BG_CTL (o l : Nat) : Nat := 0x100050 + 0x10000 * o + 0x40 * l
def R.ADC_BG_STAT (o l : Nat) : Nat := 0x100058 + 0x10000 * o + 0x40 * l
def R.FFE_CTL (o l : Nat) : Nat := 0x100060 + 0x10000 * o + 0x40 * l
def R.FFE_STAT (o l : Nat) : Nat := 0x100068 + 0x10000 * o + 0x40 * l
def R.FFE_MASK (o l : Nat) : Nat := 0x100070 + 0x10000 * o + 0x40 * l
def R.TRL_CTL (o l : Nat) : Nat := 0x100078 + 0x10000 * o + 0x40 * l
def R.TRL_CH (o l : Nat) : Nat := 0x100280 + 0x10000 * o + 0x20 * l
def R.TRL_LVL (o l : Nat) : Nat := 0x100288 + 0x10000 * o + 0x20 * l
def R.TRL_STAT (o l : Nat) : Nat := 0x100290 + 0x10000 * o + 0x20 * l
def R.TX_SYN_CTL (o : Nat) : Nat := 0x100800 + 0x10000 * o
def R.TX_SYN_STAT (o : Nat) : Nat := 0x100808 + 0x10000 * o
def R.LOOP_CTL (o : Nat) : Nat := 0x100820 + 0x10000 * o
def R.LOOP_STAT (o : Nat) : Nat := 0x100828 + 0x10000 * o
def R.TX_FRAME_CTL (o : Nat) : Nat := 0x100830 + 0x10000 * o
def R.TONE_CTL (o : Nat) : Nat := 0x100838 + 0x10000 * o
def R.TX_SYN_CAL (o y : Nat) : Nat := 0x100810 + 0x10000 * o + 0x8 * y
def R.TX_LANE_CTL (o l : Nat) : Nat := 0x100840 + 0x10000 * o + 0x8 * l
def R.TX_LANE_STAT (o l : Nat) : Nat := 0x100890 + 0x10000 * o + 0x8 * l
def R.TX_DAC_LVL (o l : Nat) : Nat := 0x100900 + 0x10000 * o + 0x10 * l
def R.TX_FIR (o l : Nat) : Nat := 0x100908 + 0x10000 * o + 0x10 * l
def R.LAUNCH (o l e : Nat) : Nat := 0x100a00 + 0x10000 * o + 0x80 * l + 0x8 * e
def R.ADC_CAL (o l k : Nat) : Nat := 0x101000 + 0x10000 * o + 0x200 * l + 0x8 * k
def R.FFE_COEF (o l b j : Nat) : Nat := 0x102200 + 0x10000 * o + 0x100 * l + 0x80 * b + 0x8 * j
def R.MON_CTL (o l : Nat) : Nat := 0x103000 + 0x10000 * o + 0x80 * l
def R.MON_THR_LOS (o l : Nat) : Nat := 0x103008 + 0x10000 * o + 0x80 * l
def R.MON_THR_SNR (o l : Nat) : Nat := 0x103010 + 0x10000 * o + 0x80 * l
def R.MON_THR_IMB (o l : Nat) : Nat := 0x103018 + 0x10000 * o + 0x80 * l
def R.MON_THR_NF (o l : Nat) : Nat := 0x103020 + 0x10000 * o + 0x80 * l
def R.MON_STAT (o l : Nat) : Nat := 0x103028 + 0x10000 * o + 0x80 * l
def R.MON_T_A (o l : Nat) : Nat := 0x103030 + 0x10000 * o + 0x80 * l
def R.MON_T_B (o l : Nat) : Nat := 0x103038 + 0x10000 * o + 0x80 * l
def R.MON_T_SER (o l : Nat) : Nat := 0x103040 + 0x10000 * o + 0x80 * l
def R.MON_K_A (o l : Nat) : Nat := 0x103048 + 0x10000 * o + 0x80 * l
def R.MON_K_B (o l : Nat) : Nat := 0x103050 + 0x10000 * o + 0x80 * l
def R.MON_K_SER (o l : Nat) : Nat := 0x103058 + 0x10000 * o + 0x80 * l
def R.FRM_CTL (o : Nat) : Nat := 0x104000 + 0x10000 * o
def R.CAL_STAT (o : Nat) : Nat := 0x104008 + 0x10000 * o
def R.CAL_CNT (o : Nat) : Nat := 0x104010 + 0x10000 * o
def R.FEC_CAP_CTL (o : Nat) : Nat := 0x104020 + 0x10000 * o
def R.FEC_CAP_HDR (o : Nat) : Nat := 0x104028 + 0x10000 * o
def R.FEC_CAP_ERR (o i : Nat) : Nat := 0x104040 + 0x10000 * o + 0x8 * i
def R.FRM_LANE_STAT (o l : Nat) : Nat := 0x104100 + 0x10000 * o + 0x80 * l
def R.FRM_RX_FC (o l : Nat) : Nat := 0x104108 + 0x10000 * o + 0x80 * l
def R.FRM_RX_FAR (o l : Nat) : Nat := 0x104110 + 0x10000 * o + 0x80 * l
def R.FRM_RX_ARR (o l : Nat) : Nat := 0x104118 + 0x10000 * o + 0x80 * l
def R.FEC_CW (o l : Nat) : Nat := 0x104120 + 0x10000 * o + 0x80 * l
def R.FEC_CORR_CW (o l : Nat) : Nat := 0x104128 + 0x10000 * o + 0x80 * l
def R.FEC_UNC_CW (o l : Nat) : Nat := 0x104130 + 0x10000 * o + 0x80 * l
def R.FEC_CORR_SYM (o l : Nat) : Nat := 0x104138 + 0x10000 * o + 0x80 * l
def R.FEC_CORR_BIT (o l : Nat) : Nat := 0x104140 + 0x10000 * o + 0x80 * l
def R.FEC_ERASE_HIT (o l : Nat) : Nat := 0x104148 + 0x10000 * o + 0x80 * l
def R.FRM_RX_OAM (o l : Nat) : Nat := 0x104150 + 0x10000 * o + 0x80 * l
def R.FEC_HIST (o l b : Nat) : Nat := 0x104600 + 0x10000 * o + 0x80 * l + 0x8 * b
def R.ACQ_CTL (o : Nat) : Nat := 0x105000 + 0x10000 * o
def R.ACQ_STAT (o : Nat) : Nat := 0x105008 + 0x10000 * o
def R.CONV_STAT (o : Nat) : Nat := 0x105010 + 0x10000 * o
def R.RETIRE_STAT (o : Nat) : Nat := 0x105018 + 0x10000 * o
def R.ACQ_LANE_STAT (o l : Nat) : Nat := 0x105040 + 0x10000 * o + 0x20 * l
def R.RX_PI (o l : Nat) : Nat := 0x105048 + 0x10000 * o + 0x20 * l
def R.ACQ_CNT (o l : Nat) : Nat := 0x105050 + 0x10000 * o + 0x20 * l
def R.TRIM_CTL (o : Nat) : Nat := 0x106000 + 0x10000 * o
def R.TRIM_STAT (o : Nat) : Nat := 0x106008 + 0x10000 * o
def R.PLAN_OCT_CTL (o : Nat) : Nat := 0x106010 + 0x10000 * o
def R.TRIM_LAST (o : Nat) : Nat := 0x106018 + 0x10000 * o
def R.TRIM_Q (o l : Nat) : Nat := 0x106040 + 0x10000 * o + 0x20 * l
def R.TRIM_TX (o l : Nat) : Nat := 0x106048 + 0x10000 * o + 0x20 * l
def R.PLAN_LANE (o l : Nat) : Nat := 0x106050 + 0x10000 * o + 0x20 * l
def R.PLAN_LANE2 (o l : Nat) : Nat := 0x106058 + 0x10000 * o + 0x20 * l
def R.FLT_CTL_O (o : Nat) : Nat := 0x107000 + 0x10000 * o
def R.FLT_OCT_STAT (o : Nat) : Nat := 0x107008 + 0x10000 * o
def R.FLT_LANE (o l : Nat) : Nat := 0x107040 + 0x10000 * o + 0x8 * l
def R.PAT_CTL_O (o l : Nat) : Nat := 0x108000 + 0x10000 * o + 0x40 * l
def R.PAT_STAT_O (o l : Nat) : Nat := 0x108008 + 0x10000 * o + 0x40 * l
def R.PAT_ERR_O (o l : Nat) : Nat := 0x108010 + 0x10000 * o + 0x40 * l
def R.PAT_BITS_O (o l : Nat) : Nat := 0x108018 + 0x10000 * o + 0x40 * l
def R.PAT_USER_O (o l j : Nat) : Nat := 0x108020 + 0x10000 * o + 0x40 * l + 0x8 * j
def R.PAT_USER2_O (o l : Nat) : Nat := 0x108030 + 0x10000 * o + 0x40 * l
def R.SG_LAYOUT (g : Nat) : Nat := 0x200000 + 0x10000 * g
def R.SL_CTL (g i : Nat) : Nat := 0x200100 + 0x10000 * g + 0x80 * i
def R.SL_STAT (g i : Nat) : Nat := 0x200108 + 0x10000 * g + 0x80 * i
def R.SL_TXEQ (g i : Nat) : Nat := 0x200110 + 0x10000 * g + 0x80 * i
def R.SL_CNT (g i : Nat) : Nat := 0x200118 + 0x10000 * g + 0x80 * i
def R.SL_FEC_CW (g i : Nat) : Nat := 0x200120 + 0x10000 * g + 0x80 * i
def R.SL_FEC_CORR (g i : Nat) : Nat := 0x200128 + 0x10000 * g + 0x80 * i
def R.SL_FEC_UNC (g i : Nat) : Nat := 0x200130 + 0x10000 * g + 0x80 * i
def R.SL_RXTAP (g i k : Nat) : Nat := 0x200140 + 0x10000 * g + 0x80 * i + 0x8 * k
def R.SG_TRIM_CTL (g : Nat) : Nat := 0x201000 + 0x10000 * g
def R.SG_TRIM_STAT (g : Nat) : Nat := 0x201008 + 0x10000 * g
def R.FLT_CTL_G (g : Nat) : Nat := 0x202000 + 0x10000 * g
def R.FLT_SL (g i : Nat) : Nat := 0x202040 + 0x10000 * g + 0x8 * i
def R.PAT_CTL_G (g i : Nat) : Nat := 0x203000 + 0x10000 * g + 0x40 * i
def R.PAT_STAT_G (g i : Nat) : Nat := 0x203008 + 0x10000 * g + 0x40 * i
def R.PAT_ERR_G (g i : Nat) : Nat := 0x203010 + 0x10000 * g + 0x40 * i
def R.PAT_BITS_G (g i : Nat) : Nat := 0x203018 + 0x10000 * g + 0x40 * i
def R.PAT_USER_G (g i j : Nat) : Nat := 0x203020 + 0x10000 * g + 0x40 * i + 0x8 * j
def R.PAT_USER2_G (g i : Nat) : Nat := 0x203030 + 0x10000 * g + 0x40 * i
def R.MAP_CLI_DEF (c : Nat) : Nat := 0x300000 + 0x20 * c
def R.MAP_CLI_END (c : Nat) : Nat := 0x300008 + 0x20 * c
def R.MAP_CLI_STAT (c : Nat) : Nat := 0x300010 + 0x20 * c
def R.MAP_CLI_CNT (c : Nat) : Nat := 0x300018 + 0x20 * c
def R.MAP_CTL : Nat := 0x310000
def R.MAP_STAT : Nat := 0x310008
def R.DSK_STAT : Nat := 0x310010
def R.PROT_END (c : Nat) : Nat := 0x320000 + 0x40 * c
def R.PROT_CFG (c : Nat) : Nat := 0x320008 + 0x40 * c
def R.PROT_STAT (c : Nat) : Nat := 0x320010 + 0x40 * c
def R.PROT_DELAY (c : Nat) : Nat := 0x320018 + 0x40 * c
def R.PROT_CNT (c : Nat) : Nat := 0x320020 + 0x40 * c
def R.PROT_CNT2 (c : Nat) : Nat := 0x320028 + 0x40 * c
def R.HALY_CTL (o : Nat) : Nat := 0x380000 + 0x800 * o
def R.HALY_DET (o : Nat) : Nat := 0x380008 + 0x800 * o
def R.HALY_SHARE (o : Nat) : Nat := 0x380010 + 0x800 * o
def R.HALY_STAT (o : Nat) : Nat := 0x380018 + 0x800 * o
def R.HALY_RX_LVL (o : Nat) : Nat := 0x380020 + 0x800 * o
def R.HALY_CNT (o : Nat) : Nat := 0x380028 + 0x800 * o
def R.HALY_CNT2 (o : Nat) : Nat := 0x380030 + 0x800 * o
def R.HALY_TX_CNT (o : Nat) : Nat := 0x380038 + 0x800 * o
def R.HALY_TT_OFFSET (o : Nat) : Nat := 0x380040 + 0x800 * o
def R.HALY_TT_DELAY (o : Nat) : Nat := 0x380048 + 0x800 * o
def R.HALY_TT_STAT (o : Nat) : Nat := 0x380050 + 0x800 * o
def R.HALY_ALIVE (o k : Nat) : Nat := 0x380080 + 0x800 * o + 0x8 * k

/-! Field bit ranges: lowest bit and width. -/

def F.GLB_ID_DEVICE : Fld := ⟨0, 16⟩
def F.GLB_ID_STEPPING : Fld := ⟨16, 8⟩
def F.GLB_ID_ORDER : Fld := ⟨24, 1⟩
def F.GLB_ID_VENDOR : Fld := ⟨32, 16⟩
def F.GLB_SERIAL_SERIAL : Fld := ⟨0, 64⟩
def F.GLB_VERSION_MAP_VER : Fld := ⟨0, 8⟩
def F.GLB_VERSION_ROM_VER : Fld := ⟨8, 8⟩
def F.GLB_VERSION_FW_VER : Fld := ⟨16, 7⟩
def F.GLB_VERSION_FW_BUILD : Fld := ⟨32, 32⟩
def F.GLB_LOCK_LOCK : Fld := ⟨0, 1⟩
def F.GLB_LOCK_TICK : Fld := ⟨1, 48⟩
def F.GLB_SCRATCH0_DATA : Fld := ⟨0, 64⟩
def F.GLB_SCRATCH1_DATA : Fld := ⟨0, 64⟩
def F.GLB_ERR_STAT_COUNT : Fld := ⟨0, 7⟩
def F.GLB_ERR_STAT_DROP_CNT : Fld := ⟨8, 16⟩
def F.GLB_ERR_STAT_TOTAL : Fld := ⟨24, 32⟩
def F.GLB_ERR_A_OFFSET : Fld := ⟨0, 24⟩
def F.GLB_ERR_A_CAUSE : Fld := ⟨24, 4⟩
def F.GLB_ERR_A_WRITE : Fld := ⟨28, 1⟩
def F.GLB_ERR_A_SOURCE : Fld := ⟨29, 1⟩
def F.GLB_ERR_A_SIZE : Fld := ⟨30, 2⟩
def F.GLB_ERR_A_DOMAIN : Fld := ⟨32, 6⟩
def F.GLB_ERR_A_VALID : Fld := ⟨38, 1⟩
def F.GLB_ERR_A_BAR : Fld := ⟨39, 1⟩
def F.GLB_ERR_B_TICK : Fld := ⟨0, 48⟩
def F.GLB_ERR_C_DATA : Fld := ⟨0, 64⟩
def F.TICK_COUNT_TICK_COUNT : Fld := ⟨0, 64⟩
def F.TICK_STATUS_TICK_IDX : Fld := ⟨0, 17⟩
def F.TICK_STATUS_ACTIVE : Fld := ⟨17, 1⟩
def F.TICK_STATUS_SLEWING : Fld := ⟨18, 1⟩
def F.TICK_STATUS_REF_IN_USE : Fld := ⟨19, 1⟩
def F.TICK_OVERRUN_CNT_CNT : Fld := ⟨0, 64⟩
def F.TICK_BUDGET_CMD_NS : Fld := ⟨0, 16⟩
def F.TICK_BUDGET_TASK_NS : Fld := ⟨16, 16⟩
def F.TICK_BUDGET_TRIM_NS : Fld := ⟨32, 16⟩
def F.TICK_BUDGET_TELEM_NS : Fld := ⟨48, 16⟩
def F.DOM_INCR_INCR : Fld := ⟨0, 48⟩
def F.DOM_TIME_NS_FRAC : Fld := ⟨0, 16⟩
def F.DOM_TIME_NS_NS : Fld := ⟨16, 32⟩
def F.DOM_TIME_SEC_SEC : Fld := ⟨0, 48⟩
def F.DOM_ADJ_ADJ : Fld := ⟨0, 64⟩
def F.DOM_SET_SEC_SEC : Fld := ⟨0, 48⟩
def F.DOM_CTL_OWNER : Fld := ⟨0, 1⟩
def F.TS_OFFSET_OUT_OFFSET : Fld := ⟨0, 64⟩
def F.TS_CTL_SLEW_PPB : Fld := ⟨0, 7⟩
def F.TS_CTL_REF_SEL : Fld := ⟨7, 1⟩
def F.TS_CTL_REF_AUTO : Fld := ⟨8, 1⟩
def F.PPS_OUT_CTL_EN : Fld := ⟨0, 1⟩
def F.PPS_OUT_CTL_WIDTH_TICKS : Fld := ⟨1, 16⟩
def F.PPS_OUT_CTL_OFFSET_NS : Fld := ⟨32, 30⟩
def F.PPS_IN_STAT_EDGE_CNT : Fld := ⟨0, 32⟩
def F.PPS_IN_STAT_REJECT_CNT : Fld := ⟨32, 16⟩
def F.TRIG_CTL_ARM : Fld := ⟨0, 1⟩
def F.TRIG_CTL_DOM : Fld := ⟨1, 2⟩
def F.TRIG_CTL_ACT : Fld := ⟨3, 3⟩
def F.TRIG_CTL_ARG : Fld := ⟨6, 16⟩
def F.TRIG_CTL_PIN : Fld := ⟨22, 3⟩
def F.TRIG_CTL_PULSE_TICKS : Fld := ⟨25, 16⟩
def F.TRIG_CTL_LATE : Fld := ⟨41, 1⟩
def F.TRIG_CTL_MISSED_CNT : Fld := ⟨42, 16⟩
def F.TRIG_NS_FRAC : Fld := ⟨0, 16⟩
def F.TRIG_NS_NS : Fld := ⟨16, 32⟩
def F.TRIG_SEC_SEC : Fld := ⟨0, 48⟩
def F.TRIG_PERIOD_PERIOD_NS : Fld := ⟨0, 48⟩
def F.TP_CTL_EN : Fld := ⟨0, 1⟩
def F.TP_CTL_FEC : Fld := ⟨1, 1⟩
def F.TP_CTL_HOST_COPY : Fld := ⟨2, 1⟩
def F.TP_CTL_MQ_RING : Fld := ⟨3, 16⟩
def F.TP_LAT_TX_LAT : Fld := ⟨0, 16⟩
def F.TP_LAT_RX_LAT : Fld := ⟨16, 16⟩
def F.PAT_CTL_GEN : Fld := ⟨0, 4⟩
def F.PAT_CTL_CHK : Fld := ⟨4, 4⟩
def F.PAT_CTL_SQ_HALF : Fld := ⟨8, 6⟩
def F.PAT_CTL_LOOP : Fld := ⟨14, 2⟩
def F.PAT_CTL_FORCED : Fld := ⟨16, 1⟩
def F.PAT_STAT_LOCK : Fld := ⟨0, 1⟩
def F.PAT_STAT_GEN_ACTIVE : Fld := ⟨1, 1⟩
def F.PAT_STAT_LOCK_LOSS : Fld := ⟨2, 16⟩
def F.PAT_STAT_SLIP_CNT : Fld := ⟨18, 16⟩
def F.PAT_ERR_CNT : Fld := ⟨0, 64⟩
def F.PAT_BITS_CNT : Fld := ⟨0, 64⟩
def F.PAT_USER_BITS : Fld := ⟨0, 64⟩
def F.PAT_USER2_BITS : Fld := ⟨0, 32⟩
def F.RING_OP_OP : Fld := ⟨0, 2⟩
def F.RING_OP_RING : Fld := ⟨2, 16⟩
def F.RING_OP_HEAD : Fld := ⟨18, 16⟩
def F.RING_OP_STAT_DONE : Fld := ⟨0, 1⟩
def F.RING_OP_STAT_ERR : Fld := ⟨1, 3⟩
def F.RING_OP_STAT_RING : Fld := ⟨4, 16⟩
def F.RING_CTX_A_BASE : Fld := ⟨12, 52⟩
def F.RING_CTX_B_TYPE : Fld := ⟨0, 3⟩
def F.RING_CTX_B_LOG2_SIZE : Fld := ⟨3, 5⟩
def F.RING_CTX_B_VECTOR : Fld := ⟨8, 11⟩
def F.RING_CTX_B_INT_EN : Fld := ⟨19, 1⟩
def F.RING_CTX_B_MOD_COUNT : Fld := ⟨20, 8⟩
def F.RING_CTX_B_MOD_TICKS : Fld := ⟨28, 8⟩
def F.RING_CTX_B_CQ : Fld := ⟨36, 16⟩
def F.RING_CTX_C_INIT_HSEQ : Fld := ⟨0, 16⟩
def F.RING_CTX_C_SECTIONS : Fld := ⟨16, 4⟩
def F.RING_CTX_C_OCT_MASK : Fld := ⟨20, 16⟩
def F.RING_CTX_C_SG_MASK : Fld := ⟨36, 16⟩
def F.RING_CTX_D_HEAD : Fld := ⟨0, 16⟩
def F.RING_CTX_D_TAIL : Fld := ⟨16, 16⟩
def F.RING_CTX_D_EXP_HSEQ : Fld := ⟨32, 16⟩
def F.RING_CTX_D_STATE : Fld := ⟨48, 3⟩
def F.RING_CTX_D_HALT_CAUSE : Fld := ⟨51, 3⟩
def F.RING_CTX_E_LAST_DSEQ : Fld := ⟨0, 32⟩
def F.RING_CTX_E_OUTSTANDING : Fld := ⟨32, 16⟩
def F.RING_CTX_E_DB_HSEQ : Fld := ⟨48, 16⟩
def F.RING_ENG_STAT_OUTSTANDING : Fld := ⟨0, 15⟩
def F.RING_ENG_STAT_LINK_UP : Fld := ⟨15, 1⟩
def F.RING_ENG_STAT_CREATED : Fld := ⟨16, 17⟩
def F.RING_CNT_DB_IGNORED : Fld := ⟨0, 16⟩
def F.RING_CNT_DB_BAD : Fld := ⟨16, 16⟩
def F.RING_CNT_CHECK_FAIL_CNT : Fld := ⟨32, 16⟩
def F.RING_CNT_SEQ_GAP_CNT : Fld := ⟨48, 16⟩
def F.RING_CNT2_EVT_DROP : Fld := ⟨0, 32⟩
def F.RING_CNT2_REC_DROP : Fld := ⟨32, 32⟩
def F.PWR_CTL_DELAY_MAX : Fld := ⟨0, 16⟩
def F.PWR_STAT_CORE_CLK : Fld := ⟨0, 1⟩
def F.PWR_STAT_STOPPING : Fld := ⟨1, 1⟩
def F.PWR_DOM_STAT_STATE : Fld := ⟨0, 2⟩
def F.PWR_DOM_STAT_TRANS : Fld := ⟨2, 3⟩
def F.PWR_DOM_STAT_PENDING : Fld := ⟨5, 1⟩
def F.PWR_DOM_STAT_PEND_STATE : Fld := ⟨6, 2⟩
def F.PWR_DOM_STAT_LAST_ANS : Fld := ⟨8, 2⟩
def F.PWR_DOM_STAT_CAUSE : Fld := ⟨10, 4⟩
def F.PWR_DOM_STAT_DELAY_LEFT : Fld := ⟨14, 7⟩
def F.PWR_DOM_STAT_TICK : Fld := ⟨21, 43⟩
def F.PWR_DOM_WAKE_SIG_EN : Fld := ⟨0, 1⟩
def F.PWR_DOM_WAKE_TICK_EN : Fld := ⟨1, 1⟩
def F.PWR_DOM_WAKE_LAST_SRC : Fld := ⟨2, 2⟩
def F.PWR_DOM_WAKE_WAKE_TICK : Fld := ⟨16, 48⟩
def F.THERM_CTL_RATE_LIM : Fld := ⟨0, 10⟩
def F.THERM_CTL_RATE_WIN : Fld := ⟨10, 16⟩
def F.THERM_LVL_WARN : Fld := ⟨0, 16⟩
def F.THERM_LVL_CRIT : Fld := ⟨16, 16⟩
def F.THERM_LVL_TRIP : Fld := ⟨32, 16⟩
def F.THERM_LVL_HYST : Fld := ⟨48, 8⟩
def F.THERM_STAT_MAX_TEMP : Fld := ⟨0, 16⟩
def F.THERM_STAT_MAX_SENS : Fld := ⟨16, 6⟩
def F.THERM_STAT_MAX_RATE : Fld := ⟨22, 16⟩
def F.THERM_STAT_RATE_SENS : Fld := ⟨38, 6⟩
def F.THERM_SENS_TEMP : Fld := ⟨0, 16⟩
def F.THERM_SENS_RATE : Fld := ⟨16, 16⟩
def F.THERM_SENS_WARN : Fld := ⟨32, 1⟩
def F.THERM_SENS_RATE_HIGH : Fld := ⟨33, 1⟩
def F.ENG_THERM_ADDR : Fld := ⟨0, 7⟩
def F.ENG_THERM_REG : Fld := ⟨7, 16⟩
def F.ENG_THERM_EN : Fld := ⟨23, 1⟩
def F.ENG_THERM_TEMP : Fld := ⟨24, 16⟩
def F.ENG_THERM_LVL_ENG_WARN : Fld := ⟨0, 16⟩
def F.ENG_THERM_LVL_ENG_CRIT : Fld := ⟨16, 16⟩
def F.REEF_CTL_EN : Fld := ⟨0, 1⟩
def F.REEF_CTL_GRACE : Fld := ⟨1, 20⟩
def F.REEF_CTL_GRACE2 : Fld := ⟨21, 20⟩
def F.REEF_CTL_HOLD : Fld := ⟨41, 20⟩
def F.REEF_CTL_MANUAL : Fld := ⟨61, 1⟩
def F.REEF_STAT_STAGE : Fld := ⟨0, 2⟩
def F.REEF_STAT_TRIG : Fld := ⟨2, 5⟩
def F.REEF_STAT_TIMER : Fld := ⟨7, 20⟩
def F.REEF_STAT_SHED : Fld := ⟨27, 10⟩
def F.REEF_STAT_ENTRY_CNT : Fld := ⟨37, 16⟩
def F.AVS_CTL_EN : Fld := ⟨0, 1⟩
def F.AVS_CTL_MARGIN_MV : Fld := ⟨1, 6⟩
def F.AVS_CTL_STEP_MV : Fld := ⟨7, 4⟩
def F.AVS_STAT_TARGET : Fld := ⟨0, 13⟩
def F.AVS_STAT_VOUT : Fld := ⟨13, 13⟩
def F.AVS_STAT_IOUT : Fld := ⟨26, 12⟩
def F.AVS_STAT_LIMIT : Fld := ⟨38, 1⟩
def F.AVS_STAT_BASE : Fld := ⟨39, 13⟩
def F.PMB_CTL_SPEED : Fld := ⟨0, 2⟩
def F.PMB_CTL_POLL_TICKS : Fld := ⟨2, 16⟩
def F.PMB_DEV_ADDR : Fld := ⟨0, 7⟩
def F.PMB_DEV_PAGE : Fld := ⟨7, 8⟩
def F.PMB_DEV_RAIL : Fld := ⟨15, 4⟩
def F.PMB_DEV_GROUP : Fld := ⟨19, 2⟩
def F.PMB_DEV_POLL : Fld := ⟨21, 1⟩
def F.PMB_DEV_SEQ : Fld := ⟨22, 1⟩
def F.PMB_DEV_TRIP_OFF : Fld := ⟨23, 1⟩
def F.PMB_STAT_STATUS_WORD : Fld := ⟨0, 16⟩
def F.PMB_STAT_VOUT : Fld := ⟨16, 16⟩
def F.PMB_STAT_IOUT : Fld := ⟨32, 16⟩
def F.PMB_STAT_TEMP : Fld := ⟨48, 16⟩
def F.PLAN_CTL_EN : Fld := ⟨0, 1⟩
def F.PLAN_CTL_SNR_REQ_F : Fld := ⟨1, 11⟩
def F.PLAN_CTL_SNR_REQ_S : Fld := ⟨12, 11⟩
def F.PLAN_CTL_GUARD : Fld := ⟨23, 8⟩
def F.PLAN_CTL_HORIZON_H : Fld := ⟨31, 14⟩
def F.PLAN_CTL_RETIRE_H : Fld := ⟨45, 10⟩
def F.PLAN_CTL2_WINDOW_H : Fld := ⟨0, 14⟩
def F.PLAN_CTL2_SLOPE_MIN : Fld := ⟨14, 10⟩
def F.PLAN_CTL2_SHORTEN_DB : Fld := ⟨24, 8⟩
def F.PLAN_STAT_LAST_TICK : Fld := ⟨0, 48⟩
def F.PLAN_STAT_ACTION_CNT : Fld := ⟨48, 16⟩
def F.JRN_STAT_SEQ : Fld := ⟨0, 32⟩
def F.JRN_STAT_READY : Fld := ⟨32, 1⟩
def F.JRN_STAT_FOREIGN : Fld := ⟨33, 1⟩
def F.JRN_STAT_ENTRIES : Fld := ⟨34, 14⟩
def F.JRN_CNT_FLASH_FAIL : Fld := ⟨0, 16⟩
def F.JRN_CNT_CRC_BAD : Fld := ⟨16, 16⟩
def F.TRIM_HK_OFS : Fld := ⟨0, 16⟩
def F.TRIM_HK_TEMP : Fld := ⟨16, 16⟩
def F.AGE_DIE_MEAN : Fld := ⟨0, 24⟩
def F.AGE_DIE_MAX : Fld := ⟨24, 24⟩
def F.AGE_DIE_MAX_MON : Fld := ⟨48, 6⟩
def F.AGE_WEAR_DEG : Fld := ⟨0, 24⟩
def F.AGE_WEAR_VALID : Fld := ⟨24, 1⟩
def F.IN_CTL_WIDTH : Fld := ⟨0, 10⟩
def F.IN_CTL_STORM_MAX : Fld := ⟨10, 8⟩
def F.IN_CTL_EV_EN : Fld := ⟨18, 1⟩
def F.IN_CTL_EDGE_CNT : Fld := ⟨32, 32⟩
def F.IN_LEVEL_LEVEL : Fld := ⟨0, 21⟩
def F.IN_STORM_STORM : Fld := ⟨0, 21⟩
def F.WDT_CTL_EN : Fld := ⟨0, 1⟩
def F.WDT_CTL_TIMEOUT : Fld := ⟨1, 15⟩
def F.WDT_CTL_ACTION : Fld := ⟨16, 1⟩
def F.WDT_STAT_LAST_FAULT : Fld := ⟨0, 8⟩
def F.WDT_STAT_EXPIRE_CNT : Fld := ⟨8, 16⟩
def F.HK_SEQ_CTL_EN : Fld := ⟨0, 1⟩
def F.HK_SEQ_CTL_RESTART : Fld := ⟨1, 1⟩
def F.HK_STAT_ENTRY : Fld := ⟨0, 8⟩
def F.HK_STAT_TRIG : Fld := ⟨8, 1⟩
def F.HK_STAT_TRIG_PEND : Fld := ⟨9, 1⟩
def F.HK_STAT_LOOPS : Fld := ⟨10, 32⟩
def F.HK_STAT_TRIG_DROP : Fld := ⟨42, 16⟩
def F.HK_PLAUS_CTL_TOL : Fld := ⟨0, 16⟩
def F.HK_PLAUS_STAT_LAST_DIFF : Fld := ⟨0, 16⟩
def F.HK_PLAUS_STAT_FAIL_CNT : Fld := ⟨16, 16⟩
def F.HK_PLAUS_STAT_CHECK_CNT : Fld := ⟨32, 16⟩
def F.HK_SEQ_CH : Fld := ⟨0, 10⟩
def F.HK_SEQ_REPEAT : Fld := ⟨10, 4⟩
def F.HK_SEQ_SETTLE : Fld := ⟨14, 8⟩
def F.HK_SEQ_LOOP : Fld := ⟨22, 1⟩
def F.HK_SEQ_CHECK : Fld := ⟨23, 1⟩
def F.HK_CH_CAL_OFS : Fld := ⟨0, 16⟩
def F.HK_CH_CAL_GAIN : Fld := ⟨16, 16⟩
def F.HK_RES_VALUE : Fld := ⟨0, 16⟩
def F.HK_RES_RAW : Fld := ⟨16, 16⟩
def F.HK_RES_UNSETTLED : Fld := ⟨32, 1⟩
def F.HK_RES_CONV : Fld := ⟨33, 1⟩
def F.HK_RES_CHECK : Fld := ⟨34, 1⟩
def F.HK_RES_TICK : Fld := ⟨35, 29⟩
def F.HK_IN_CFG_MIN_SETTLE : Fld := ⟨0, 8⟩
def F.EDAC_CTL_RB_TOL : Fld := ⟨0, 10⟩
def F.EDAC_CTL_FAULT_CLR : Fld := ⟨10, 16⟩
def F.EDAC_CTL_FORCE_CLR : Fld := ⟨26, 4⟩
def F.EDAC_STAT_CLR_PIN : Fld := ⟨0, 4⟩
def F.EDAC_STAT_FAULT_ACT : Fld := ⟨4, 16⟩
def F.LR_CTL_TICKS : Fld := ⟨0, 12⟩
def F.LR_STAT_STATE : Fld := ⟨0, 2⟩
def F.LR_STAT_LEFT : Fld := ⟨2, 12⟩
def F.LR_STAT_CAUSE : Fld := ⟨14, 4⟩
def F.LR_STAT_TICK : Fld := ⟨18, 46⟩
def F.ENG_I2C_CTL_SPEED : Fld := ⟨0, 2⟩
def F.ENG_I2C_CTL_STRETCH_MAX : Fld := ⟨2, 16⟩
def F.ENG_I2C_CTL_EN : Fld := ⟨18, 1⟩
def F.ENG_I2C_STAT_BUSY : Fld := ⟨0, 1⟩
def F.ENG_I2C_STAT_NAK_CNT : Fld := ⟨16, 16⟩
def F.ENG_I2C_STAT_TIMEOUT_CNT : Fld := ⟨32, 16⟩
def F.ENG_I2C_STAT_RECOVER_CNT : Fld := ⟨48, 16⟩
def F.ENG_MPD_ADDR : Fld := ⟨0, 7⟩
def F.ENG_MPD_REG : Fld := ⟨7, 16⟩
def F.ENG_MPD_STRIDE : Fld := ⟨23, 8⟩
def F.ENG_MPD_BE : Fld := ⟨31, 1⟩
def F.ENG_MPD_EN : Fld := ⟨32, 1⟩
def F.EDAC_CH_CFG_SPAN : Fld := ⟨0, 2⟩
def F.EDAC_CH_CFG_RB_EN : Fld := ⟨2, 1⟩
def F.EDAC_CH_STAT_CODE : Fld := ⟨0, 16⟩
def F.EDAC_CH_STAT_QDEPTH : Fld := ⟨16, 4⟩
def F.EDAC_CH_STAT_OWNER : Fld := ⟨20, 2⟩
def F.EDAC_CH_STAT_SPAN_PEND : Fld := ⟨22, 1⟩
def F.EDAC_CH_STAT_RB : Fld := ⟨24, 16⟩
def F.EDAC_CH_STAT_RB_FAIL_CNT : Fld := ⟨40, 16⟩
def F.EDAC_CLR_CODE : Fld := ⟨0, 16⟩
def F.EDAC_RAMP_CTL_TICKS : Fld := ⟨0, 12⟩
def F.EDAC_RAMP_CTL_COUNT : Fld := ⟨12, 6⟩
def F.EDAC_RAMP_CTL_BUSY : Fld := ⟨18, 1⟩
def F.EDAC_RAMP_ENT_CH : Fld := ⟨0, 9⟩
def F.EDAC_RAMP_ENT_TARGET : Fld := ⟨16, 16⟩
def F.PAIR_CTL_AUTO : Fld := ⟨0, 1⟩
def F.PAIR_CTL_FENCE_EN : Fld := ⟨1, 1⟩
def F.PAIR_CTL_FENCE_TICKS : Fld := ⟨2, 4⟩
def F.PAIR_CTL_PAIR_MISS_TICKS : Fld := ⟨6, 8⟩
def F.PAIR_STAT_ROLE : Fld := ⟨0, 1⟩
def F.PAIR_STAT_PRESENT : Fld := ⟨1, 1⟩
def F.PAIR_STAT_LOCK_IN : Fld := ⟨2, 1⟩
def F.PAIR_STAT_HOLDER : Fld := ⟨3, 1⟩
def F.PAIR_STAT_STATE : Fld := ⟨4, 3⟩
def F.PAIR_STAT_HB_LOST : Fld := ⟨7, 1⟩
def F.PAIR_STAT_TWIN_SYNCED : Fld := ⟨8, 1⟩
def F.PAIR_STAT_DUAL : Fld := ⟨9, 1⟩
def F.PAIR_STAT_PLAN_DIFF : Fld := ⟨10, 1⟩
def F.PAIR_STAT_TWIN_TIME : Fld := ⟨11, 1⟩
def F.PAIR_MIR_STAT_TX_ALIVE : Fld := ⟨0, 16⟩
def F.PAIR_MIR_STAT_ACK_ALIVE : Fld := ⟨16, 16⟩
def F.PAIR_MIR_STAT_PENDING : Fld := ⟨32, 10⟩
def F.PAIR_MIR_STAT_BULK_LEFT : Fld := ⟨42, 8⟩
def F.PAIR_MIR_STAT_IMAGE : Fld := ⟨50, 5⟩
def F.PAIR_CNT_RESEND_CNT : Fld := ⟨0, 16⟩
def F.PAIR_CNT_JUMP_CNT : Fld := ⟨16, 16⟩
def F.PAIR_CNT_STALE_CNT : Fld := ⟨32, 8⟩
def F.PAIR_CNT_LOOPED : Fld := ⟨40, 8⟩
def F.PAIR_CNT_TAKEOVER_CNT : Fld := ⟨48, 16⟩
def F.PAIR_TWIN_DT_DT : Fld := ⟨0, 64⟩
def F.PAIR_LAST_TICK : Fld := ⟨0, 48⟩
def F.PAIR_LAST_EVENT : Fld := ⟨48, 3⟩
def F.SHRD_CTL_EN : Fld := ⟨0, 1⟩
def F.SHRD_CTL_LOOP : Fld := ⟨1, 2⟩
def F.SHRD_STAT_LINK : Fld := ⟨0, 3⟩
def F.SHRD_STAT_LANE_LOCK : Fld := ⟨3, 8⟩
def F.SHRD_STAT_CLK_LOCK : Fld := ⟨11, 1⟩
def F.SHRD_STAT_SKEW : Fld := ⟨12, 8⟩
def F.SHRD_LANE_STAT_STATE : Fld := ⟨0, 3⟩
def F.SHRD_LANE_STAT_COARSE_HIT : Fld := ⟨3, 1⟩
def F.SHRD_LANE_STAT_EXACT : Fld := ⟨4, 1⟩
def F.SHRD_LANE_STAT_FINE : Fld := ⟨5, 6⟩
def F.SHRD_LANE_STAT_WINDOW : Fld := ⟨11, 1⟩
def F.SHRD_LANE_STAT_SEARCH_TICKS : Fld := ⟨12, 8⟩
def F.SHRD_LANE_STAT_SKEW : Fld := ⟨20, 8⟩
def F.SHRD_LANE_CNT_LOCK_LOSS : Fld := ⟨0, 16⟩
def F.SHRD_LANE_CNT_HDR_ERR : Fld := ⟨32, 32⟩
def F.CHK_CTL_EN : Fld := ⟨0, 1⟩
def F.CHK_CTL_MODE : Fld := ⟨1, 1⟩
def F.CHK_CTL_POLY : Fld := ⟨2, 2⟩
def F.CHK_CTL_START : Fld := ⟨4, 1⟩
def F.CHK_CTL_STREAM : Fld := ⟨5, 1⟩
def F.CHK_CTL_RES_VALID : Fld := ⟨6, 1⟩
def F.CHK_VAL_VAL : Fld := ⟨0, 64⟩
def F.CHK_DATA_DATA : Fld := ⟨0, 64⟩
def F.CHK_TAIL_DATA : Fld := ⟨0, 56⟩
def F.CHK_TAIL_COUNT : Fld := ⟨56, 3⟩
def F.CHK_RES_RES : Fld := ⟨0, 64⟩
def F.CHK_CNT_FRAMES : Fld := ⟨0, 32⟩
def F.CHK_CNT_MISMATCH : Fld := ⟨32, 32⟩
def F.MEM_ECC_CTL_SOFT_THR : Fld := ⟨0, 8⟩
def F.MEM_ECC_CTL_REFRESH_EN : Fld := ⟨8, 1⟩
def F.MEM_CORR_LOG_MEM_ID : Fld := ⟨0, 11⟩
def F.MEM_CORR_LOG_POS : Fld := ⟨11, 7⟩
def F.MEM_CORR_LOG_SYNDROME : Fld := ⟨18, 8⟩
def F.MEM_CORR_LOG_TICK : Fld := ⟨26, 38⟩
def F.MEM_CORR_ADDR_ADDR : Fld := ⟨0, 64⟩
def F.MEM_UNC_LOG_MEM_ID : Fld := ⟨0, 11⟩
def F.MEM_UNC_LOG_SYNDROME : Fld := ⟨11, 8⟩
def F.MEM_UNC_LOG_POISON : Fld := ⟨19, 1⟩
def F.MEM_UNC_LOG_TICK : Fld := ⟨20, 44⟩
def F.MEM_UNC_ADDR_ADDR : Fld := ⟨0, 64⟩
def F.MEM_REPAIR_STAT_SOFT_USED : Fld := ⟨0, 8⟩
def F.MEM_REPAIR_STAT_UNREPAIRED : Fld := ⟨8, 8⟩
def F.MEM_REPAIR_STAT_BAD_MACROS : Fld := ⟨16, 16⟩
def F.REFRESH_STAT_REFRESH_FIX : Fld := ⟨0, 32⟩
def F.REFRESH_STAT_LOST_CNT : Fld := ⟨32, 16⟩
def F.MEM_BAD_MACRO_BAD : Fld := ⟨0, 64⟩
def F.MEM_CNT_CORR : Fld := ⟨0, 32⟩
def F.MEM_CNT_CHK_ONLY : Fld := ⟨32, 16⟩
def F.MEM_CNT_UNC : Fld := ⟨48, 16⟩
def F.D2D_CNT_CORR : Fld := ⟨0, 32⟩
def F.D2D_CNT_UNC : Fld := ⟨32, 16⟩
def F.MEM_TEST_CTL_OP : Fld := ⟨0, 2⟩
def F.MEM_TEST_CTL_DIE : Fld := ⟨2, 3⟩
def F.MEM_TEST_CTL_MACRO : Fld := ⟨5, 8⟩
def F.MEM_TEST_CTL_WORD : Fld := ⟨13, 15⟩
def F.MEM_TEST_DATA_DATA : Fld := ⟨0, 64⟩
def F.MEM_TEST_CHK_CHK : Fld := ⟨0, 8⟩
def F.MEM_TEST_CHK_SYNDROME : Fld := ⟨8, 8⟩
def F.GD_CTL_RETRAIN_DT : Fld := ⟨0, 8⟩
def F.GD_CTL_EDC_RETRY : Fld := ⟨8, 4⟩
def F.GD_CTL_OTHER_MAX : Fld := ⟨12, 6⟩
def F.GD_STAT_READY : Fld := ⟨0, 1⟩
def F.GD_STAT_CH_FAIL : Fld := ⟨1, 24⟩
def F.GD_STAT_RETRAIN_CNT : Fld := ⟨25, 16⟩
def F.GD_CH_STAT_TRAINED : Fld := ⟨0, 1⟩
def F.GD_CH_STAT_FAIL : Fld := ⟨1, 1⟩
def F.GD_CH_STAT_TRAIN_TEMP : Fld := ⟨2, 16⟩
def F.GD_CH_STAT_TRAIN_TICK : Fld := ⟨18, 46⟩
def F.GD_CH_CNT_EDC_ERR : Fld := ⟨0, 32⟩
def F.GD_CH_CNT_RETRY_FAIL : Fld := ⟨32, 16⟩
def F.PERF_CTL_GATE : Fld := ⟨0, 2⟩
def F.PERF_WIN_START_TICK : Fld := ⟨0, 48⟩
def F.PERF_WIN_STOP_TICK : Fld := ⟨0, 48⟩
def F.PERF_SEL_EVENT : Fld := ⟨0, 12⟩
def F.PERF_SEL_EN : Fld := ⟨12, 1⟩
def F.PERF_CNT_CNT : Fld := ⟨0, 64⟩
def F.HIST_CTL_EN : Fld := ⟨0, 1⟩
def F.HIST_CTL_FREEZE : Fld := ⟨1, 1⟩
def F.HIST_CTL_CLEAR : Fld := ⟨2, 1⟩
def F.HIST_CTL_SRC : Fld := ⟨3, 3⟩
def F.HIST_CTL_ARG : Fld := ⟨6, 16⟩
def F.HIST_CFG_BIN_W : Fld := ⟨0, 16⟩
def F.HIST_CFG_BASE : Fld := ⟨16, 32⟩
def F.HIST_CFG_SCALE : Fld := ⟨48, 1⟩
def F.HIST_STAT_MIN : Fld := ⟨0, 24⟩
def F.HIST_STAT_MAX : Fld := ⟨24, 24⟩
def F.HIST_STAT_LOST : Fld := ⟨48, 16⟩
def F.HIST_SUM_SUM : Fld := ⟨0, 64⟩
def F.HIST_BIN_CNT : Fld := ⟨0, 64⟩
def F.PMU_SEL_EVENT0 : Fld := ⟨0, 8⟩
def F.PMU_SEL_EVENT1 : Fld := ⟨8, 8⟩
def F.PMU_SEL_EVENT2 : Fld := ⟨16, 8⟩
def F.PMU_SEL_EVENT3 : Fld := ⟨24, 8⟩
def F.PMU_SEL_EVENT4 : Fld := ⟨32, 8⟩
def F.PMU_SEL_EVENT5 : Fld := ⟨40, 8⟩
def F.PMU_SEL_EVENT6 : Fld := ⟨48, 8⟩
def F.PMU_SEL_EVENT7 : Fld := ⟨56, 8⟩
def F.PMU_CNT_CNT : Fld := ⟨0, 64⟩
def F.SAMP_CTL_EN : Fld := ⟨0, 1⟩
def F.SAMP_CTL_CORES : Fld := ⟨1, 4⟩
def F.SAMP_CTL_EVENT : Fld := ⟨5, 8⟩
def F.SAMP_CTL_PERIOD : Fld := ⟨13, 16⟩
def F.SAMP_CTL_RING : Fld := ⟨29, 16⟩
def F.SAMP_CTL_BATCH : Fld := ⟨45, 7⟩
def F.SAMP_STAT_FILL : Fld := ⟨0, 13⟩
def F.SAMP_STAT_LOST : Fld := ⟨13, 32⟩
def F.CAP_CFG_SRC : Fld := ⟨0, 2⟩
def F.CAP_CFG_LEN : Fld := ⟨2, 11⟩
def F.CAP_CFG_BUF : Fld := ⟨13, 4⟩
def F.CAP_BUF_A_VALID : Fld := ⟨0, 1⟩
def F.CAP_BUF_A_BUSY : Fld := ⟨1, 1⟩
def F.CAP_BUF_A_LANE : Fld := ⟨2, 8⟩
def F.CAP_BUF_A_SRC : Fld := ⟨10, 2⟩
def F.CAP_BUF_A_LEN : Fld := ⟨12, 11⟩
def F.CAP_BUF_A_DAMAGED : Fld := ⟨23, 20⟩
def F.CAP_BUF_B_TICK : Fld := ⟨0, 40⟩
def F.CAP_BUF_B_POS : Fld := ⟨40, 22⟩
def F.SEC_BOOT_STAT_STAGE : Fld := ⟨0, 4⟩
def F.SEC_BOOT_STAT_SLOT : Fld := ⟨4, 1⟩
def F.SEC_BOOT_STAT_FALLBACK : Fld := ⟨5, 1⟩
def F.SEC_BOOT_STAT_VERSION : Fld := ⟨6, 7⟩
def F.SEC_BOOT_STAT_FW_READY : Fld := ⟨13, 1⟩
def F.SEC_BOOT_STAT_CERT_OK : Fld := ⟨14, 1⟩
def F.SEC_BOOT_STAT_REPAIR_OK : Fld := ⟨15, 1⟩
def F.SEC_BOOT_STAT_FW_START : Fld := ⟨16, 48⟩
def F.SEC_FUSE_STAT_ROLLBACK : Fld := ⟨0, 7⟩
def F.SEC_FUSE_STAT_ORDER : Fld := ⟨7, 1⟩
def F.SEC_KEY_STAT_SLOTS : Fld := ⟨0, 8⟩
def F.SEC_START_DOM_DOMAINS : Fld := ⟨3, 40⟩
def F.SEC_FLASH_CTL_OP : Fld := ⟨0, 2⟩
def F.SEC_FLASH_ADDR_ADDR : Fld := ⟨0, 27⟩
def F.SEC_FLASH_ADDR_BUSY : Fld := ⟨27, 1⟩
def F.SEC_FLASH_DATA_DATA : Fld := ⟨0, 64⟩
def F.SEC_DIE_LOT_LOT : Fld := ⟨0, 64⟩
def F.SEC_DIE_POS_WAFER : Fld := ⟨0, 5⟩
def F.SEC_DIE_POS_X : Fld := ⟨5, 8⟩
def F.SEC_DIE_POS_Y : Fld := ⟨13, 8⟩
def F.TASK_CFG_STATE : Fld := ⟨0, 3⟩
def F.TASK_CFG_MODE : Fld := ⟨3, 1⟩
def F.TASK_CFG_BUDGET_NS : Fld := ⟨4, 11⟩
def F.TASK_CFG_KEY_SLOT : Fld := ⟨15, 3⟩
def F.TASK_CFG_VERSION : Fld := ⟨18, 16⟩
def F.TASK_STAT_RUNS : Fld := ⟨0, 32⟩
def F.TASK_STAT_OVERRUNS : Fld := ⟨32, 16⟩
def F.TASK_STAT_MAX_NS : Fld := ⟨48, 16⟩
def F.RX_OCT_STAT_PHASE_MODE : Fld := ⟨0, 1⟩
def F.RX_OCT_STAT_MODE_STAGED : Fld := ⟨1, 1⟩
def F.RX_AFE_CTL_GAIN : Fld := ⟨0, 5⟩
def F.RX_AFE_CTL_RAW_LOS_THR : Fld := ⟨5, 7⟩
def F.RX_AFE_STAT_RAW_LOS : Fld := ⟨0, 1⟩
def F.RX_AFE_STAT_RMS : Fld := ⟨1, 7⟩
def F.RX_AFE_STAT_CLIP_CNT : Fld := ⟨32, 32⟩
def F.ADC_BG_CTL_EN : Fld := ⟨0, 1⟩
def F.ADC_BG_CTL_MU_OFS : Fld := ⟨1, 3⟩
def F.ADC_BG_CTL_MU_GAIN : Fld := ⟨4, 3⟩
def F.ADC_BG_CTL_MU_SKEW : Fld := ⟨7, 3⟩
def F.ADC_BG_STAT_CONVERGED : Fld := ⟨0, 1⟩
def F.ADC_BG_STAT_RANGE : Fld := ⟨1, 1⟩
def F.ADC_BG_STAT_SPUR : Fld := ⟨2, 10⟩
def F.FFE_CTL_ADAPT : Fld := ⟨0, 2⟩
def F.FFE_CTL_MU : Fld := ⟨2, 4⟩
def F.FFE_CTL_ADAPT_PERIOD : Fld := ⟨6, 8⟩
def F.FFE_CTL_LEN : Fld := ⟨14, 2⟩
def F.FFE_CTL_ERR_SRC : Fld := ⟨16, 1⟩
def F.FFE_STAT_ACTIVE_BANK : Fld := ⟨0, 1⟩
def F.FFE_STAT_SWAP_STAGED : Fld := ⟨1, 1⟩
def F.FFE_STAT_SWAP_CNT : Fld := ⟨16, 16⟩
def F.FFE_STAT_SAT_CNT : Fld := ⟨32, 32⟩
def F.FFE_MASK_MASK : Fld := ⟨0, 48⟩
def F.TRL_CTL_ERASE_THR : Fld := ⟨0, 8⟩
def F.TRL_CTL_ERASE_MAX : Fld := ⟨8, 6⟩
def F.TRL_CTL_CH_ADAPT : Fld := ⟨14, 1⟩
def F.TRL_CTL_LVL_ADAPT : Fld := ⟨15, 1⟩
def F.TRL_CH_H1 : Fld := ⟨0, 8⟩
def F.TRL_CH_H2 : Fld := ⟨8, 8⟩
def F.TRL_LVL_LV0 : Fld := ⟨0, 12⟩
def F.TRL_LVL_LV1 : Fld := ⟨16, 12⟩
def F.TRL_LVL_LV2 : Fld := ⟨32, 12⟩
def F.TRL_LVL_LV3 : Fld := ⟨48, 12⟩
def F.TRL_STAT_ERASE_CNT : Fld := ⟨0, 32⟩
def F.TRL_STAT_ERASE_CAP_CNT : Fld := ⟨32, 16⟩
def F.TX_SYN_CTL_PREF : Fld := ⟨0, 1⟩
def F.TX_SYN_CTL_PLL_DT : Fld := ⟨1, 7⟩
def F.TX_SYN_CTL_AUTO_CAL : Fld := ⟨8, 1⟩
def F.TX_SYN_CTL_PLL_LOCK_TIMEOUT : Fld := ⟨9, 12⟩
def F.TX_SYN_STAT_RUN_SYN : Fld := ⟨0, 1⟩
def F.TX_SYN_STAT_RUN_VALID : Fld := ⟨1, 1⟩
def F.TX_SYN_STAT_STATE_A : Fld := ⟨2, 3⟩
def F.TX_SYN_STAT_STATE_B : Fld := ⟨5, 3⟩
def F.TX_SYN_STAT_HANDOVER_CNT : Fld := ⟨8, 16⟩
def F.TX_SYN_STAT_UNLOCK_CNT : Fld := ⟨24, 16⟩
def F.TX_SYN_STAT_CAL_FAIL_CNT : Fld := ⟨40, 16⟩
def F.LOOP_CTL_EN : Fld := ⟨0, 1⟩
def F.LOOP_CTL_SRC : Fld := ⟨1, 1⟩
def F.LOOP_CTL_STEER_MAX : Fld := ⟨2, 10⟩
def F.LOOP_CTL_STEER_SLEW : Fld := ⟨12, 12⟩
def F.LOOP_CTL_PHASE_LIM : Fld := ⟨24, 11⟩
def F.LOOP_STAT_STEER : Fld := ⟨0, 32⟩
def F.LOOP_STAT_PHASE_ERR : Fld := ⟨32, 24⟩
def F.LOOP_STAT_HOLD : Fld := ⟨56, 1⟩
def F.LOOP_STAT_CLAMP : Fld := ⟨57, 1⟩
def F.TX_FRAME_CTL_OFFSET : Fld := ⟨0, 11⟩
def F.TONE_CTL_TONE_HI : Fld := ⟨0, 8⟩
def F.TONE_CTL_TONE_LO : Fld := ⟨8, 8⟩
def F.TONE_CTL_TONE_EN : Fld := ⟨16, 1⟩
def F.TX_SYN_CAL_CAL_TEMP : Fld := ⟨0, 16⟩
def F.TX_SYN_CAL_CAL_TICK : Fld := ⟨16, 48⟩
def F.TX_LANE_CTL_RAMP_TICKS : Fld := ⟨0, 12⟩
def F.TX_LANE_CTL_PLAN_EN : Fld := ⟨12, 1⟩
def F.TX_LANE_CTL_LAUNCH_OWN : Fld := ⟨13, 1⟩
def F.TX_LANE_CTL_INV : Fld := ⟨14, 1⟩
def F.TX_LANE_CTL_PRECODE : Fld := ⟨15, 1⟩
def F.TX_LANE_STAT_STATE : Fld := ⟨0, 3⟩
def F.TX_LANE_STAT_CUR_STEP : Fld := ⟨3, 4⟩
def F.TX_LANE_STAT_TARGET_STEP : Fld := ⟨7, 4⟩
def F.TX_LANE_STAT_PENDING : Fld := ⟨11, 1⟩
def F.TX_LANE_STAT_PEND_STEP : Fld := ⟨12, 4⟩
def F.TX_LANE_STAT_PEND_DISABLE : Fld := ⟨16, 1⟩
def F.TX_LANE_STAT_RAMP_LEFT : Fld := ⟨17, 12⟩
def F.TX_LANE_STAT_CLIP_CNT : Fld := ⟨48, 16⟩
def F.TX_DAC_LVL_LVL0 : Fld := ⟨0, 8⟩
def F.TX_DAC_LVL_LVL1 : Fld := ⟨8, 8⟩
def F.TX_DAC_LVL_LVL2 : Fld := ⟨16, 8⟩
def F.TX_DAC_LVL_LVL3 : Fld := ⟨24, 8⟩
def F.TX_FIR_PRE : Fld := ⟨0, 6⟩
def F.TX_FIR_POST : Fld := ⟨6, 6⟩
def F.TX_FIR_EN : Fld := ⟨12, 1⟩
def F.LAUNCH_BIAS : Fld := ⟨0, 16⟩
def F.LAUNCH_MOD : Fld := ⟨16, 16⟩
def F.LAUNCH_SWING : Fld := ⟨32, 7⟩
def F.ADC_CAL_OFS : Fld := ⟨0, 8⟩
def F.ADC_CAL_GAIN : Fld := ⟨8, 12⟩
def F.ADC_CAL_SKEW : Fld := ⟨20, 12⟩
def F.FFE_COEF_C0 : Fld := ⟨0, 12⟩
def F.FFE_COEF_C1 : Fld := ⟨16, 12⟩
def F.FFE_COEF_C2 : Fld := ⟨32, 12⟩
def F.FFE_COEF_C3 : Fld := ⟨48, 12⟩
def F.MON_CTL_SRC : Fld := ⟨0, 4⟩
def F.MON_CTL_FIR_SEL : Fld := ⟨4, 2⟩
def F.MON_THR_x_THR : Fld := ⟨0, 16⟩
def F.MON_THR_x_HYST : Fld := ⟨16, 16⟩
def F.MON_THR_x_SET_N : Fld := ⟨32, 8⟩
def F.MON_THR_x_CLR_N : Fld := ⟨40, 8⟩
def F.MON_THR_x_STREAM : Fld := ⟨48, 1⟩
def F.MON_THR_x_EN : Fld := ⟨49, 1⟩
def F.MON_STAT_LOS : Fld := ⟨0, 1⟩
def F.MON_STAT_SNR_LOW : Fld := ⟨1, 1⟩
def F.MON_STAT_IMB_HIGH : Fld := ⟨2, 1⟩
def F.MON_STAT_NF_HIGH : Fld := ⟨3, 1⟩
def F.MON_STAT_T_UNSET : Fld := ⟨4, 3⟩
def F.MON_STAT_K_UNSET : Fld := ⟨7, 3⟩
def F.MON_T_A_PWR : Fld := ⟨0, 16⟩
def F.MON_T_A_NF : Fld := ⟨16, 16⟩
def F.MON_T_A_SNR : Fld := ⟨32, 16⟩
def F.MON_T_A_UNSETTLED : Fld := ⟨48, 1⟩
def F.MON_T_A_NO_INPUT : Fld := ⟨49, 1⟩
def F.MON_T_A_TONE : Fld := ⟨50, 1⟩
def F.MON_T_B_D1 : Fld := ⟨0, 16⟩
def F.MON_T_B_D2 : Fld := ⟨16, 16⟩
def F.MON_T_B_D3 : Fld := ⟨32, 16⟩
def F.MON_T_B_IMB : Fld := ⟨48, 16⟩
def F.MON_T_SER_SER : Fld := ⟨0, 48⟩
def F.MON_T_SER_TICK : Fld := ⟨48, 16⟩
def F.FRM_CTL_MODE : Fld := ⟨0, 1⟩
def F.FRM_CTL_STD_LAYOUT : Fld := ⟨1, 8⟩
def F.FRM_CTL_TAG_TX : Fld := ⟨9, 16⟩
def F.FRM_CTL_TAG_EXP : Fld := ⟨25, 16⟩
def F.FRM_CTL_TAG_CHK : Fld := ⟨41, 1⟩
def F.FRM_CTL_LANEID_CHK : Fld := ⟨42, 1⟩
def F.FRM_CTL_CAL_HALY : Fld := ⟨43, 1⟩
def F.CAL_STAT_TX_SEQ : Fld := ⟨0, 8⟩
def F.CAL_STAT_TX_ANN : Fld := ⟨8, 1⟩
def F.CAL_STAT_TX_SWITCH_FC : Fld := ⟨9, 16⟩
def F.CAL_STAT_RX_SEQ : Fld := ⟨25, 8⟩
def F.CAL_STAT_RX_VALID : Fld := ⟨33, 1⟩
def F.CAL_STAT_RX_ANN : Fld := ⟨34, 1⟩
def F.CAL_STAT_RX_SWITCH_FC : Fld := ⟨35, 16⟩
def F.CAL_STAT_RX_HALY : Fld := ⟨51, 1⟩
def F.CAL_CNT_MISMATCH_CNT : Fld := ⟨0, 16⟩
def F.CAL_CNT_JC_LOST_CNT : Fld := ⟨16, 16⟩
def F.CAL_CNT_BUSY_CNT : Fld := ⟨32, 16⟩
def F.FEC_CAP_CTL_LANE : Fld := ⟨0, 4⟩
def F.FEC_CAP_CTL_TRIG_LOAD : Fld := ⟨4, 6⟩
def F.FEC_CAP_CTL_ARM : Fld := ⟨10, 1⟩
def F.FEC_CAP_CTL_E_CNT : Fld := ⟨11, 6⟩
def F.FEC_CAP_CTL_F_CNT : Fld := ⟨17, 6⟩
def F.FEC_CAP_CTL_UNCORR : Fld := ⟨23, 1⟩
def F.FEC_CAP_HDR_FC : Fld := ⟨0, 48⟩
def F.FEC_CAP_HDR_CW : Fld := ⟨48, 10⟩
def F.FEC_CAP_ERR_POS0 : Fld := ⟨0, 10⟩
def F.FEC_CAP_ERR_VALUE0 : Fld := ⟨10, 10⟩
def F.FEC_CAP_ERR_ERASED0 : Fld := ⟨20, 1⟩
def F.FEC_CAP_ERR_VALID0 : Fld := ⟨21, 1⟩
def F.FEC_CAP_ERR_POS1 : Fld := ⟨32, 10⟩
def F.FEC_CAP_ERR_VALUE1 : Fld := ⟨42, 10⟩
def F.FEC_CAP_ERR_ERASED1 : Fld := ⟨52, 1⟩
def F.FEC_CAP_ERR_VALID1 : Fld := ⟨53, 1⟩
def F.FRM_LANE_STAT_RX_LANE_ID : Fld := ⟨0, 4⟩
def F.FRM_LANE_STAT_RX_BRIDGE : Fld := ⟨4, 4⟩
def F.FRM_LANE_STAT_RX_TAG : Fld := ⟨8, 16⟩
def F.FRM_LANE_STAT_TAG_MISMATCH : Fld := ⟨24, 1⟩
def F.FRM_LANE_STAT_LANEID_MISMATCH : Fld := ⟨25, 1⟩
def F.FRM_RX_FC_FC : Fld := ⟨0, 48⟩
def F.FRM_RX_FAR_TICK_STAMP : Fld := ⟨0, 64⟩
def F.FRM_RX_ARR_TICK : Fld := ⟨0, 40⟩
def F.FRM_RX_ARR_POS : Fld := ⟨40, 22⟩
def F.FEC_CW_CNT : Fld := ⟨0, 64⟩
def F.FEC_CORR_CW_CNT : Fld := ⟨0, 64⟩
def F.FEC_UNC_CW_CNT : Fld := ⟨0, 64⟩
def F.FEC_CORR_SYM_CNT : Fld := ⟨0, 64⟩
def F.FEC_CORR_BIT_CNT : Fld := ⟨0, 64⟩
def F.FEC_ERASE_HIT_CNT : Fld := ⟨0, 64⟩
def F.FRM_RX_OAM_BEI_SYM : Fld := ⟨0, 24⟩
def F.FRM_RX_OAM_FAR_SNR : Fld := ⟨24, 16⟩
def F.FRM_RX_OAM_BEI_UNC : Fld := ⟨40, 16⟩
def F.FRM_RX_OAM_BDI : Fld := ⟨56, 1⟩
def F.FRM_RX_OAM_LANE_STATE : Fld := ⟨57, 4⟩
def F.FEC_HIST_CNT : Fld := ⟨0, 64⟩
def F.ACQ_CTL_OWNER : Fld := ⟨0, 1⟩
def F.ACQ_CTL_HIT_MIN : Fld := ⟨1, 3⟩
def F.ACQ_CTL_LOCK_FRAMES : Fld := ⟨4, 2⟩
def F.ACQ_CTL_EQ_TICKS : Fld := ⟨6, 7⟩
def F.ACQ_CTL_CONV_EN : Fld := ⟨13, 1⟩
def F.ACQ_CTL_SIBLINGS : Fld := ⟨14, 16⟩
def F.ACQ_CTL_CONV_TIMEOUT : Fld := ⟨30, 16⟩
def F.ACQ_STAT_TONE_LOCK : Fld := ⟨0, 1⟩
def F.ACQ_STAT_CLK_MODE : Fld := ⟨1, 1⟩
def F.ACQ_STAT_OCT_ALIGNED : Fld := ⟨2, 1⟩
def F.ACQ_STAT_DATA_LANES : Fld := ⟨3, 4⟩
def F.ACQ_STAT_READ_POS : Fld := ⟨7, 22⟩
def F.CONV_STAT_RX_STATE : Fld := ⟨0, 3⟩
def F.CONV_STAT_RX_LANE : Fld := ⟨3, 4⟩
def F.CONV_STAT_TX_STATE : Fld := ⟨7, 3⟩
def F.CONV_STAT_TX_LANE : Fld := ⟨10, 4⟩
def F.CONV_STAT_TX_B : Fld := ⟨14, 48⟩
def F.RETIRE_STAT_RX_RETIRED : Fld := ⟨0, 9⟩
def F.RETIRE_STAT_TX_RETIRED : Fld := ⟨9, 9⟩
def F.ACQ_LANE_STAT_STATE : Fld := ⟨0, 4⟩
def F.ACQ_LANE_STAT_COARSE_HIT : Fld := ⟨4, 1⟩
def F.ACQ_LANE_STAT_EXACT : Fld := ⟨5, 1⟩
def F.ACQ_LANE_STAT_LOCK : Fld := ⟨6, 1⟩
def F.ACQ_LANE_STAT_HIT_CNT : Fld := ⟨7, 3⟩
def F.ACQ_LANE_STAT_WINDOW : Fld := ⟨10, 6⟩
def F.ACQ_LANE_STAT_FINE : Fld := ⟨16, 6⟩
def F.ACQ_LANE_STAT_SEARCH_TICKS : Fld := ⟨22, 8⟩
def F.ACQ_LANE_STAT_SKEW : Fld := ⟨30, 8⟩
def F.ACQ_LANE_STAT_LANE_STATE : Fld := ⟨38, 4⟩
def F.RX_PI_CODE : Fld := ⟨0, 8⟩
def F.RX_PI_TARGET : Fld := ⟨8, 8⟩
def F.ACQ_CNT_LOCK_LOSS_CNT : Fld := ⟨0, 16⟩
def F.ACQ_CNT_ACQ_FAIL_CNT : Fld := ⟨16, 16⟩
def F.ACQ_CNT_SLIP_CNT : Fld := ⟨32, 16⟩
def F.ACQ_CNT_SKEW_CNT : Fld := ⟨48, 16⟩
def F.TRIM_CTL_ITEMS : Fld := ⟨0, 4⟩
def F.TRIM_CTL_AUTO : Fld := ⟨4, 1⟩
def F.TRIM_CTL_TRIM_DT : Fld := ⟨5, 8⟩
def F.TRIM_CTL_RETIRE_RUN : Fld := ⟨13, 1⟩
def F.TRIM_CTL_EYE_H_MIN : Fld := ⟨14, 16⟩
def F.TRIM_STAT_STATE : Fld := ⟨0, 2⟩
def F.TRIM_STAT_CAPTURES : Fld := ⟨2, 5⟩
def F.TRIM_STAT_LAST_ABORT : Fld := ⟨7, 1⟩
def F.TRIM_STAT_CAUSE : Fld := ⟨8, 3⟩
def F.PLAN_OCT_CTL_MAX_STEP : Fld := ⟨0, 4⟩
def F.PLAN_OCT_CTL_LEN_EN : Fld := ⟨4, 1⟩
def F.PLAN_OCT_CTL_SHORTEN_EN : Fld := ⟨5, 1⟩
def F.PLAN_OCT_CTL_RETIRE_EN : Fld := ⟨6, 1⟩
def F.TRIM_LAST_TICK : Fld := ⟨0, 48⟩
def F.TRIM_LAST_TEMP : Fld := ⟨48, 16⟩
def F.TRIM_Q_EYE_W : Fld := ⟨0, 10⟩
def F.TRIM_Q_EYE_H : Fld := ⟨10, 16⟩
def F.TRIM_Q_MSE : Fld := ⟨26, 16⟩
def F.TRIM_Q_SNR : Fld := ⟨42, 16⟩
def F.TRIM_Q_VALID : Fld := ⟨58, 1⟩
def F.TRIM_Q_LOST : Fld := ⟨59, 1⟩
def F.TRIM_TX_INL : Fld := ⟨0, 12⟩
def F.TRIM_TX_VALID : Fld := ⟨12, 1⟩
def F.TRIM_TX_SOURCE : Fld := ⟨13, 1⟩
def F.TRIM_TX_SEED_MEAN : Fld := ⟨14, 1⟩
def F.PLAN_LANE_MARGIN : Fld := ⟨0, 16⟩
def F.PLAN_LANE_SLOPE : Fld := ⟨16, 16⟩
def F.PLAN_LANE_T_EX : Fld := ⟨32, 20⟩
def F.PLAN_LANE_SLOPE_VALID : Fld := ⟨52, 1⟩
def F.PLAN_LANE_TX_EXHAUSTED : Fld := ⟨53, 1⟩
def F.PLAN_LANE_FAR_EXHAUSTED : Fld := ⟨54, 1⟩
def F.PLAN_LANE_LASER_AGED : Fld := ⟨55, 1⟩
def F.PLAN_LANE_DRIFT : Fld := ⟨56, 1⟩
def F.PLAN_LANE2_LAST_ACTION : Fld := ⟨0, 3⟩
def F.PLAN_LANE2_SLOPE_RATIO : Fld := ⟨3, 10⟩
def F.PLAN_LANE2_ACTION_TICK : Fld := ⟨13, 48⟩
def F.FLT_CTL_O_EN : Fld := ⟨0, 1⟩
def F.FLT_CTL_O_LOS_MAX : Fld := ⟨1, 10⟩
def F.FLT_CTL_O_RATE_MAX : Fld := ⟨11, 8⟩
def F.FLT_CTL_O_UNC_BURST : Fld := ⟨19, 10⟩
def F.FLT_LANE_STATE : Fld := ⟨0, 2⟩
def F.FLT_LANE_RETRIES : Fld := ⟨2, 2⟩
def F.FLT_LANE_HOUR_CNT : Fld := ⟨4, 8⟩
def F.FLT_LANE_KIND : Fld := ⟨12, 4⟩
def F.FLT_LANE_TICK : Fld := ⟨16, 48⟩
def F.SG_LAYOUT_START : Fld := ⟨0, 16⟩
def F.SL_CTL_RATE : Fld := ⟨0, 3⟩
def F.SL_CTL_EN : Fld := ⟨3, 1⟩
def F.SL_CTL_AN_EN : Fld := ⟨4, 1⟩
def F.SL_CTL_LT_EN : Fld := ⟨5, 1⟩
def F.SL_CTL_FEC : Fld := ⟨6, 2⟩
def F.SL_CTL_CBR : Fld := ⟨8, 1⟩
def F.SL_CTL_RX_INV : Fld := ⟨9, 1⟩
def F.SL_CTL_TX_INV : Fld := ⟨10, 1⟩
def F.SL_STAT_STATE : Fld := ⟨0, 3⟩
def F.SL_STAT_RAW_LOS : Fld := ⟨3, 1⟩
def F.SL_STAT_LOCK : Fld := ⟨4, 1⟩
def F.SL_STAT_RX_CLIENT : Fld := ⟨5, 9⟩
def F.SL_STAT_RX_BOUND : Fld := ⟨14, 1⟩
def F.SL_STAT_TX_CLIENT : Fld := ⟨15, 9⟩
def F.SL_STAT_TX_BOUND : Fld := ⟨24, 1⟩
def F.SL_TXEQ_CM3_TGT : Fld := ⟨0, 6⟩
def F.SL_TXEQ_CM2_TGT : Fld := ⟨6, 6⟩
def F.SL_TXEQ_CM1_TGT : Fld := ⟨12, 6⟩
def F.SL_TXEQ_CP1_TGT : Fld := ⟨18, 6⟩
def F.SL_TXEQ_CUR : Fld := ⟨24, 24⟩
def F.SL_TXEQ_TRAINED : Fld := ⟨48, 1⟩
def F.SL_CNT_DOWN_CNT : Fld := ⟨0, 16⟩
def F.SL_CNT_AN_FAIL_CNT : Fld := ⟨16, 16⟩
def F.SL_CNT_LT_FAIL_CNT : Fld := ⟨32, 16⟩
def F.SL_FEC_CW_CNT : Fld := ⟨0, 64⟩
def F.SL_FEC_CORR_CNT : Fld := ⟨0, 64⟩
def F.SL_FEC_UNC_CNT : Fld := ⟨0, 64⟩
def F.SL_RXTAP_TAPS : Fld := ⟨0, 64⟩
def F.SL_RXTAP_FFE8 : Fld := ⟨0, 32⟩
def F.SL_RXTAP_CTLE : Fld := ⟨32, 4⟩
def F.SG_TRIM_CTL_AUTO : Fld := ⟨0, 1⟩
def F.SG_TRIM_CTL_TRIM_DT : Fld := ⟨1, 8⟩
def F.SG_TRIM_CTL_APPLY : Fld := ⟨9, 1⟩
def F.SG_TRIM_STAT_STATE : Fld := ⟨0, 2⟩
def F.SG_TRIM_STAT_REF_VALID : Fld := ⟨2, 16⟩
def F.SG_TRIM_STAT_LAST_TICK : Fld := ⟨18, 46⟩
def F.FLT_CTL_G_EN : Fld := ⟨0, 1⟩
def F.FLT_CTL_G_LOS_MAX : Fld := ⟨1, 10⟩
def F.FLT_CTL_G_RATE_MAX : Fld := ⟨11, 8⟩
def F.FLT_CTL_G_LT_RETRY_TICKS : Fld := ⟨29, 16⟩
def F.MAP_CLI_DEF_DEFINED : Fld := ⟨0, 1⟩
def F.MAP_CLI_DEF_KIND : Fld := ⟨1, 1⟩
def F.MAP_CLI_DEF_ETH_RATE : Fld := ⟨2, 3⟩
def F.MAP_CLI_DEF_CBR_RATE : Fld := ⟨5, 28⟩
def F.MAP_CLI_DEF_CLASS : Fld := ⟨33, 2⟩
def F.MAP_CLI_DEF_ENDS : Fld := ⟨35, 2⟩
def F.MAP_CLI_DEF_SLOTS : Fld := ⟨37, 7⟩
def F.MAP_CLI_END_SRC : Fld := ⟨0, 4⟩
def F.MAP_CLI_END_SRC_LANE : Fld := ⟨4, 4⟩
def F.MAP_CLI_END_SNK : Fld := ⟨8, 4⟩
def F.MAP_CLI_END_SNK_LANE : Fld := ⟨12, 4⟩
def F.MAP_CLI_END_LANES : Fld := ⟨16, 4⟩
def F.MAP_CLI_END_FAR_TAG : Fld := ⟨20, 9⟩
def F.MAP_CLI_END_SIB_MASK : Fld := ⟨29, 16⟩
def F.MAP_CLI_END_HEAD_SLOT : Fld := ⟨45, 7⟩
def F.MAP_CLI_STAT_CARRYING : Fld := ⟨0, 1⟩
def F.MAP_CLI_STAT_SRC_OK : Fld := ⟨1, 1⟩
def F.MAP_CLI_STAT_NO_TAG : Fld := ⟨2, 1⟩
def F.MAP_CLI_STAT_DROPPED : Fld := ⟨3, 1⟩
def F.MAP_CLI_STAT_SHED : Fld := ⟨4, 1⟩
def F.MAP_CLI_STAT_C_TX : Fld := ⟨5, 18⟩
def F.MAP_CLI_STAT_C_RX : Fld := ⟨23, 18⟩
def F.MAP_CLI_STAT_RECENTRE_CNT : Fld := ⟨41, 16⟩
def F.MAP_CLI_CNT_ERR_CNT : Fld := ⟨0, 40⟩
def F.MAP_CLI_CNT_REPL_TICKS : Fld := ⟨40, 24⟩
def F.MAP_CTL_CBR_FILL : Fld := ⟨0, 10⟩
def F.MAP_CTL_SINK_BW : Fld := ⟨10, 2⟩
def F.MAP_STAT_CLIENTS : Fld := ⟨0, 10⟩
def F.DSK_STAT_RATE_USED : Fld := ⟨0, 22⟩
def F.DSK_STAT_UNITS_USED : Fld := ⟨22, 12⟩
def F.DSK_STAT_CLIENTS : Fld := ⟨34, 9⟩
def F.DSK_STAT_READY : Fld := ⟨43, 1⟩
def F.PROT_END_ROUTE1_OCT : Fld := ⟨0, 4⟩
def F.PROT_END_ROUTE1_SIB : Fld := ⟨4, 16⟩
def F.PROT_END_DUAL_SINK : Fld := ⟨20, 1⟩
def F.PROT_END_SNK1_OCT : Fld := ⟨21, 4⟩
def F.PROT_END_SNK1_HEAD : Fld := ⟨25, 7⟩
def F.PROT_CFG_PREF : Fld := ⟨0, 1⟩
def F.PROT_CFG_REVERTIVE : Fld := ⟨1, 1⟩
def F.PROT_CFG_HOLD_OFF : Fld := ⟨2, 10⟩
def F.PROT_CFG_WTR : Fld := ⟨12, 32⟩
def F.PROT_CFG_UNC_THR : Fld := ⟨44, 8⟩
def F.PROT_CFG_REPAIR : Fld := ⟨52, 1⟩
def F.PROT_STAT_STATE : Fld := ⟨0, 3⟩
def F.PROT_STAT_ACTIVE : Fld := ⟨3, 1⟩
def F.PROT_STAT_REQ : Fld := ⟨4, 3⟩
def F.PROT_STAT_REQ_ROUTE : Fld := ⟨7, 1⟩
def F.PROT_STAT_SF0 : Fld := ⟨8, 1⟩
def F.PROT_STAT_SF1 : Fld := ⟨9, 1⟩
def F.PROT_STAT_SD0 : Fld := ⟨10, 1⟩
def F.PROT_STAT_SD1 : Fld := ⟨11, 1⟩
def F.PROT_STAT_EARLY : Fld := ⟨12, 1⟩
def F.PROT_STAT_HOLD_LEFT : Fld := ⟨13, 10⟩
def F.PROT_STAT_WTR_LEFT : Fld := ⟨23, 32⟩
def F.PROT_DELAY_DIFF : Fld := ⟨0, 32⟩
def F.PROT_DELAY_PEAK : Fld := ⟨32, 32⟩
def F.PROT_CNT_REPAIR_CNT : Fld := ⟨0, 32⟩
def F.PROT_CNT_SWITCH_CNT : Fld := ⟨32, 16⟩
def F.PROT_CNT_CMIS_CNT : Fld := ⟨48, 16⟩
def F.PROT_CNT2_BOTH_BAD : Fld := ⟨0, 40⟩
def F.PROT_CNT2_EXCESS_TICKS : Fld := ⟨40, 24⟩
def F.HALY_CTL_EN : Fld := ⟨0, 1⟩
def F.HALY_CTL_TX_PATH : Fld := ⟨1, 2⟩
def F.HALY_CTL_AMP : Fld := ⟨3, 7⟩
def F.HALY_CTL_BEACON : Fld := ⟨10, 10⟩
def F.HALY_CTL_LOSS_TICKS : Fld := ⟨20, 12⟩
def F.HALY_CTL_REPEAT : Fld := ⟨32, 2⟩
def F.HALY_CTL_MQ_RING : Fld := ⟨34, 16⟩
def F.HALY_CTL_FW_COPY : Fld := ⟨50, 1⟩
def F.HALY_CTL_TTL : Fld := ⟨51, 12⟩
def F.HALY_CTL_TT_DOM : Fld := ⟨63, 1⟩
def F.HALY_DET_DET_THR : Fld := ⟨0, 16⟩
def F.HALY_DET_CAPTURE_DB : Fld := ⟨16, 8⟩
def F.HALY_DET_SYNC_ERR : Fld := ⟨24, 4⟩
def F.HALY_SHARE_SHARED : Fld := ⟨0, 1⟩
def F.HALY_SHARE_STATION : Fld := ⟨1, 3⟩
def F.HALY_SHARE_STATIONS : Fld := ⟨4, 3⟩
def F.HALY_SHARE_SLOT_TICKS : Fld := ⟨7, 6⟩
def F.HALY_SHARE_PARTNER : Fld := ⟨13, 3⟩
def F.HALY_STAT_SUB_UP : Fld := ⟨0, 1⟩
def F.HALY_STAT_REL_UP : Fld := ⟨1, 1⟩
def F.HALY_STAT_SUB_HEARD : Fld := ⟨2, 1⟩
def F.HALY_STAT_REL_HEARD : Fld := ⟨3, 1⟩
def F.HALY_STAT_FAR_SUB_HEARD : Fld := ⟨4, 1⟩
def F.HALY_STAT_FAR_REL_HEARD : Fld := ⟨5, 1⟩
def F.HALY_STAT_RX_STATE : Fld := ⟨6, 3⟩
def F.HALY_STAT_TX_STATE : Fld := ⟨9, 2⟩
def F.HALY_STAT_TXQ_DEPTH : Fld := ⟨11, 7⟩
def F.HALY_RX_LVL_NF : Fld := ⟨0, 16⟩
def F.HALY_RX_LVL_LEVEL : Fld := ⟨16, 16⟩
def F.HALY_RX_LVL_FOFS : Fld := ⟨32, 32⟩
def F.HALY_CNT_RX_OK : Fld := ⟨0, 16⟩
def F.HALY_CNT_FALSE_CNT : Fld := ⟨16, 16⟩
def F.HALY_CNT_CRC_FAIL : Fld := ⟨32, 16⟩
def F.HALY_CNT_PREEMPT_CNT : Fld := ⟨48, 16⟩
def F.HALY_CNT2_TRUNC_CNT : Fld := ⟨0, 16⟩
def F.HALY_CNT2_REPEAT_CNT : Fld := ⟨16, 16⟩
def F.HALY_CNT2_JUMP_CNT : Fld := ⟨32, 16⟩
def F.HALY_CNT2_DISCARD_CNT : Fld := ⟨48, 16⟩
def F.HALY_TX_CNT_TX_OK : Fld := ⟨0, 16⟩
def F.HALY_TX_CNT_TX_CUT : Fld := ⟨16, 16⟩
def F.HALY_TX_CNT_NO_PATH_CNT : Fld := ⟨32, 16⟩
def F.HALY_TX_CNT_FW_DROP_CNT : Fld := ⟨48, 16⟩
def F.HALY_TT_OFFSET_OFFSET : Fld := ⟨0, 64⟩
def F.HALY_TT_DELAY_DELAY : Fld := ⟨0, 64⟩
def F.HALY_TT_STAT_TICK : Fld := ⟨0, 48⟩
def F.HALY_TT_STAT_DOM : Fld := ⟨48, 1⟩
def F.HALY_TT_STAT_VALID : Fld := ⟨49, 1⟩
def F.HALY_TT_STAT_PATH : Fld := ⟨50, 1⟩
def F.HALY_ALIVE_LAST : Fld := ⟨0, 16⟩
def F.HALY_ALIVE_VALID : Fld := ⟨16, 1⟩

/-- The registers by name. -/
inductive RegId where
  | GLB_ID
  | GLB_SERIAL
  | GLB_VERSION
  | GLB_LOCK
  | GLB_SCRATCH0
  | GLB_SCRATCH1
  | GLB_ERR_STAT
  | GLB_ERR_A
  | GLB_ERR_B
  | GLB_ERR_C
  | TICK_COUNT
  | TICK_STATUS
  | TICK_OVERRUN_CNT
  | TICK_BUDGET
  | DOM_INCR
  | DOM_TIME_NS
  | DOM_TIME_SEC
  | DOM_ADJ
  | DOM_SET_SEC
  | DOM_CTL
  | TS_OFFSET
  | TS_CTL
  | PPS_OUT_CTL
  | PPS_IN_NS
  | PPS_IN_SEC
  | PPS_IN_STAT
  | TRIG_CTL
  | TRIG_TIME_NS
  | TRIG_TIME_SEC
  | TRIG_PERIOD
  | TP_CTL
  | TP_LAT
  | PAT_CTL_T
  | PAT_STAT_T
  | PAT_ERR_T
  | PAT_BITS_T
  | PAT_USER_T
  | PAT_USER2_T
  | RING_OP
  | RING_OP_STAT
  | RING_CTX_A
  | RING_CTX_B
  | RING_CTX_C
  | RING_CTX_D
  | RING_CTX_E
  | RING_ENG_STAT
  | RING_CNT
  | RING_CNT2
  | PWR_CTL
  | PWR_STAT
  | PWR_DOM_STAT
  | PWR_DOM_WAKE
  | THERM_CTL
  | THERM_LVL
  | THERM_STAT
  | THERM_SENS
  | ENG_THERM
  | ENG_THERM_LVL
  | REEF_CTL
  | REEF_STAT
  | AVS_CTL
  | AVS_STAT
  | PMB_CTL
  | PMB_DEV
  | PMB_STAT
  | PLAN_CTL
  | PLAN_CTL2
  | PLAN_STAT
  | JRN_STAT
  | JRN_CNT
  | TRIM_HK
  | AGE_DIE
  | AGE_WEAR
  | IN_CTL
  | IN_LEVEL
  | IN_STORM
  | WDT_CTL
  | WDT_STAT
  | HK_SEQ_CTL
  | HK_STAT
  | HK_PLAUS_CTL
  | HK_PLAUS_STAT
  | HK_SEQ
  | HK_CH_CAL
  | HK_RES
  | HK_IN_CFG
  | EDAC_CTL
  | EDAC_STAT
  | LR_CTL
  | LR_STAT
  | ENG_I2C_CTL
  | ENG_I2C_STAT
  | ENG_MPD
  | EDAC_CH_CFG
  | EDAC_CH_STAT
  | EDAC_CLR
  | EDAC_RAMP_CTL
  | EDAC_RAMP_ENT
  | PAIR_CTL
  | PAIR_STAT
  | PAIR_MIR_STAT
  | PAIR_CNT
  | PAIR_TWIN_DT
  | PAIR_LAST
  | SHRD_CTL
  | SHRD_STAT
  | SHRD_LANE_STAT
  | SHRD_LANE_CNT
  | PAT_CTL_S
  | PAT_STAT_S
  | PAT_ERR_S
  | PAT_BITS_S
  | PAT_USER_S
  | PAT_USER2_S
  | CHK_CTL
  | CHK_VAL
  | CHK_DATA
  | CHK_TAIL
  | CHK_RES
  | CHK_CNT
  | MEM_ECC_CTL
  | MEM_CORR_LOG
  | MEM_CORR_ADDR
  | MEM_UNC_LOG
  | MEM_UNC_ADDR
  | MEM_REPAIR_STAT
  | REFRESH_STAT
  | MEM_BAD_MACRO
  | MEM_CNT
  | D2D_CNT
  | MEM_TEST_CTL
  | MEM_TEST_DATA
  | MEM_TEST_CHK
  | GD_CTL
  | GD_STAT
  | GD_CH_STAT
  | GD_CH_CNT
  | PERF_CTL
  | PERF_WIN_START
  | PERF_WIN_STOP
  | PERF_SEL
  | PERF_CNT
  | HIST_CTL
  | HIST_CFG
  | HIST_STAT
  | HIST_SUM
  | HIST_BIN
  | PMU_SEL
  | PMU_CNT
  | SAMP_CTL
  | SAMP_STAT
  | CAP_CFG
  | CAP_BUF_A
  | CAP_BUF_B
  | SEC_BOOT_STAT
  | SEC_FUSE_STAT
  | SEC_KEY_STAT
  | SEC_START_DOM
  | SEC_FLASH_CTL
  | SEC_FLASH_ADDR
  | SEC_FLASH_DATA
  | SEC_DIE_LOT
  | SEC_DIE_POS
  | TASK_CFG
  | TASK_STAT
  | RX_OCT_STAT
  | RX_AFE_CTL
  | RX_AFE_STAT
  | ADC_BG_CTL
  | ADC_BG_STAT
  | FFE_CTL
  | FFE_STAT
  | FFE_MASK
  | TRL_CTL
  | TRL_CH
  | TRL_LVL
  | TRL_STAT
  | TX_SYN_CTL
  | TX_SYN_STAT
  | LOOP_CTL
  | LOOP_STAT
  | TX_FRAME_CTL
  | TONE_CTL
  | TX_SYN_CAL
  | TX_LANE_CTL
  | TX_LANE_STAT
  | TX_DAC_LVL
  | TX_FIR
  | LAUNCH
  | ADC_CAL
  | FFE_COEF
  | MON_CTL
  | MON_THR_LOS
  | MON_THR_SNR
  | MON_THR_IMB
  | MON_THR_NF
  | MON_STAT
  | MON_T_A
  | MON_T_B
  | MON_T_SER
  | MON_K_A
  | MON_K_B
  | MON_K_SER
  | FRM_CTL
  | CAL_STAT
  | CAL_CNT
  | FEC_CAP_CTL
  | FEC_CAP_HDR
  | FEC_CAP_ERR
  | FRM_LANE_STAT
  | FRM_RX_FC
  | FRM_RX_FAR
  | FRM_RX_ARR
  | FEC_CW
  | FEC_CORR_CW
  | FEC_UNC_CW
  | FEC_CORR_SYM
  | FEC_CORR_BIT
  | FEC_ERASE_HIT
  | FRM_RX_OAM
  | FEC_HIST
  | ACQ_CTL
  | ACQ_STAT
  | CONV_STAT
  | RETIRE_STAT
  | ACQ_LANE_STAT
  | RX_PI
  | ACQ_CNT
  | TRIM_CTL
  | TRIM_STAT
  | PLAN_OCT_CTL
  | TRIM_LAST
  | TRIM_Q
  | TRIM_TX
  | PLAN_LANE
  | PLAN_LANE2
  | FLT_CTL_O
  | FLT_OCT_STAT
  | FLT_LANE
  | PAT_CTL_O
  | PAT_STAT_O
  | PAT_ERR_O
  | PAT_BITS_O
  | PAT_USER_O
  | PAT_USER2_O
  | SG_LAYOUT
  | SL_CTL
  | SL_STAT
  | SL_TXEQ
  | SL_CNT
  | SL_FEC_CW
  | SL_FEC_CORR
  | SL_FEC_UNC
  | SL_RXTAP
  | SG_TRIM_CTL
  | SG_TRIM_STAT
  | FLT_CTL_G
  | FLT_SL
  | PAT_CTL_G
  | PAT_STAT_G
  | PAT_ERR_G
  | PAT_BITS_G
  | PAT_USER_G
  | PAT_USER2_G
  | MAP_CLI_DEF
  | MAP_CLI_END
  | MAP_CLI_STAT
  | MAP_CLI_CNT
  | MAP_CTL
  | MAP_STAT
  | DSK_STAT
  | PROT_END
  | PROT_CFG
  | PROT_STAT
  | PROT_DELAY
  | PROT_CNT
  | PROT_CNT2
  | HALY_CTL
  | HALY_DET
  | HALY_SHARE
  | HALY_STAT
  | HALY_RX_LVL
  | HALY_CNT
  | HALY_CNT2
  | HALY_TX_CNT
  | HALY_TT_OFFSET
  | HALY_TT_DELAY
  | HALY_TT_STAT
  | HALY_ALIVE
  deriving DecidableEq, Repr

/-- Access types of R13. -/
inductive Acc where
  | rw | ro | rc | w1c | w1s | wo | rwl
  deriving DecidableEq, Repr

/-- One field of a register: its bits, its access type and, where the manual reserves encodings, the encodings it
allows as closed ranges (an empty list allows every value). -/
structure FieldDef where
  fld : Fld
  acc : Acc
  legal : List (Nat × Nat)
  deriving DecidableEq, Repr

/-- One row of the register map: the first instance's offset, the strides and counts of its indices (largest stride
first), its fields and its reset word. -/
structure RegDef where
  id : RegId
  base : Nat
  dims : List (Nat × Nat)
  fields : List FieldDef
  reset : Nat
  deriving DecidableEq, Repr

/-- Rows of the register map, block GLB. -/
def regsGLB : List RegDef := [
  ⟨.GLB_ID, 0x0, [], [⟨F.GLB_ID_DEVICE, .ro, []⟩, ⟨F.GLB_ID_STEPPING, .ro, []⟩, ⟨F.GLB_ID_ORDER, .ro, []⟩, ⟨F.GLB_ID_VENDOR, .ro, []⟩], 0x1fc600b05120⟩,
  ⟨.GLB_SERIAL, 0x8, [], [⟨F.GLB_SERIAL_SERIAL, .ro, []⟩], 0x0⟩,
  ⟨.GLB_VERSION, 0x10, [], [⟨F.GLB_VERSION_MAP_VER, .ro, []⟩, ⟨F.GLB_VERSION_ROM_VER, .ro, []⟩, ⟨F.GLB_VERSION_FW_VER, .ro, []⟩, ⟨F.GLB_VERSION_FW_BUILD, .ro, []⟩], 0x1⟩,
  ⟨.GLB_LOCK, 0x20, [], [⟨F.GLB_LOCK_LOCK, .w1s, []⟩, ⟨F.GLB_LOCK_TICK, .ro, []⟩], 0x0⟩,
  ⟨.GLB_SCRATCH0, 0x28, [], [⟨F.GLB_SCRATCH0_DATA, .rw, []⟩], 0x0⟩,
  ⟨.GLB_SCRATCH1, 0x30, [], [⟨F.GLB_SCRATCH1_DATA, .rw, []⟩], 0x0⟩,
  ⟨.GLB_ERR_STAT, 0x100, [], [⟨F.GLB_ERR_STAT_COUNT, .ro, []⟩, ⟨F.GLB_ERR_STAT_DROP_CNT, .rc, []⟩, ⟨F.GLB_ERR_STAT_TOTAL, .rc, []⟩], 0x0⟩,
  ⟨.GLB_ERR_A, 0x108, [], [⟨F.GLB_ERR_A_OFFSET, .ro, []⟩, ⟨F.GLB_ERR_A_CAUSE, .ro, []⟩, ⟨F.GLB_ERR_A_WRITE, .ro, []⟩, ⟨F.GLB_ERR_A_SOURCE, .ro, []⟩, ⟨F.GLB_ERR_A_SIZE, .ro, []⟩, ⟨F.GLB_ERR_A_DOMAIN, .ro, []⟩, ⟨F.GLB_ERR_A_VALID, .ro, []⟩, ⟨F.GLB_ERR_A_BAR, .ro, []⟩], 0x0⟩,
  ⟨.GLB_ERR_B, 0x110, [], [⟨F.GLB_ERR_B_TICK, .ro, []⟩], 0x0⟩,
  ⟨.GLB_ERR_C, 0x118, [], [⟨F.GLB_ERR_C_DATA, .ro, []⟩], 0x0⟩]

/-- Rows of the register map, block TIME. -/
def regsTIME : List RegDef := [
  ⟨.TICK_COUNT, 0x10000, [], [⟨F.TICK_COUNT_TICK_COUNT, .ro, []⟩], 0x0⟩,
  ⟨.TICK_STATUS, 0x10008, [], [⟨F.TICK_STATUS_TICK_IDX, .ro, []⟩, ⟨F.TICK_STATUS_ACTIVE, .ro, []⟩, ⟨F.TICK_STATUS_SLEWING, .ro, []⟩, ⟨F.TICK_STATUS_REF_IN_USE, .ro, []⟩], 0x0⟩,
  ⟨.TICK_OVERRUN_CNT, 0x10010, [], [⟨F.TICK_OVERRUN_CNT_CNT, .rc, []⟩], 0x0⟩,
  ⟨.TICK_BUDGET, 0x10018, [], [⟨F.TICK_BUDGET_CMD_NS, .ro, []⟩, ⟨F.TICK_BUDGET_TASK_NS, .ro, []⟩, ⟨F.TICK_BUDGET_TRIM_NS, .ro, []⟩, ⟨F.TICK_BUDGET_TELEM_NS, .ro, []⟩], 0x0⟩,
  ⟨.DOM_INCR, 0x10040, [(0x40, 2)], [⟨F.DOM_INCR_INCR, .rw, []⟩], 0x1999999999a⟩,
  ⟨.DOM_TIME_NS, 0x10048, [(0x40, 2)], [⟨F.DOM_TIME_NS_FRAC, .ro, []⟩, ⟨F.DOM_TIME_NS_NS, .ro, []⟩], 0x0⟩,
  ⟨.DOM_TIME_SEC, 0x10050, [(0x40, 2)], [⟨F.DOM_TIME_SEC_SEC, .ro, []⟩], 0x0⟩,
  ⟨.DOM_ADJ, 0x10058, [(0x40, 2)], [⟨F.DOM_ADJ_ADJ, .wo, []⟩], 0x0⟩,
  ⟨.DOM_SET_SEC, 0x10060, [(0x40, 2)], [⟨F.DOM_SET_SEC_SEC, .wo, []⟩], 0x0⟩,
  ⟨.DOM_CTL, 0x10068, [(0x40, 2)], [⟨F.DOM_CTL_OWNER, .rwl, []⟩], 0x0⟩,
  ⟨.TS_OFFSET, 0x10100, [], [⟨F.TS_OFFSET_OUT_OFFSET, .ro, []⟩], 0x0⟩,
  ⟨.TS_CTL, 0x10108, [], [⟨F.TS_CTL_SLEW_PPB, .rw, [(1, 100)]⟩, ⟨F.TS_CTL_REF_SEL, .rw, []⟩, ⟨F.TS_CTL_REF_AUTO, .rw, []⟩], 0x164⟩,
  ⟨.PPS_OUT_CTL, 0x10180, [], [⟨F.PPS_OUT_CTL_EN, .rw, []⟩, ⟨F.PPS_OUT_CTL_WIDTH_TICKS, .rw, [(1, 50000)]⟩, ⟨F.PPS_OUT_CTL_OFFSET_NS, .rw, [(0, 999999999)]⟩], 0x14⟩,
  ⟨.PPS_IN_NS, 0x10200, [(0x40, 2), (0x10, 2)], [⟨F.DOM_TIME_NS_FRAC, .ro, []⟩, ⟨F.DOM_TIME_NS_NS, .ro, []⟩], 0x0⟩,
  ⟨.PPS_IN_SEC, 0x10208, [(0x40, 2), (0x10, 2)], [⟨F.DOM_TIME_SEC_SEC, .ro, []⟩], 0x0⟩,
  ⟨.PPS_IN_STAT, 0x10220, [(0x40, 2)], [⟨F.PPS_IN_STAT_EDGE_CNT, .rc, []⟩, ⟨F.PPS_IN_STAT_REJECT_CNT, .rc, []⟩], 0x0⟩,
  ⟨.TRIG_CTL, 0x10400, [(0x20, 16)], [⟨F.TRIG_CTL_ARM, .rw, []⟩, ⟨F.TRIG_CTL_DOM, .rw, [(0, 2)]⟩, ⟨F.TRIG_CTL_ACT, .rw, [(0, 5)]⟩, ⟨F.TRIG_CTL_ARG, .rw, []⟩, ⟨F.TRIG_CTL_PIN, .rw, [(0, 0), (4, 7)]⟩, ⟨F.TRIG_CTL_PULSE_TICKS, .rw, [(1, 65535)]⟩, ⟨F.TRIG_CTL_LATE, .w1c, []⟩, ⟨F.TRIG_CTL_MISSED_CNT, .ro, []⟩], 0x2000000⟩,
  ⟨.TRIG_TIME_NS, 0x10408, [(0x20, 16)], [⟨F.TRIG_NS_FRAC, .rw, []⟩, ⟨F.TRIG_NS_NS, .rw, []⟩], 0x0⟩,
  ⟨.TRIG_TIME_SEC, 0x10410, [(0x20, 16)], [⟨F.TRIG_SEC_SEC, .rw, []⟩], 0x0⟩,
  ⟨.TRIG_PERIOD, 0x10418, [(0x20, 16)], [⟨F.TRIG_PERIOD_PERIOD_NS, .rw, []⟩], 0x0⟩,
  ⟨.TP_CTL, 0x10800, [(0x40, 2)], [⟨F.TP_CTL_EN, .rw, []⟩, ⟨F.TP_CTL_FEC, .rw, []⟩, ⟨F.TP_CTL_HOST_COPY, .rw, []⟩, ⟨F.TP_CTL_MQ_RING, .rw, []⟩], 0x0⟩,
  ⟨.TP_LAT, 0x10808, [(0x40, 2)], [⟨F.TP_LAT_TX_LAT, .rw, []⟩, ⟨F.TP_LAT_RX_LAT, .rw, []⟩], 0x0⟩,
  ⟨.PAT_CTL_T, 0x10c00, [(0x40, 2)], [⟨F.PAT_CTL_GEN, .ro, []⟩, ⟨F.PAT_CTL_CHK, .ro, []⟩, ⟨F.PAT_CTL_SQ_HALF, .ro, []⟩, ⟨F.PAT_CTL_LOOP, .ro, []⟩, ⟨F.PAT_CTL_FORCED, .ro, []⟩], 0x100⟩,
  ⟨.PAT_STAT_T, 0x10c08, [(0x40, 2)], [⟨F.PAT_STAT_LOCK, .ro, []⟩, ⟨F.PAT_STAT_GEN_ACTIVE, .ro, []⟩, ⟨F.PAT_STAT_LOCK_LOSS, .rc, []⟩, ⟨F.PAT_STAT_SLIP_CNT, .rc, []⟩], 0x0⟩,
  ⟨.PAT_ERR_T, 0x10c10, [(0x40, 2)], [⟨F.PAT_ERR_CNT, .rc, []⟩], 0x0⟩,
  ⟨.PAT_BITS_T, 0x10c18, [(0x40, 2)], [⟨F.PAT_BITS_CNT, .rc, []⟩], 0x0⟩,
  ⟨.PAT_USER_T, 0x10c20, [(0x40, 2), (0x8, 2)], [⟨F.PAT_USER_BITS, .rw, []⟩], 0x0⟩,
  ⟨.PAT_USER2_T, 0x10c30, [(0x40, 2)], [⟨F.PAT_USER2_BITS, .rw, []⟩], 0x0⟩]

/-- Rows of the register map, block RING. -/
def regsRING : List RegDef := [
  ⟨.RING_OP, 0x20000, [], [⟨F.RING_OP_OP, .wo, []⟩, ⟨F.RING_OP_RING, .wo, []⟩, ⟨F.RING_OP_HEAD, .wo, []⟩], 0x0⟩,
  ⟨.RING_OP_STAT, 0x20008, [], [⟨F.RING_OP_STAT_DONE, .ro, []⟩, ⟨F.RING_OP_STAT_ERR, .ro, []⟩, ⟨F.RING_OP_STAT_RING, .ro, []⟩], 0x1⟩,
  ⟨.RING_CTX_A, 0x20010, [], [⟨F.RING_CTX_A_BASE, .rw, []⟩], 0x0⟩,
  ⟨.RING_CTX_B, 0x20018, [], [⟨F.RING_CTX_B_TYPE, .rw, []⟩, ⟨F.RING_CTX_B_LOG2_SIZE, .rw, []⟩, ⟨F.RING_CTX_B_VECTOR, .rw, []⟩, ⟨F.RING_CTX_B_INT_EN, .rw, []⟩, ⟨F.RING_CTX_B_MOD_COUNT, .rw, []⟩, ⟨F.RING_CTX_B_MOD_TICKS, .rw, []⟩, ⟨F.RING_CTX_B_CQ, .rw, []⟩], 0x100020⟩,
  ⟨.RING_CTX_C, 0x20020, [], [⟨F.RING_CTX_C_INIT_HSEQ, .rw, []⟩, ⟨F.RING_CTX_C_SECTIONS, .rw, []⟩, ⟨F.RING_CTX_C_OCT_MASK, .rw, []⟩, ⟨F.RING_CTX_C_SG_MASK, .rw, []⟩], 0x0⟩,
  ⟨.RING_CTX_D, 0x20028, [], [⟨F.RING_CTX_D_HEAD, .ro, []⟩, ⟨F.RING_CTX_D_TAIL, .ro, []⟩, ⟨F.RING_CTX_D_EXP_HSEQ, .ro, []⟩, ⟨F.RING_CTX_D_STATE, .ro, []⟩, ⟨F.RING_CTX_D_HALT_CAUSE, .ro, []⟩], 0x0⟩,
  ⟨.RING_CTX_E, 0x20030, [], [⟨F.RING_CTX_E_LAST_DSEQ, .ro, []⟩, ⟨F.RING_CTX_E_OUTSTANDING, .ro, []⟩, ⟨F.RING_CTX_E_DB_HSEQ, .ro, []⟩], 0x0⟩,
  ⟨.RING_ENG_STAT, 0x20040, [], [⟨F.RING_ENG_STAT_OUTSTANDING, .ro, []⟩, ⟨F.RING_ENG_STAT_LINK_UP, .ro, []⟩, ⟨F.RING_ENG_STAT_CREATED, .ro, []⟩], 0x0⟩,
  ⟨.RING_CNT, 0x20048, [], [⟨F.RING_CNT_DB_IGNORED, .rc, []⟩, ⟨F.RING_CNT_DB_BAD, .rc, []⟩, ⟨F.RING_CNT_CHECK_FAIL_CNT, .rc, []⟩, ⟨F.RING_CNT_SEQ_GAP_CNT, .rc, []⟩], 0x0⟩,
  ⟨.RING_CNT2, 0x20050, [], [⟨F.RING_CNT2_EVT_DROP, .rc, []⟩, ⟨F.RING_CNT2_REC_DROP, .rc, []⟩], 0x0⟩]

/-- Rows of the register map, block PWR. -/
def regsPWR : List RegDef := [
  ⟨.PWR_CTL, 0x40000, [], [⟨F.PWR_CTL_DELAY_MAX, .rw, [(1, 65535)]⟩], 0x3e8⟩,
  ⟨.PWR_STAT, 0x40008, [], [⟨F.PWR_STAT_CORE_CLK, .ro, []⟩, ⟨F.PWR_STAT_STOPPING, .ro, []⟩], 0x0⟩,
  ⟨.PWR_DOM_STAT, 0x40100, [(0x10, 43)], [⟨F.PWR_DOM_STAT_STATE, .ro, []⟩, ⟨F.PWR_DOM_STAT_TRANS, .ro, []⟩, ⟨F.PWR_DOM_STAT_PENDING, .ro, []⟩, ⟨F.PWR_DOM_STAT_PEND_STATE, .ro, []⟩, ⟨F.PWR_DOM_STAT_LAST_ANS, .ro, []⟩, ⟨F.PWR_DOM_STAT_CAUSE, .ro, []⟩, ⟨F.PWR_DOM_STAT_DELAY_LEFT, .ro, []⟩, ⟨F.PWR_DOM_STAT_TICK, .ro, []⟩], 0x0⟩,
  ⟨.PWR_DOM_WAKE, 0x40108, [(0x10, 43)], [⟨F.PWR_DOM_WAKE_SIG_EN, .rw, []⟩, ⟨F.PWR_DOM_WAKE_TICK_EN, .rw, []⟩, ⟨F.PWR_DOM_WAKE_LAST_SRC, .ro, []⟩, ⟨F.PWR_DOM_WAKE_WAKE_TICK, .rw, []⟩], 0x0⟩,
  ⟨.THERM_CTL, 0x40400, [], [⟨F.THERM_CTL_RATE_LIM, .rw, [(1, 1000)]⟩, ⟨F.THERM_CTL_RATE_WIN, .rw, [(100, 65535)]⟩], 0x9c4014⟩,
  ⟨.THERM_LVL, 0x40408, [], [⟨F.THERM_LVL_WARN, .rwl, []⟩, ⟨F.THERM_LVL_CRIT, .rwl, []⟩, ⟨F.THERM_LVL_TRIP, .rwl, []⟩, ⟨F.THERM_LVL_HYST, .rwl, []⟩], 0x1e2cec2904251c⟩,
  ⟨.THERM_STAT, 0x40410, [], [⟨F.THERM_STAT_MAX_TEMP, .ro, []⟩, ⟨F.THERM_STAT_MAX_SENS, .ro, []⟩, ⟨F.THERM_STAT_MAX_RATE, .ro, []⟩, ⟨F.THERM_STAT_RATE_SENS, .ro, []⟩], 0x0⟩,
  ⟨.THERM_SENS, 0x40600, [(0x8, 40)], [⟨F.THERM_SENS_TEMP, .ro, []⟩, ⟨F.THERM_SENS_RATE, .ro, []⟩, ⟨F.THERM_SENS_WARN, .ro, []⟩, ⟨F.THERM_SENS_RATE_HIGH, .ro, []⟩], 0x0⟩,
  ⟨.ENG_THERM, 0x40800, [(0x8, 16)], [⟨F.ENG_THERM_ADDR, .rw, []⟩, ⟨F.ENG_THERM_REG, .rw, []⟩, ⟨F.ENG_THERM_EN, .rw, []⟩, ⟨F.ENG_THERM_TEMP, .ro, []⟩], 0x0⟩,
  ⟨.ENG_THERM_LVL, 0x40880, [], [⟨F.ENG_THERM_LVL_ENG_WARN, .rw, []⟩, ⟨F.ENG_THERM_LVL_ENG_CRIT, .rw, []⟩], 0x1f401b58⟩,
  ⟨.REEF_CTL, 0x40a00, [], [⟨F.REEF_CTL_EN, .rwl, []⟩, ⟨F.REEF_CTL_GRACE, .rw, [(1, 1000000)]⟩, ⟨F.REEF_CTL_GRACE2, .rw, [(1, 1000000)]⟩, ⟨F.REEF_CTL_HOLD, .rw, [(1, 1000000)]⟩, ⟨F.REEF_CTL_MANUAL, .ro, []⟩], 0xf424030d40186a1⟩,
  ⟨.REEF_STAT, 0x40a08, [], [⟨F.REEF_STAT_STAGE, .ro, []⟩, ⟨F.REEF_STAT_TRIG, .ro, []⟩, ⟨F.REEF_STAT_TIMER, .ro, []⟩, ⟨F.REEF_STAT_SHED, .ro, []⟩, ⟨F.REEF_STAT_ENTRY_CNT, .rc, []⟩], 0x0⟩,
  ⟨.AVS_CTL, 0x40c00, [], [⟨F.AVS_CTL_EN, .rwl, []⟩, ⟨F.AVS_CTL_MARGIN_MV, .rw, [(0, 50)]⟩, ⟨F.AVS_CTL_STEP_MV, .rw, [(1, 10)]⟩], 0x281⟩,
  ⟨.AVS_STAT, 0x40c08, [], [⟨F.AVS_STAT_TARGET, .ro, []⟩, ⟨F.AVS_STAT_VOUT, .ro, []⟩, ⟨F.AVS_STAT_IOUT, .ro, []⟩, ⟨F.AVS_STAT_LIMIT, .ro, []⟩, ⟨F.AVS_STAT_BASE, .ro, []⟩], 0x0⟩,
  ⟨.PMB_CTL, 0x40e00, [], [⟨F.PMB_CTL_SPEED, .rw, [(0, 2)]⟩, ⟨F.PMB_CTL_POLL_TICKS, .rw, [(10, 65535)]⟩], 0x191⟩,
  ⟨.PMB_DEV, 0x40f00, [(0x10, 32)], [⟨F.PMB_DEV_ADDR, .rwl, []⟩, ⟨F.PMB_DEV_PAGE, .rwl, []⟩, ⟨F.PMB_DEV_RAIL, .rwl, [(0, 7)]⟩, ⟨F.PMB_DEV_GROUP, .rwl, []⟩, ⟨F.PMB_DEV_POLL, .rwl, []⟩, ⟨F.PMB_DEV_SEQ, .rwl, []⟩, ⟨F.PMB_DEV_TRIP_OFF, .rwl, []⟩], 0x7f80⟩,
  ⟨.PMB_STAT, 0x40f08, [(0x10, 32)], [⟨F.PMB_STAT_STATUS_WORD, .ro, []⟩, ⟨F.PMB_STAT_VOUT, .ro, []⟩, ⟨F.PMB_STAT_IOUT, .ro, []⟩, ⟨F.PMB_STAT_TEMP, .ro, []⟩], 0x0⟩,
  ⟨.PLAN_CTL, 0x48000, [], [⟨F.PLAN_CTL_EN, .rw, []⟩, ⟨F.PLAN_CTL_SNR_REQ_F, .rw, []⟩, ⟨F.PLAN_CTL_SNR_REQ_S, .rw, []⟩, ⟨F.PLAN_CTL_GUARD, .rw, [(1, 255)]⟩, ⟨F.PLAN_CTL_HORIZON_H, .rw, [(24, 16383)]⟩, ⟨F.PLAN_CTL_RETIRE_H, .rw, [(24, 1023)]⟩], 0x5a111c326a4bb9⟩,
  ⟨.PLAN_CTL2, 0x48008, [], [⟨F.PLAN_CTL2_WINDOW_H, .rw, [(168, 8760)]⟩, ⟨F.PLAN_CTL2_SLOPE_MIN, .rw, []⟩, ⟨F.PLAN_CTL2_SHORTEN_DB, .rw, []⟩], 0x1eaf02d0⟩,
  ⟨.PLAN_STAT, 0x48010, [], [⟨F.PLAN_STAT_LAST_TICK, .ro, []⟩, ⟨F.PLAN_STAT_ACTION_CNT, .rc, []⟩], 0x0⟩,
  ⟨.JRN_STAT, 0x48018, [], [⟨F.JRN_STAT_SEQ, .ro, []⟩, ⟨F.JRN_STAT_READY, .ro, []⟩, ⟨F.JRN_STAT_FOREIGN, .ro, []⟩, ⟨F.JRN_STAT_ENTRIES, .ro, []⟩], 0x0⟩,
  ⟨.JRN_CNT, 0x48020, [], [⟨F.JRN_CNT_FLASH_FAIL, .rc, []⟩, ⟨F.JRN_CNT_CRC_BAD, .rc, []⟩], 0x0⟩,
  ⟨.TRIM_HK, 0x48040, [(0x8, 2)], [⟨F.TRIM_HK_OFS, .ro, []⟩, ⟨F.TRIM_HK_TEMP, .ro, []⟩], 0x0⟩,
  ⟨.AGE_DIE, 0x48080, [(0x8, 5)], [⟨F.AGE_DIE_MEAN, .ro, []⟩, ⟨F.AGE_DIE_MAX, .ro, []⟩, ⟨F.AGE_DIE_MAX_MON, .ro, []⟩], 0x0⟩,
  ⟨.AGE_WEAR, 0x48400, [(0x200, 5), (0x8, 64)], [⟨F.AGE_WEAR_DEG, .ro, []⟩, ⟨F.AGE_WEAR_VALID, .ro, []⟩], 0x0⟩,
  ⟨.IN_CTL, 0x4a000, [(0x8, 21)], [⟨F.IN_CTL_WIDTH, .rw, [(2, 1000)]⟩, ⟨F.IN_CTL_STORM_MAX, .rw, [(1, 255)]⟩, ⟨F.IN_CTL_EV_EN, .rw, []⟩, ⟨F.IN_CTL_EDGE_CNT, .rc, []⟩], 0x2000⟩,
  ⟨.IN_LEVEL, 0x4a100, [], [⟨F.IN_LEVEL_LEVEL, .ro, []⟩], 0x0⟩,
  ⟨.IN_STORM, 0x4a108, [], [⟨F.IN_STORM_STORM, .w1c, []⟩], 0x0⟩,
  ⟨.WDT_CTL, 0x4a110, [], [⟨F.WDT_CTL_EN, .rwl, []⟩, ⟨F.WDT_CTL_TIMEOUT, .rwl, [(2, 32767)]⟩, ⟨F.WDT_CTL_ACTION, .rwl, []⟩], 0x10065⟩,
  ⟨.WDT_STAT, 0x4a118, [], [⟨F.WDT_STAT_LAST_FAULT, .ro, []⟩, ⟨F.WDT_STAT_EXPIRE_CNT, .rc, []⟩], 0x0⟩]

/-- Rows of the register map, block HK. -/
def regsHK : List RegDef := [
  ⟨.HK_SEQ_CTL, 0x50000, [(0x100, 2)], [⟨F.HK_SEQ_CTL_EN, .rw, []⟩, ⟨F.HK_SEQ_CTL_RESTART, .w1s, []⟩], 0x0⟩,
  ⟨.HK_STAT, 0x50008, [(0x100, 2)], [⟨F.HK_STAT_ENTRY, .ro, []⟩, ⟨F.HK_STAT_TRIG, .ro, []⟩, ⟨F.HK_STAT_TRIG_PEND, .ro, []⟩, ⟨F.HK_STAT_LOOPS, .rc, []⟩, ⟨F.HK_STAT_TRIG_DROP, .rc, []⟩], 0x0⟩,
  ⟨.HK_PLAUS_CTL, 0x50200, [], [⟨F.HK_PLAUS_CTL_TOL, .rw, []⟩], 0x20⟩,
  ⟨.HK_PLAUS_STAT, 0x50208, [], [⟨F.HK_PLAUS_STAT_LAST_DIFF, .ro, []⟩, ⟨F.HK_PLAUS_STAT_FAIL_CNT, .rc, []⟩, ⟨F.HK_PLAUS_STAT_CHECK_CNT, .rc, []⟩], 0x0⟩,
  ⟨.HK_SEQ, 0x51000, [(0x800, 2), (0x8, 256)], [⟨F.HK_SEQ_CH, .rw, []⟩, ⟨F.HK_SEQ_REPEAT, .rw, []⟩, ⟨F.HK_SEQ_SETTLE, .rw, []⟩, ⟨F.HK_SEQ_LOOP, .rw, []⟩, ⟨F.HK_SEQ_CHECK, .rw, []⟩], 0x0⟩,
  ⟨.HK_CH_CAL, 0x52000, [(0x8, 1024)], [⟨F.HK_CH_CAL_OFS, .rw, []⟩, ⟨F.HK_CH_CAL_GAIN, .rw, []⟩], 0x0⟩,
  ⟨.HK_RES, 0x54000, [(0x8, 1024)], [⟨F.HK_RES_VALUE, .ro, []⟩, ⟨F.HK_RES_RAW, .ro, []⟩, ⟨F.HK_RES_UNSETTLED, .ro, []⟩, ⟨F.HK_RES_CONV, .ro, []⟩, ⟨F.HK_RES_CHECK, .ro, []⟩, ⟨F.HK_RES_TICK, .ro, []⟩], 0x0⟩,
  ⟨.HK_IN_CFG, 0x56000, [(0x8, 128)], [⟨F.HK_IN_CFG_MIN_SETTLE, .rw, []⟩], 0x19⟩]

/-- Rows of the register map, block EDAC. -/
def regsEDAC : List RegDef := [
  ⟨.EDAC_CTL, 0x60000, [], [⟨F.EDAC_CTL_RB_TOL, .rw, []⟩, ⟨F.EDAC_CTL_FAULT_CLR, .rw, []⟩, ⟨F.EDAC_CTL_FORCE_CLR, .rw, []⟩], 0x3fffc40⟩,
  ⟨.EDAC_STAT, 0x60008, [], [⟨F.EDAC_STAT_CLR_PIN, .ro, []⟩, ⟨F.EDAC_STAT_FAULT_ACT, .ro, []⟩], 0x0⟩,
  ⟨.LR_CTL, 0x60010, [], [⟨F.LR_CTL_TICKS, .rwl, [(1, 4095)]⟩], 0x64⟩,
  ⟨.LR_STAT, 0x60018, [], [⟨F.LR_STAT_STATE, .ro, []⟩, ⟨F.LR_STAT_LEFT, .ro, []⟩, ⟨F.LR_STAT_CAUSE, .ro, []⟩, ⟨F.LR_STAT_TICK, .ro, []⟩], 0x0⟩,
  ⟨.ENG_I2C_CTL, 0x60040, [(0x8, 4)], [⟨F.ENG_I2C_CTL_SPEED, .rw, [(0, 2)]⟩, ⟨F.ENG_I2C_CTL_STRETCH_MAX, .rw, [(1, 65535)]⟩, ⟨F.ENG_I2C_CTL_EN, .rw, []⟩], 0x40fa2⟩,
  ⟨.ENG_I2C_STAT, 0x60080, [(0x8, 4)], [⟨F.ENG_I2C_STAT_BUSY, .ro, []⟩, ⟨F.ENG_I2C_STAT_NAK_CNT, .rc, []⟩, ⟨F.ENG_I2C_STAT_TIMEOUT_CNT, .rc, []⟩, ⟨F.ENG_I2C_STAT_RECOVER_CNT, .rc, []⟩], 0x0⟩,
  ⟨.ENG_MPD, 0x60100, [(0x8, 16)], [⟨F.ENG_MPD_ADDR, .rw, []⟩, ⟨F.ENG_MPD_REG, .rw, []⟩, ⟨F.ENG_MPD_STRIDE, .rw, []⟩, ⟨F.ENG_MPD_BE, .rw, []⟩, ⟨F.ENG_MPD_EN, .rw, []⟩], 0x0⟩,
  ⟨.EDAC_CH_CFG, 0x61000, [(0x8, 432)], [⟨F.EDAC_CH_CFG_SPAN, .rw, []⟩, ⟨F.EDAC_CH_CFG_RB_EN, .rw, []⟩], 0x4⟩,
  ⟨.EDAC_CH_STAT, 0x62000, [(0x8, 432)], [⟨F.EDAC_CH_STAT_CODE, .ro, []⟩, ⟨F.EDAC_CH_STAT_QDEPTH, .ro, []⟩, ⟨F.EDAC_CH_STAT_OWNER, .ro, []⟩, ⟨F.EDAC_CH_STAT_SPAN_PEND, .ro, []⟩, ⟨F.EDAC_CH_STAT_RB, .ro, []⟩, ⟨F.EDAC_CH_STAT_RB_FAIL_CNT, .rc, []⟩], 0x300000⟩,
  ⟨.EDAC_CLR, 0x63000, [(0x8, 432)], [⟨F.EDAC_CLR_CODE, .rwl, []⟩], 0x0⟩,
  ⟨.EDAC_RAMP_CTL, 0x64000, [(0x200, 16)], [⟨F.EDAC_RAMP_CTL_TICKS, .rw, [(1, 4095)]⟩, ⟨F.EDAC_RAMP_CTL_COUNT, .rw, [(0, 32)]⟩, ⟨F.EDAC_RAMP_CTL_BUSY, .ro, []⟩], 0x1⟩,
  ⟨.EDAC_RAMP_ENT, 0x64008, [(0x200, 16), (0x8, 32)], [⟨F.EDAC_RAMP_ENT_CH, .rw, [(0, 431)]⟩, ⟨F.EDAC_RAMP_ENT_TARGET, .rw, []⟩], 0x0⟩]

/-- Rows of the register map, block PAIR. -/
def regsPAIR : List RegDef := [
  ⟨.PAIR_CTL, 0x80000, [], [⟨F.PAIR_CTL_AUTO, .rwl, []⟩, ⟨F.PAIR_CTL_FENCE_EN, .rwl, []⟩, ⟨F.PAIR_CTL_FENCE_TICKS, .rwl, [(2, 15)]⟩, ⟨F.PAIR_CTL_PAIR_MISS_TICKS, .rwl, [(2, 255)]⟩], 0x29b⟩,
  ⟨.PAIR_STAT, 0x80008, [], [⟨F.PAIR_STAT_ROLE, .ro, []⟩, ⟨F.PAIR_STAT_PRESENT, .ro, []⟩, ⟨F.PAIR_STAT_LOCK_IN, .ro, []⟩, ⟨F.PAIR_STAT_HOLDER, .ro, []⟩, ⟨F.PAIR_STAT_STATE, .ro, []⟩, ⟨F.PAIR_STAT_HB_LOST, .ro, []⟩, ⟨F.PAIR_STAT_TWIN_SYNCED, .ro, []⟩, ⟨F.PAIR_STAT_DUAL, .ro, []⟩, ⟨F.PAIR_STAT_PLAN_DIFF, .ro, []⟩, ⟨F.PAIR_STAT_TWIN_TIME, .ro, []⟩], 0x0⟩,
  ⟨.PAIR_MIR_STAT, 0x80010, [], [⟨F.PAIR_MIR_STAT_TX_ALIVE, .ro, []⟩, ⟨F.PAIR_MIR_STAT_ACK_ALIVE, .ro, []⟩, ⟨F.PAIR_MIR_STAT_PENDING, .ro, []⟩, ⟨F.PAIR_MIR_STAT_BULK_LEFT, .ro, []⟩, ⟨F.PAIR_MIR_STAT_IMAGE, .ro, []⟩], 0x0⟩,
  ⟨.PAIR_CNT, 0x80018, [], [⟨F.PAIR_CNT_RESEND_CNT, .rc, []⟩, ⟨F.PAIR_CNT_JUMP_CNT, .rc, []⟩, ⟨F.PAIR_CNT_STALE_CNT, .rc, []⟩, ⟨F.PAIR_CNT_LOOPED, .rc, []⟩, ⟨F.PAIR_CNT_TAKEOVER_CNT, .rc, []⟩], 0x0⟩,
  ⟨.PAIR_TWIN_DT, 0x80020, [], [⟨F.PAIR_TWIN_DT_DT, .ro, []⟩], 0x0⟩,
  ⟨.PAIR_LAST, 0x80028, [], [⟨F.PAIR_LAST_TICK, .ro, []⟩, ⟨F.PAIR_LAST_EVENT, .ro, []⟩], 0x0⟩,
  ⟨.SHRD_CTL, 0x80100, [], [⟨F.SHRD_CTL_EN, .rw, []⟩, ⟨F.SHRD_CTL_LOOP, .ro, []⟩], 0x1⟩,
  ⟨.SHRD_STAT, 0x80108, [], [⟨F.SHRD_STAT_LINK, .ro, []⟩, ⟨F.SHRD_STAT_LANE_LOCK, .ro, []⟩, ⟨F.SHRD_STAT_CLK_LOCK, .ro, []⟩, ⟨F.SHRD_STAT_SKEW, .ro, []⟩], 0x0⟩,
  ⟨.SHRD_LANE_STAT, 0x80140, [(0x10, 8)], [⟨F.SHRD_LANE_STAT_STATE, .ro, []⟩, ⟨F.SHRD_LANE_STAT_COARSE_HIT, .ro, []⟩, ⟨F.SHRD_LANE_STAT_EXACT, .ro, []⟩, ⟨F.SHRD_LANE_STAT_FINE, .ro, []⟩, ⟨F.SHRD_LANE_STAT_WINDOW, .ro, []⟩, ⟨F.SHRD_LANE_STAT_SEARCH_TICKS, .ro, []⟩, ⟨F.SHRD_LANE_STAT_SKEW, .ro, []⟩], 0x0⟩,
  ⟨.SHRD_LANE_CNT, 0x80148, [(0x10, 8)], [⟨F.SHRD_LANE_CNT_LOCK_LOSS, .rc, []⟩, ⟨F.SHRD_LANE_CNT_HDR_ERR, .rc, []⟩], 0x0⟩,
  ⟨.PAT_CTL_S, 0x80300, [(0x40, 8)], [⟨F.PAT_CTL_GEN, .ro, []⟩, ⟨F.PAT_CTL_CHK, .ro, []⟩, ⟨F.PAT_CTL_SQ_HALF, .ro, []⟩, ⟨F.PAT_CTL_LOOP, .ro, []⟩, ⟨F.PAT_CTL_FORCED, .ro, []⟩], 0x100⟩,
  ⟨.PAT_STAT_S, 0x80308, [(0x40, 8)], [⟨F.PAT_STAT_LOCK, .ro, []⟩, ⟨F.PAT_STAT_GEN_ACTIVE, .ro, []⟩, ⟨F.PAT_STAT_LOCK_LOSS, .rc, []⟩, ⟨F.PAT_STAT_SLIP_CNT, .rc, []⟩], 0x0⟩,
  ⟨.PAT_ERR_S, 0x80310, [(0x40, 8)], [⟨F.PAT_ERR_CNT, .rc, []⟩], 0x0⟩,
  ⟨.PAT_BITS_S, 0x80318, [(0x40, 8)], [⟨F.PAT_BITS_CNT, .rc, []⟩], 0x0⟩,
  ⟨.PAT_USER_S, 0x80320, [(0x40, 8), (0x8, 2)], [⟨F.PAT_USER_BITS, .rw, []⟩], 0x0⟩,
  ⟨.PAT_USER2_S, 0x80330, [(0x40, 8)], [⟨F.PAT_USER2_BITS, .rw, []⟩], 0x0⟩]

/-- Rows of the register map, block CHK. -/
def regsCHK : List RegDef := [
  ⟨.CHK_CTL, 0x90000, [(0x40, 32)], [⟨F.CHK_CTL_EN, .rw, []⟩, ⟨F.CHK_CTL_MODE, .rw, []⟩, ⟨F.CHK_CTL_POLY, .rw, []⟩, ⟨F.CHK_CTL_START, .w1s, []⟩, ⟨F.CHK_CTL_STREAM, .ro, []⟩, ⟨F.CHK_CTL_RES_VALID, .ro, []⟩], 0x0⟩,
  ⟨.CHK_VAL, 0x90008, [(0x40, 32)], [⟨F.CHK_VAL_VAL, .rw, []⟩], 0x0⟩,
  ⟨.CHK_DATA, 0x90010, [(0x40, 32)], [⟨F.CHK_DATA_DATA, .wo, []⟩], 0x0⟩,
  ⟨.CHK_TAIL, 0x90018, [(0x40, 32)], [⟨F.CHK_TAIL_DATA, .wo, []⟩, ⟨F.CHK_TAIL_COUNT, .wo, []⟩], 0x0⟩,
  ⟨.CHK_RES, 0x90020, [(0x40, 32)], [⟨F.CHK_RES_RES, .ro, []⟩], 0x0⟩,
  ⟨.CHK_CNT, 0x90028, [(0x40, 32)], [⟨F.CHK_CNT_FRAMES, .rc, []⟩, ⟨F.CHK_CNT_MISMATCH, .rc, []⟩], 0x0⟩]

/-- Rows of the register map, block MEM. -/
def regsMEM : List RegDef := [
  ⟨.MEM_ECC_CTL, 0xa0000, [], [⟨F.MEM_ECC_CTL_SOFT_THR, .rwl, [(1, 255)]⟩, ⟨F.MEM_ECC_CTL_REFRESH_EN, .rwl, []⟩], 0x108⟩,
  ⟨.MEM_CORR_LOG, 0xa0008, [], [⟨F.MEM_CORR_LOG_MEM_ID, .ro, []⟩, ⟨F.MEM_CORR_LOG_POS, .ro, []⟩, ⟨F.MEM_CORR_LOG_SYNDROME, .ro, []⟩, ⟨F.MEM_CORR_LOG_TICK, .ro, []⟩], 0x0⟩,
  ⟨.MEM_CORR_ADDR, 0xa0010, [], [⟨F.MEM_CORR_ADDR_ADDR, .ro, []⟩], 0x0⟩,
  ⟨.MEM_UNC_LOG, 0xa0018, [], [⟨F.MEM_UNC_LOG_MEM_ID, .ro, []⟩, ⟨F.MEM_UNC_LOG_SYNDROME, .ro, []⟩, ⟨F.MEM_UNC_LOG_POISON, .ro, []⟩, ⟨F.MEM_UNC_LOG_TICK, .ro, []⟩], 0x0⟩,
  ⟨.MEM_UNC_ADDR, 0xa0020, [], [⟨F.MEM_UNC_ADDR_ADDR, .ro, []⟩], 0x0⟩,
  ⟨.MEM_REPAIR_STAT, 0xa0028, [], [⟨F.MEM_REPAIR_STAT_SOFT_USED, .ro, []⟩, ⟨F.MEM_REPAIR_STAT_UNREPAIRED, .ro, []⟩, ⟨F.MEM_REPAIR_STAT_BAD_MACROS, .ro, []⟩], 0x0⟩,
  ⟨.REFRESH_STAT, 0xa0030, [], [⟨F.REFRESH_STAT_REFRESH_FIX, .rc, []⟩, ⟨F.REFRESH_STAT_LOST_CNT, .rc, []⟩], 0x0⟩,
  ⟨.MEM_BAD_MACRO, 0xa0038, [], [⟨F.MEM_BAD_MACRO_BAD, .ro, []⟩], 0x0⟩,
  ⟨.MEM_CNT, 0xa0040, [(0x8, 5)], [⟨F.MEM_CNT_CORR, .rc, []⟩, ⟨F.MEM_CNT_CHK_ONLY, .rc, []⟩, ⟨F.MEM_CNT_UNC, .rc, []⟩], 0x0⟩,
  ⟨.D2D_CNT, 0xa0080, [(0x8, 4)], [⟨F.D2D_CNT_CORR, .rc, []⟩, ⟨F.D2D_CNT_UNC, .rc, []⟩], 0x0⟩,
  ⟨.MEM_TEST_CTL, 0xa0200, [], [⟨F.MEM_TEST_CTL_OP, .rwl, [(0, 2)]⟩, ⟨F.MEM_TEST_CTL_DIE, .rwl, []⟩, ⟨F.MEM_TEST_CTL_MACRO, .rwl, []⟩, ⟨F.MEM_TEST_CTL_WORD, .rwl, []⟩], 0x0⟩,
  ⟨.MEM_TEST_DATA, 0xa0208, [], [⟨F.MEM_TEST_DATA_DATA, .rwl, []⟩], 0x0⟩,
  ⟨.MEM_TEST_CHK, 0xa0210, [], [⟨F.MEM_TEST_CHK_CHK, .rwl, []⟩, ⟨F.MEM_TEST_CHK_SYNDROME, .ro, []⟩], 0x0⟩,
  ⟨.GD_CTL, 0xa8000, [], [⟨F.GD_CTL_RETRAIN_DT, .rw, [(2, 100)]⟩, ⟨F.GD_CTL_EDC_RETRY, .rw, [(1, 15)]⟩, ⟨F.GD_CTL_OTHER_MAX, .rw, [(1, 40)]⟩], 0x28314⟩,
  ⟨.GD_STAT, 0xa8008, [], [⟨F.GD_STAT_READY, .ro, []⟩, ⟨F.GD_STAT_CH_FAIL, .ro, []⟩, ⟨F.GD_STAT_RETRAIN_CNT, .rc, []⟩], 0x0⟩,
  ⟨.GD_CH_STAT, 0xa8100, [(0x10, 24)], [⟨F.GD_CH_STAT_TRAINED, .ro, []⟩, ⟨F.GD_CH_STAT_FAIL, .ro, []⟩, ⟨F.GD_CH_STAT_TRAIN_TEMP, .ro, []⟩, ⟨F.GD_CH_STAT_TRAIN_TICK, .ro, []⟩], 0x0⟩,
  ⟨.GD_CH_CNT, 0xa8108, [(0x10, 24)], [⟨F.GD_CH_CNT_EDC_ERR, .rc, []⟩, ⟨F.GD_CH_CNT_RETRY_FAIL, .rc, []⟩], 0x0⟩]

/-- Rows of the register map, block PERF. -/
def regsPERF : List RegDef := [
  ⟨.PERF_CTL, 0xb0000, [], [⟨F.PERF_CTL_GATE, .rw, [(0, 1)]⟩], 0x0⟩,
  ⟨.PERF_WIN_START, 0xb0008, [], [⟨F.PERF_WIN_START_TICK, .rw, []⟩], 0x0⟩,
  ⟨.PERF_WIN_STOP, 0xb0010, [], [⟨F.PERF_WIN_STOP_TICK, .rw, []⟩], 0x0⟩,
  ⟨.PERF_SEL, 0xb0800, [(0x8, 256)], [⟨F.PERF_SEL_EVENT, .rw, []⟩, ⟨F.PERF_SEL_EN, .rw, []⟩], 0x0⟩,
  ⟨.PERF_CNT, 0xb1000, [(0x8, 256)], [⟨F.PERF_CNT_CNT, .rc, []⟩], 0x0⟩,
  ⟨.HIST_CTL, 0xb2000, [(0x20, 16)], [⟨F.HIST_CTL_EN, .rw, []⟩, ⟨F.HIST_CTL_FREEZE, .rw, []⟩, ⟨F.HIST_CTL_CLEAR, .w1s, []⟩, ⟨F.HIST_CTL_SRC, .rw, []⟩, ⟨F.HIST_CTL_ARG, .rw, []⟩], 0x0⟩,
  ⟨.HIST_CFG, 0xb2008, [(0x20, 16)], [⟨F.HIST_CFG_BIN_W, .rw, [(1, 65535)]⟩, ⟨F.HIST_CFG_BASE, .rw, []⟩, ⟨F.HIST_CFG_SCALE, .rw, []⟩], 0x28⟩,
  ⟨.HIST_STAT, 0xb2010, [(0x20, 16)], [⟨F.HIST_STAT_MIN, .ro, []⟩, ⟨F.HIST_STAT_MAX, .ro, []⟩, ⟨F.HIST_STAT_LOST, .ro, []⟩], 0xffffff⟩,
  ⟨.HIST_SUM, 0xb2018, [(0x20, 16)], [⟨F.HIST_SUM_SUM, .ro, []⟩], 0x0⟩,
  ⟨.HIST_BIN, 0xb3000, [(0x200, 16), (0x8, 64)], [⟨F.HIST_BIN_CNT, .ro, []⟩], 0x0⟩,
  ⟨.PMU_SEL, 0xb5000, [(0x8, 4)], [⟨F.PMU_SEL_EVENT0, .rw, []⟩, ⟨F.PMU_SEL_EVENT1, .rw, []⟩, ⟨F.PMU_SEL_EVENT2, .rw, []⟩, ⟨F.PMU_SEL_EVENT3, .rw, []⟩, ⟨F.PMU_SEL_EVENT4, .rw, []⟩, ⟨F.PMU_SEL_EVENT5, .rw, []⟩, ⟨F.PMU_SEL_EVENT6, .rw, []⟩, ⟨F.PMU_SEL_EVENT7, .rw, []⟩], 0x0⟩,
  ⟨.PMU_CNT, 0xb5100, [(0x40, 4), (0x8, 8)], [⟨F.PMU_CNT_CNT, .rc, []⟩], 0x0⟩,
  ⟨.SAMP_CTL, 0xb5400, [], [⟨F.SAMP_CTL_EN, .rw, []⟩, ⟨F.SAMP_CTL_CORES, .rw, []⟩, ⟨F.SAMP_CTL_EVENT, .rw, []⟩, ⟨F.SAMP_CTL_PERIOD, .rw, [(1, 65535)]⟩, ⟨F.SAMP_CTL_RING, .rw, []⟩, ⟨F.SAMP_CTL_BATCH, .rw, [(1, 64)]⟩], 0x2000004e20040⟩,
  ⟨.SAMP_STAT, 0xb5408, [], [⟨F.SAMP_STAT_FILL, .ro, []⟩, ⟨F.SAMP_STAT_LOST, .rc, []⟩], 0x0⟩,
  ⟨.CAP_CFG, 0xb5800, [(0x8, 4)], [⟨F.CAP_CFG_SRC, .rw, []⟩, ⟨F.CAP_CFG_LEN, .rw, [(1, 1024)]⟩, ⟨F.CAP_CFG_BUF, .rw, []⟩], 0x4⟩,
  ⟨.CAP_BUF_A, 0xb5900, [(0x10, 16)], [⟨F.CAP_BUF_A_VALID, .ro, []⟩, ⟨F.CAP_BUF_A_BUSY, .ro, []⟩, ⟨F.CAP_BUF_A_LANE, .ro, []⟩, ⟨F.CAP_BUF_A_SRC, .ro, []⟩, ⟨F.CAP_BUF_A_LEN, .ro, []⟩, ⟨F.CAP_BUF_A_DAMAGED, .ro, []⟩], 0x0⟩,
  ⟨.CAP_BUF_B, 0xb5908, [(0x10, 16)], [⟨F.CAP_BUF_B_TICK, .ro, []⟩, ⟨F.CAP_BUF_B_POS, .ro, []⟩], 0x0⟩]

/-- Rows of the register map, block SEC. -/
def regsSEC : List RegDef := [
  ⟨.SEC_BOOT_STAT, 0xc0000, [], [⟨F.SEC_BOOT_STAT_STAGE, .ro, []⟩, ⟨F.SEC_BOOT_STAT_SLOT, .ro, []⟩, ⟨F.SEC_BOOT_STAT_FALLBACK, .ro, []⟩, ⟨F.SEC_BOOT_STAT_VERSION, .ro, []⟩, ⟨F.SEC_BOOT_STAT_FW_READY, .ro, []⟩, ⟨F.SEC_BOOT_STAT_CERT_OK, .ro, []⟩, ⟨F.SEC_BOOT_STAT_REPAIR_OK, .ro, []⟩, ⟨F.SEC_BOOT_STAT_FW_START, .ro, []⟩], 0x0⟩,
  ⟨.SEC_FUSE_STAT, 0xc0008, [], [⟨F.SEC_FUSE_STAT_ROLLBACK, .ro, []⟩, ⟨F.SEC_FUSE_STAT_ORDER, .ro, []⟩], 0x0⟩,
  ⟨.SEC_KEY_STAT, 0xc0010, [], [⟨F.SEC_KEY_STAT_SLOTS, .ro, []⟩], 0x0⟩,
  ⟨.SEC_START_DOM, 0xc0018, [], [⟨F.SEC_START_DOM_DOMAINS, .rw, []⟩], 0x7fffffffff8⟩,
  ⟨.SEC_FLASH_CTL, 0xc0200, [], [⟨F.SEC_FLASH_CTL_OP, .wo, [(0, 2)]⟩], 0x0⟩,
  ⟨.SEC_FLASH_ADDR, 0xc0208, [], [⟨F.SEC_FLASH_ADDR_ADDR, .rw, []⟩, ⟨F.SEC_FLASH_ADDR_BUSY, .ro, []⟩], 0x0⟩,
  ⟨.SEC_FLASH_DATA, 0xc0210, [], [⟨F.SEC_FLASH_DATA_DATA, .rw, []⟩], 0x0⟩,
  ⟨.SEC_DIE_LOT, 0xc0100, [(0x10, 5)], [⟨F.SEC_DIE_LOT_LOT, .ro, []⟩], 0x0⟩,
  ⟨.SEC_DIE_POS, 0xc0108, [(0x10, 5)], [⟨F.SEC_DIE_POS_WAFER, .ro, []⟩, ⟨F.SEC_DIE_POS_X, .ro, []⟩, ⟨F.SEC_DIE_POS_Y, .ro, []⟩], 0x0⟩,
  ⟨.TASK_CFG, 0xc0400, [(0x20, 2)], [⟨F.TASK_CFG_STATE, .ro, []⟩, ⟨F.TASK_CFG_MODE, .ro, []⟩, ⟨F.TASK_CFG_BUDGET_NS, .ro, []⟩, ⟨F.TASK_CFG_KEY_SLOT, .ro, []⟩, ⟨F.TASK_CFG_VERSION, .ro, []⟩], 0x7d00⟩,
  ⟨.TASK_STAT, 0xc0408, [(0x20, 2)], [⟨F.TASK_STAT_RUNS, .rc, []⟩, ⟨F.TASK_STAT_OVERRUNS, .rc, []⟩, ⟨F.TASK_STAT_MAX_NS, .rc, []⟩], 0x0⟩]

/-- Rows of the register map, block OCTL, part 0. -/
def regsOCTL0 : List RegDef := [
  ⟨.RX_OCT_STAT, 0x100000, [(0x10000, 16)], [⟨F.RX_OCT_STAT_PHASE_MODE, .ro, []⟩, ⟨F.RX_OCT_STAT_MODE_STAGED, .ro, []⟩], 0x0⟩,
  ⟨.RX_AFE_CTL, 0x100040, [(0x10000, 16), (0x40, 9)], [⟨F.RX_AFE_CTL_GAIN, .rw, []⟩, ⟨F.RX_AFE_CTL_RAW_LOS_THR, .rw, [(1, 127)]⟩], 0x10c⟩,
  ⟨.RX_AFE_STAT, 0x100048, [(0x10000, 16), (0x40, 9)], [⟨F.RX_AFE_STAT_RAW_LOS, .ro, []⟩, ⟨F.RX_AFE_STAT_RMS, .ro, []⟩, ⟨F.RX_AFE_STAT_CLIP_CNT, .rc, []⟩], 0x1⟩,
  ⟨.ADC_BG_CTL, 0x100050, [(0x10000, 16), (0x40, 9)], [⟨F.ADC_BG_CTL_EN, .rw, []⟩, ⟨F.ADC_BG_CTL_MU_OFS, .rw, []⟩, ⟨F.ADC_BG_CTL_MU_GAIN, .rw, []⟩, ⟨F.ADC_BG_CTL_MU_SKEW, .rw, []⟩], 0x1b7⟩,
  ⟨.ADC_BG_STAT, 0x100058, [(0x10000, 16), (0x40, 9)], [⟨F.ADC_BG_STAT_CONVERGED, .ro, []⟩, ⟨F.ADC_BG_STAT_RANGE, .ro, []⟩, ⟨F.ADC_BG_STAT_SPUR, .ro, []⟩], 0x0⟩,
  ⟨.FFE_CTL, 0x100060, [(0x10000, 16), (0x40, 9)], [⟨F.FFE_CTL_ADAPT, .rw, [(0, 2)]⟩, ⟨F.FFE_CTL_MU, .rw, []⟩, ⟨F.FFE_CTL_ADAPT_PERIOD, .rw, [(1, 255)]⟩, ⟨F.FFE_CTL_LEN, .rw, []⟩, ⟨F.FFE_CTL_ERR_SRC, .rw, []⟩], 0x299⟩,
  ⟨.FFE_STAT, 0x100068, [(0x10000, 16), (0x40, 9)], [⟨F.FFE_STAT_ACTIVE_BANK, .ro, []⟩, ⟨F.FFE_STAT_SWAP_STAGED, .ro, []⟩, ⟨F.FFE_STAT_SWAP_CNT, .rc, []⟩, ⟨F.FFE_STAT_SAT_CNT, .rc, []⟩], 0x0⟩,
  ⟨.FFE_MASK, 0x100070, [(0x10000, 16), (0x40, 9)], [⟨F.FFE_MASK_MASK, .rw, []⟩], 0xffffffffffff⟩,
  ⟨.TRL_CTL, 0x100078, [(0x10000, 16), (0x40, 9)], [⟨F.TRL_CTL_ERASE_THR, .rw, []⟩, ⟨F.TRL_CTL_ERASE_MAX, .rw, [(0, 40)]⟩, ⟨F.TRL_CTL_CH_ADAPT, .rw, []⟩, ⟨F.TRL_CTL_LVL_ADAPT, .rw, []⟩], 0xd018⟩,
  ⟨.TRL_CH, 0x100280, [(0x10000, 16), (0x20, 9)], [⟨F.TRL_CH_H1, .rw, []⟩, ⟨F.TRL_CH_H2, .rw, []⟩], 0x0⟩,
  ⟨.TRL_LVL, 0x100288, [(0x10000, 16), (0x20, 9)], [⟨F.TRL_LVL_LV0, .rw, []⟩, ⟨F.TRL_LVL_LV1, .rw, []⟩, ⟨F.TRL_LVL_LV2, .rw, []⟩, ⟨F.TRL_LVL_LV3, .rw, []⟩], 0x60002000e000a00⟩,
  ⟨.TRL_STAT, 0x100290, [(0x10000, 16), (0x20, 9)], [⟨F.TRL_STAT_ERASE_CNT, .rc, []⟩, ⟨F.TRL_STAT_ERASE_CAP_CNT, .rc, []⟩], 0x0⟩,
  ⟨.TX_SYN_CTL, 0x100800, [(0x10000, 16)], [⟨F.TX_SYN_CTL_PREF, .rw, []⟩, ⟨F.TX_SYN_CTL_PLL_DT, .rw, [(2, 100)]⟩, ⟨F.TX_SYN_CTL_AUTO_CAL, .rw, []⟩, ⟨F.TX_SYN_CTL_PLL_LOCK_TIMEOUT, .rw, [(1, 4095)]⟩], 0x3e93c⟩,
  ⟨.TX_SYN_STAT, 0x100808, [(0x10000, 16)], [⟨F.TX_SYN_STAT_RUN_SYN, .ro, []⟩, ⟨F.TX_SYN_STAT_RUN_VALID, .ro, []⟩, ⟨F.TX_SYN_STAT_STATE_A, .ro, []⟩, ⟨F.TX_SYN_STAT_STATE_B, .ro, []⟩, ⟨F.TX_SYN_STAT_HANDOVER_CNT, .rc, []⟩, ⟨F.TX_SYN_STAT_UNLOCK_CNT, .rc, []⟩, ⟨F.TX_SYN_STAT_CAL_FAIL_CNT, .rc, []⟩], 0x0⟩,
  ⟨.LOOP_CTL, 0x100820, [(0x10000, 16)], [⟨F.LOOP_CTL_EN, .rw, []⟩, ⟨F.LOOP_CTL_SRC, .rw, []⟩, ⟨F.LOOP_CTL_STEER_MAX, .rw, [(1, 1000)]⟩, ⟨F.LOOP_CTL_STEER_SLEW, .rw, [(1, 4095)]⟩, ⟨F.LOOP_CTL_PHASE_LIM, .rw, [(16, 1024)]⟩], 0x10000a320⟩,
  ⟨.LOOP_STAT, 0x100828, [(0x10000, 16)], [⟨F.LOOP_STAT_STEER, .ro, []⟩, ⟨F.LOOP_STAT_PHASE_ERR, .ro, []⟩, ⟨F.LOOP_STAT_HOLD, .ro, []⟩, ⟨F.LOOP_STAT_CLAMP, .ro, []⟩], 0x0⟩,
  ⟨.TX_FRAME_CTL, 0x100830, [(0x10000, 16)], [⟨F.TX_FRAME_CTL_OFFSET, .rw, []⟩], 0x0⟩,
  ⟨.TONE_CTL, 0x100838, [(0x10000, 16)], [⟨F.TONE_CTL_TONE_HI, .rw, []⟩, ⟨F.TONE_CTL_TONE_LO, .rw, []⟩, ⟨F.TONE_CTL_TONE_EN, .rw, []⟩], 0x110ef⟩,
  ⟨.TX_SYN_CAL, 0x100810, [(0x10000, 16), (0x8, 2)], [⟨F.TX_SYN_CAL_CAL_TEMP, .ro, []⟩, ⟨F.TX_SYN_CAL_CAL_TICK, .ro, []⟩], 0x0⟩,
  ⟨.TX_LANE_CTL, 0x100840, [(0x10000, 16), (0x8, 9)], [⟨F.TX_LANE_CTL_RAMP_TICKS, .rw, [(1, 4095)]⟩, ⟨F.TX_LANE_CTL_PLAN_EN, .rw, []⟩, ⟨F.TX_LANE_CTL_LAUNCH_OWN, .rw, []⟩, ⟨F.TX_LANE_CTL_INV, .rw, []⟩, ⟨F.TX_LANE_CTL_PRECODE, .rw, []⟩], 0x3064⟩,
  ⟨.TX_LANE_STAT, 0x100890, [(0x10000, 16), (0x8, 9)], [⟨F.TX_LANE_STAT_STATE, .ro, []⟩, ⟨F.TX_LANE_STAT_CUR_STEP, .ro, []⟩, ⟨F.TX_LANE_STAT_TARGET_STEP, .ro, []⟩, ⟨F.TX_LANE_STAT_PENDING, .ro, []⟩, ⟨F.TX_LANE_STAT_PEND_STEP, .ro, []⟩, ⟨F.TX_LANE_STAT_PEND_DISABLE, .ro, []⟩, ⟨F.TX_LANE_STAT_RAMP_LEFT, .ro, []⟩, ⟨F.TX_LANE_STAT_CLIP_CNT, .rc, []⟩], 0x0⟩,
  ⟨.TX_DAC_LVL, 0x100900, [(0x10000, 16), (0x10, 9)], [⟨F.TX_DAC_LVL_LVL0, .rw, []⟩, ⟨F.TX_DAC_LVL_LVL1, .rw, []⟩, ⟨F.TX_DAC_LVL_LVL2, .rw, []⟩, ⟨F.TX_DAC_LVL_LVL3, .rw, []⟩], 0xefa55a10⟩,
  ⟨.TX_FIR, 0x100908, [(0x10000, 16), (0x10, 9)], [⟨F.TX_FIR_PRE, .rw, []⟩, ⟨F.TX_FIR_POST, .rw, []⟩, ⟨F.TX_FIR_EN, .rw, []⟩], 0x0⟩,
  ⟨.LAUNCH, 0x100a00, [(0x10000, 16), (0x80, 9), (0x8, 16)], [⟨F.LAUNCH_BIAS, .rw, []⟩, ⟨F.LAUNCH_MOD, .rw, []⟩, ⟨F.LAUNCH_SWING, .rw, []⟩], 0x0⟩,
  ⟨.ADC_CAL, 0x101000, [(0x10000, 16), (0x200, 9), (0x8, 64)], [⟨F.ADC_CAL_OFS, .rw, []⟩, ⟨F.ADC_CAL_GAIN, .rw, []⟩, ⟨F.ADC_CAL_SKEW, .rw, []⟩], 0x0⟩]

/-- Rows of the register map, block OCTL, part 1. -/
def regsOCTL1 : List RegDef := [
  ⟨.FFE_COEF, 0x102200, [(0x10000, 16), (0x100, 9), (0x80, 2), (0x8, 12)], [⟨F.FFE_COEF_C0, .rw, []⟩, ⟨F.FFE_COEF_C1, .rw, []⟩, ⟨F.FFE_COEF_C2, .rw, []⟩, ⟨F.FFE_COEF_C3, .rw, []⟩], 0x0⟩,
  ⟨.MON_CTL, 0x103000, [(0x10000, 16), (0x80, 9)], [⟨F.MON_CTL_SRC, .rw, [(0, 8)]⟩, ⟨F.MON_CTL_FIR_SEL, .rw, [(0, 2)]⟩], 0x0⟩,
  ⟨.MON_THR_LOS, 0x103008, [(0x10000, 16), (0x80, 9)], [⟨F.MON_THR_x_THR, .rw, []⟩, ⟨F.MON_THR_x_HYST, .rw, []⟩, ⟨F.MON_THR_x_SET_N, .rw, [(1, 255)]⟩, ⟨F.MON_THR_x_CLR_N, .rw, [(1, 255)]⟩, ⟨F.MON_THR_x_STREAM, .rw, []⟩, ⟨F.MON_THR_x_EN, .rw, []⟩], 0x20303012cf448⟩,
  ⟨.MON_THR_SNR, 0x103010, [(0x10000, 16), (0x80, 9)], [⟨F.MON_THR_x_THR, .rw, []⟩, ⟨F.MON_THR_x_HYST, .rw, []⟩, ⟨F.MON_THR_x_SET_N, .rw, [(1, 255)]⟩, ⟨F.MON_THR_x_CLR_N, .rw, [(1, 255)]⟩, ⟨F.MON_THR_x_STREAM, .rw, []⟩, ⟨F.MON_THR_x_EN, .rw, []⟩], 0x2030300320640⟩,
  ⟨.MON_THR_IMB, 0x103018, [(0x10000, 16), (0x80, 9)], [⟨F.MON_THR_x_THR, .rw, []⟩, ⟨F.MON_THR_x_HYST, .rw, []⟩, ⟨F.MON_THR_x_SET_N, .rw, [(1, 255)]⟩, ⟨F.MON_THR_x_CLR_N, .rw, [(1, 255)]⟩, ⟨F.MON_THR_x_STREAM, .rw, []⟩, ⟨F.MON_THR_x_EN, .rw, []⟩], 0x2030300140096⟩,
  ⟨.MON_THR_NF, 0x103020, [(0x10000, 16), (0x80, 9)], [⟨F.MON_THR_x_THR, .rw, []⟩, ⟨F.MON_THR_x_HYST, .rw, []⟩, ⟨F.MON_THR_x_SET_N, .rw, [(1, 255)]⟩, ⟨F.MON_THR_x_CLR_N, .rw, [(1, 255)]⟩, ⟨F.MON_THR_x_STREAM, .rw, []⟩, ⟨F.MON_THR_x_EN, .rw, []⟩], 0x203030064f8f8⟩,
  ⟨.MON_STAT, 0x103028, [(0x10000, 16), (0x80, 9)], [⟨F.MON_STAT_LOS, .ro, []⟩, ⟨F.MON_STAT_SNR_LOW, .ro, []⟩, ⟨F.MON_STAT_IMB_HIGH, .ro, []⟩, ⟨F.MON_STAT_NF_HIGH, .ro, []⟩, ⟨F.MON_STAT_T_UNSET, .ro, []⟩, ⟨F.MON_STAT_K_UNSET, .ro, []⟩], 0x3f0⟩,
  ⟨.MON_T_A, 0x103030, [(0x10000, 16), (0x80, 9)], [⟨F.MON_T_A_PWR, .ro, []⟩, ⟨F.MON_T_A_NF, .ro, []⟩, ⟨F.MON_T_A_SNR, .ro, []⟩, ⟨F.MON_T_A_UNSETTLED, .ro, []⟩, ⟨F.MON_T_A_NO_INPUT, .ro, []⟩, ⟨F.MON_T_A_TONE, .ro, []⟩], 0x0⟩,
  ⟨.MON_T_B, 0x103038, [(0x10000, 16), (0x80, 9)], [⟨F.MON_T_B_D1, .ro, []⟩, ⟨F.MON_T_B_D2, .ro, []⟩, ⟨F.MON_T_B_D3, .ro, []⟩, ⟨F.MON_T_B_IMB, .ro, []⟩], 0x0⟩,
  ⟨.MON_T_SER, 0x103040, [(0x10000, 16), (0x80, 9)], [⟨F.MON_T_SER_SER, .ro, []⟩, ⟨F.MON_T_SER_TICK, .ro, []⟩], 0x0⟩,
  ⟨.MON_K_A, 0x103048, [(0x10000, 16), (0x80, 9)], [⟨F.MON_T_A_PWR, .ro, []⟩, ⟨F.MON_T_A_NF, .ro, []⟩, ⟨F.MON_T_A_SNR, .ro, []⟩, ⟨F.MON_T_A_UNSETTLED, .ro, []⟩, ⟨F.MON_T_A_NO_INPUT, .ro, []⟩, ⟨F.MON_T_A_TONE, .ro, []⟩], 0x0⟩,
  ⟨.MON_K_B, 0x103050, [(0x10000, 16), (0x80, 9)], [⟨F.MON_T_B_D1, .ro, []⟩, ⟨F.MON_T_B_D2, .ro, []⟩, ⟨F.MON_T_B_D3, .ro, []⟩, ⟨F.MON_T_B_IMB, .ro, []⟩], 0x0⟩,
  ⟨.MON_K_SER, 0x103058, [(0x10000, 16), (0x80, 9)], [⟨F.MON_T_SER_SER, .ro, []⟩, ⟨F.MON_T_SER_TICK, .ro, []⟩], 0x0⟩]

/-- Rows of the register map, block OCTL. -/
def regsOCTL : List RegDef := regsOCTL0 ++ regsOCTL1

/-- Rows of the register map, block OCT, part 0. -/
def regsOCT0 : List RegDef := [
  ⟨.FRM_CTL, 0x104000, [(0x10000, 16)], [⟨F.FRM_CTL_MODE, .rw, []⟩, ⟨F.FRM_CTL_STD_LAYOUT, .rw, []⟩, ⟨F.FRM_CTL_TAG_TX, .rw, []⟩, ⟨F.FRM_CTL_TAG_EXP, .rw, []⟩, ⟨F.FRM_CTL_TAG_CHK, .rw, []⟩, ⟨F.FRM_CTL_LANEID_CHK, .rw, []⟩, ⟨F.FRM_CTL_CAL_HALY, .rw, []⟩], 0xc00000001fe⟩,
  ⟨.CAL_STAT, 0x104008, [(0x10000, 16)], [⟨F.CAL_STAT_TX_SEQ, .ro, []⟩, ⟨F.CAL_STAT_TX_ANN, .ro, []⟩, ⟨F.CAL_STAT_TX_SWITCH_FC, .ro, []⟩, ⟨F.CAL_STAT_RX_SEQ, .ro, []⟩, ⟨F.CAL_STAT_RX_VALID, .ro, []⟩, ⟨F.CAL_STAT_RX_ANN, .ro, []⟩, ⟨F.CAL_STAT_RX_SWITCH_FC, .ro, []⟩, ⟨F.CAL_STAT_RX_HALY, .ro, []⟩], 0x0⟩,
  ⟨.CAL_CNT, 0x104010, [(0x10000, 16)], [⟨F.CAL_CNT_MISMATCH_CNT, .rc, []⟩, ⟨F.CAL_CNT_JC_LOST_CNT, .rc, []⟩, ⟨F.CAL_CNT_BUSY_CNT, .rc, []⟩], 0x0⟩,
  ⟨.FEC_CAP_CTL, 0x104020, [(0x10000, 16)], [⟨F.FEC_CAP_CTL_LANE, .rw, [(0, 8)]⟩, ⟨F.FEC_CAP_CTL_TRIG_LOAD, .rw, [(1, 41)]⟩, ⟨F.FEC_CAP_CTL_ARM, .w1s, []⟩, ⟨F.FEC_CAP_CTL_E_CNT, .ro, []⟩, ⟨F.FEC_CAP_CTL_F_CNT, .ro, []⟩, ⟨F.FEC_CAP_CTL_UNCORR, .ro, []⟩], 0x290⟩,
  ⟨.FEC_CAP_HDR, 0x104028, [(0x10000, 16)], [⟨F.FEC_CAP_HDR_FC, .ro, []⟩, ⟨F.FEC_CAP_HDR_CW, .ro, []⟩], 0x0⟩,
  ⟨.FEC_CAP_ERR, 0x104040, [(0x10000, 16), (0x8, 20)], [⟨F.FEC_CAP_ERR_POS0, .ro, []⟩, ⟨F.FEC_CAP_ERR_VALUE0, .ro, []⟩, ⟨F.FEC_CAP_ERR_ERASED0, .ro, []⟩, ⟨F.FEC_CAP_ERR_VALID0, .ro, []⟩, ⟨F.FEC_CAP_ERR_POS1, .ro, []⟩, ⟨F.FEC_CAP_ERR_VALUE1, .ro, []⟩, ⟨F.FEC_CAP_ERR_ERASED1, .ro, []⟩, ⟨F.FEC_CAP_ERR_VALID1, .ro, []⟩], 0x0⟩,
  ⟨.FRM_LANE_STAT, 0x104100, [(0x10000, 16), (0x80, 9)], [⟨F.FRM_LANE_STAT_RX_LANE_ID, .ro, []⟩, ⟨F.FRM_LANE_STAT_RX_BRIDGE, .ro, []⟩, ⟨F.FRM_LANE_STAT_RX_TAG, .ro, []⟩, ⟨F.FRM_LANE_STAT_TAG_MISMATCH, .ro, []⟩, ⟨F.FRM_LANE_STAT_LANEID_MISMATCH, .ro, []⟩], 0xf0⟩,
  ⟨.FRM_RX_FC, 0x104108, [(0x10000, 16), (0x80, 9)], [⟨F.FRM_RX_FC_FC, .ro, []⟩], 0x0⟩,
  ⟨.FRM_RX_FAR, 0x104110, [(0x10000, 16), (0x80, 9)], [⟨F.FRM_RX_FAR_TICK_STAMP, .ro, []⟩], 0x0⟩,
  ⟨.FRM_RX_ARR, 0x104118, [(0x10000, 16), (0x80, 9)], [⟨F.FRM_RX_ARR_TICK, .ro, []⟩, ⟨F.FRM_RX_ARR_POS, .ro, []⟩], 0x0⟩,
  ⟨.FEC_CW, 0x104120, [(0x10000, 16), (0x80, 9)], [⟨F.FEC_CW_CNT, .rc, []⟩], 0x0⟩,
  ⟨.FEC_CORR_CW, 0x104128, [(0x10000, 16), (0x80, 9)], [⟨F.FEC_CORR_CW_CNT, .rc, []⟩], 0x0⟩,
  ⟨.FEC_UNC_CW, 0x104130, [(0x10000, 16), (0x80, 9)], [⟨F.FEC_UNC_CW_CNT, .rc, []⟩], 0x0⟩,
  ⟨.FEC_CORR_SYM, 0x104138, [(0x10000, 16), (0x80, 9)], [⟨F.FEC_CORR_SYM_CNT, .rc, []⟩], 0x0⟩,
  ⟨.FEC_CORR_BIT, 0x104140, [(0x10000, 16), (0x80, 9)], [⟨F.FEC_CORR_BIT_CNT, .rc, []⟩], 0x0⟩,
  ⟨.FEC_ERASE_HIT, 0x104148, [(0x10000, 16), (0x80, 9)], [⟨F.FEC_ERASE_HIT_CNT, .rc, []⟩], 0x0⟩,
  ⟨.FRM_RX_OAM, 0x104150, [(0x10000, 16), (0x80, 9)], [⟨F.FRM_RX_OAM_BEI_SYM, .ro, []⟩, ⟨F.FRM_RX_OAM_FAR_SNR, .ro, []⟩, ⟨F.FRM_RX_OAM_BEI_UNC, .ro, []⟩, ⟨F.FRM_RX_OAM_BDI, .ro, []⟩, ⟨F.FRM_RX_OAM_LANE_STATE, .ro, []⟩], 0x0⟩,
  ⟨.FEC_HIST, 0x104600, [(0x10000, 16), (0x80, 9), (0x8, 16)], [⟨F.FEC_HIST_CNT, .rc, []⟩], 0x0⟩,
  ⟨.ACQ_CTL, 0x105000, [(0x10000, 16)], [⟨F.ACQ_CTL_OWNER, .rw, []⟩, ⟨F.ACQ_CTL_HIT_MIN, .rw, [(1, 5)]⟩, ⟨F.ACQ_CTL_LOCK_FRAMES, .rw, [(1, 3)]⟩, ⟨F.ACQ_CTL_EQ_TICKS, .rw, [(1, 127)]⟩, ⟨F.ACQ_CTL_CONV_EN, .rw, []⟩, ⟨F.ACQ_CTL_SIBLINGS, .rw, []⟩, ⟨F.ACQ_CTL_CONV_TIMEOUT, .rw, [(1, 65535)]⟩], 0x9c400002528⟩,
  ⟨.ACQ_STAT, 0x105008, [(0x10000, 16)], [⟨F.ACQ_STAT_TONE_LOCK, .ro, []⟩, ⟨F.ACQ_STAT_CLK_MODE, .ro, []⟩, ⟨F.ACQ_STAT_OCT_ALIGNED, .ro, []⟩, ⟨F.ACQ_STAT_DATA_LANES, .ro, []⟩, ⟨F.ACQ_STAT_READ_POS, .ro, []⟩], 0x0⟩,
  ⟨.CONV_STAT, 0x105010, [(0x10000, 16)], [⟨F.CONV_STAT_RX_STATE, .ro, []⟩, ⟨F.CONV_STAT_RX_LANE, .ro, []⟩, ⟨F.CONV_STAT_TX_STATE, .ro, []⟩, ⟨F.CONV_STAT_TX_LANE, .ro, []⟩, ⟨F.CONV_STAT_TX_B, .ro, []⟩], 0x0⟩,
  ⟨.RETIRE_STAT, 0x105018, [(0x10000, 16)], [⟨F.RETIRE_STAT_RX_RETIRED, .ro, []⟩, ⟨F.RETIRE_STAT_TX_RETIRED, .ro, []⟩], 0x0⟩,
  ⟨.ACQ_LANE_STAT, 0x105040, [(0x10000, 16), (0x20, 9)], [⟨F.ACQ_LANE_STAT_STATE, .ro, []⟩, ⟨F.ACQ_LANE_STAT_COARSE_HIT, .ro, []⟩, ⟨F.ACQ_LANE_STAT_EXACT, .ro, []⟩, ⟨F.ACQ_LANE_STAT_LOCK, .ro, []⟩, ⟨F.ACQ_LANE_STAT_HIT_CNT, .ro, []⟩, ⟨F.ACQ_LANE_STAT_WINDOW, .ro, []⟩, ⟨F.ACQ_LANE_STAT_FINE, .ro, []⟩, ⟨F.ACQ_LANE_STAT_SEARCH_TICKS, .ro, []⟩, ⟨F.ACQ_LANE_STAT_SKEW, .ro, []⟩, ⟨F.ACQ_LANE_STAT_LANE_STATE, .ro, []⟩], 0x0⟩,
  ⟨.RX_PI, 0x105048, [(0x10000, 16), (0x20, 9)], [⟨F.RX_PI_CODE, .ro, []⟩, ⟨F.RX_PI_TARGET, .rw, []⟩], 0x0⟩,
  ⟨.ACQ_CNT, 0x105050, [(0x10000, 16), (0x20, 9)], [⟨F.ACQ_CNT_LOCK_LOSS_CNT, .rc, []⟩, ⟨F.ACQ_CNT_ACQ_FAIL_CNT, .rc, []⟩, ⟨F.ACQ_CNT_SLIP_CNT, .rc, []⟩, ⟨F.ACQ_CNT_SKEW_CNT, .rc, []⟩], 0x0⟩]

/-- Rows of the register map, block OCT, part 1. -/
def regsOCT1 : List RegDef := [
  ⟨.TRIM_CTL, 0x106000, [(0x10000, 16)], [⟨F.TRIM_CTL_ITEMS, .rw, []⟩, ⟨F.TRIM_CTL_AUTO, .rw, []⟩, ⟨F.TRIM_CTL_TRIM_DT, .rw, [(5, 200)]⟩, ⟨F.TRIM_CTL_RETIRE_RUN, .rw, []⟩, ⟨F.TRIM_CTL_EYE_H_MIN, .rw, []⟩], 0x19229f⟩,
  ⟨.TRIM_STAT, 0x106008, [(0x10000, 16)], [⟨F.TRIM_STAT_STATE, .ro, []⟩, ⟨F.TRIM_STAT_CAPTURES, .ro, []⟩, ⟨F.TRIM_STAT_LAST_ABORT, .ro, []⟩, ⟨F.TRIM_STAT_CAUSE, .ro, []⟩], 0x0⟩,
  ⟨.PLAN_OCT_CTL, 0x106010, [(0x10000, 16)], [⟨F.PLAN_OCT_CTL_MAX_STEP, .rw, [(1, 15)]⟩, ⟨F.PLAN_OCT_CTL_LEN_EN, .rw, []⟩, ⟨F.PLAN_OCT_CTL_SHORTEN_EN, .rw, []⟩, ⟨F.PLAN_OCT_CTL_RETIRE_EN, .rw, []⟩], 0x5f⟩,
  ⟨.TRIM_LAST, 0x106018, [(0x10000, 16)], [⟨F.TRIM_LAST_TICK, .ro, []⟩, ⟨F.TRIM_LAST_TEMP, .ro, []⟩], 0x0⟩,
  ⟨.TRIM_Q, 0x106040, [(0x10000, 16), (0x20, 9)], [⟨F.TRIM_Q_EYE_W, .ro, []⟩, ⟨F.TRIM_Q_EYE_H, .ro, []⟩, ⟨F.TRIM_Q_MSE, .ro, []⟩, ⟨F.TRIM_Q_SNR, .ro, []⟩, ⟨F.TRIM_Q_VALID, .ro, []⟩, ⟨F.TRIM_Q_LOST, .ro, []⟩], 0x0⟩,
  ⟨.TRIM_TX, 0x106048, [(0x10000, 16), (0x20, 9)], [⟨F.TRIM_TX_INL, .ro, []⟩, ⟨F.TRIM_TX_VALID, .ro, []⟩, ⟨F.TRIM_TX_SOURCE, .ro, []⟩, ⟨F.TRIM_TX_SEED_MEAN, .ro, []⟩], 0x0⟩,
  ⟨.PLAN_LANE, 0x106050, [(0x10000, 16), (0x20, 9)], [⟨F.PLAN_LANE_MARGIN, .ro, []⟩, ⟨F.PLAN_LANE_SLOPE, .ro, []⟩, ⟨F.PLAN_LANE_T_EX, .ro, []⟩, ⟨F.PLAN_LANE_SLOPE_VALID, .ro, []⟩, ⟨F.PLAN_LANE_TX_EXHAUSTED, .ro, []⟩, ⟨F.PLAN_LANE_FAR_EXHAUSTED, .ro, []⟩, ⟨F.PLAN_LANE_LASER_AGED, .ro, []⟩, ⟨F.PLAN_LANE_DRIFT, .ro, []⟩], 0xfffff00000000⟩,
  ⟨.PLAN_LANE2, 0x106058, [(0x10000, 16), (0x20, 9)], [⟨F.PLAN_LANE2_LAST_ACTION, .ro, []⟩, ⟨F.PLAN_LANE2_SLOPE_RATIO, .ro, []⟩, ⟨F.PLAN_LANE2_ACTION_TICK, .ro, []⟩], 0x0⟩,
  ⟨.FLT_CTL_O, 0x107000, [(0x10000, 16)], [⟨F.FLT_CTL_O_EN, .rw, []⟩, ⟨F.FLT_CTL_O_LOS_MAX, .rw, [(1, 1000)]⟩, ⟨F.FLT_CTL_O_RATE_MAX, .rw, [(1, 255)]⟩, ⟨F.FLT_CTL_O_UNC_BURST, .rw, [(1, 808)]⟩], 0x803065⟩,
  ⟨.FLT_OCT_STAT, 0x107008, [(0x10000, 16)], [⟨F.FLT_LANE_STATE, .ro, []⟩, ⟨F.FLT_LANE_RETRIES, .ro, []⟩, ⟨F.FLT_LANE_HOUR_CNT, .ro, []⟩, ⟨F.FLT_LANE_KIND, .ro, []⟩, ⟨F.FLT_LANE_TICK, .ro, []⟩], 0x0⟩,
  ⟨.FLT_LANE, 0x107040, [(0x10000, 16), (0x8, 9)], [⟨F.FLT_LANE_STATE, .ro, []⟩, ⟨F.FLT_LANE_RETRIES, .ro, []⟩, ⟨F.FLT_LANE_HOUR_CNT, .ro, []⟩, ⟨F.FLT_LANE_KIND, .ro, []⟩, ⟨F.FLT_LANE_TICK, .ro, []⟩], 0x0⟩,
  ⟨.PAT_CTL_O, 0x108000, [(0x10000, 16), (0x40, 9)], [⟨F.PAT_CTL_GEN, .ro, []⟩, ⟨F.PAT_CTL_CHK, .ro, []⟩, ⟨F.PAT_CTL_SQ_HALF, .ro, []⟩, ⟨F.PAT_CTL_LOOP, .ro, []⟩, ⟨F.PAT_CTL_FORCED, .ro, []⟩], 0x100⟩,
  ⟨.PAT_STAT_O, 0x108008, [(0x10000, 16), (0x40, 9)], [⟨F.PAT_STAT_LOCK, .ro, []⟩, ⟨F.PAT_STAT_GEN_ACTIVE, .ro, []⟩, ⟨F.PAT_STAT_LOCK_LOSS, .rc, []⟩, ⟨F.PAT_STAT_SLIP_CNT, .rc, []⟩], 0x0⟩,
  ⟨.PAT_ERR_O, 0x108010, [(0x10000, 16), (0x40, 9)], [⟨F.PAT_ERR_CNT, .rc, []⟩], 0x0⟩,
  ⟨.PAT_BITS_O, 0x108018, [(0x10000, 16), (0x40, 9)], [⟨F.PAT_BITS_CNT, .rc, []⟩], 0x0⟩,
  ⟨.PAT_USER_O, 0x108020, [(0x10000, 16), (0x40, 9), (0x8, 2)], [⟨F.PAT_USER_BITS, .rw, []⟩], 0x0⟩,
  ⟨.PAT_USER2_O, 0x108030, [(0x10000, 16), (0x40, 9)], [⟨F.PAT_USER2_BITS, .rw, []⟩], 0x0⟩]

/-- Rows of the register map, block OCT. -/
def regsOCT : List RegDef := regsOCT0 ++ regsOCT1

/-- Rows of the register map, block SG. -/
def regsSG : List RegDef := [
  ⟨.SG_LAYOUT, 0x200000, [(0x10000, 16)], [⟨F.SG_LAYOUT_START, .rw, []⟩], 0xffff⟩,
  ⟨.SL_CTL, 0x200100, [(0x10000, 16), (0x80, 16)], [⟨F.SL_CTL_RATE, .rw, [(0, 4)]⟩, ⟨F.SL_CTL_EN, .rw, []⟩, ⟨F.SL_CTL_AN_EN, .rw, []⟩, ⟨F.SL_CTL_LT_EN, .rw, []⟩, ⟨F.SL_CTL_FEC, .rw, []⟩, ⟨F.SL_CTL_CBR, .rw, []⟩, ⟨F.SL_CTL_RX_INV, .rw, []⟩, ⟨F.SL_CTL_TX_INV, .rw, []⟩], 0x30⟩,
  ⟨.SL_STAT, 0x200108, [(0x10000, 16), (0x80, 16)], [⟨F.SL_STAT_STATE, .ro, []⟩, ⟨F.SL_STAT_RAW_LOS, .ro, []⟩, ⟨F.SL_STAT_LOCK, .ro, []⟩, ⟨F.SL_STAT_RX_CLIENT, .ro, []⟩, ⟨F.SL_STAT_RX_BOUND, .ro, []⟩, ⟨F.SL_STAT_TX_CLIENT, .ro, []⟩, ⟨F.SL_STAT_TX_BOUND, .ro, []⟩], 0x8⟩,
  ⟨.SL_TXEQ, 0x200110, [(0x10000, 16), (0x80, 16)], [⟨F.SL_TXEQ_CM3_TGT, .rw, []⟩, ⟨F.SL_TXEQ_CM2_TGT, .rw, []⟩, ⟨F.SL_TXEQ_CM1_TGT, .rw, []⟩, ⟨F.SL_TXEQ_CP1_TGT, .rw, []⟩, ⟨F.SL_TXEQ_CUR, .ro, []⟩, ⟨F.SL_TXEQ_TRAINED, .ro, []⟩], 0x0⟩,
  ⟨.SL_CNT, 0x200118, [(0x10000, 16), (0x80, 16)], [⟨F.SL_CNT_DOWN_CNT, .rc, []⟩, ⟨F.SL_CNT_AN_FAIL_CNT, .rc, []⟩, ⟨F.SL_CNT_LT_FAIL_CNT, .rc, []⟩], 0x0⟩,
  ⟨.SL_FEC_CW, 0x200120, [(0x10000, 16), (0x80, 16)], [⟨F.SL_FEC_CW_CNT, .rc, []⟩], 0x0⟩,
  ⟨.SL_FEC_CORR, 0x200128, [(0x10000, 16), (0x80, 16)], [⟨F.SL_FEC_CORR_CNT, .rc, []⟩], 0x0⟩,
  ⟨.SL_FEC_UNC, 0x200130, [(0x10000, 16), (0x80, 16)], [⟨F.SL_FEC_UNC_CNT, .rc, []⟩], 0x0⟩,
  ⟨.SL_RXTAP, 0x200140, [(0x10000, 16), (0x80, 16), (0x8, 4)], [⟨F.SL_RXTAP_TAPS, .ro, []⟩], 0x0⟩,
  ⟨.SG_TRIM_CTL, 0x201000, [(0x10000, 16)], [⟨F.SG_TRIM_CTL_AUTO, .rw, []⟩, ⟨F.SG_TRIM_CTL_TRIM_DT, .rw, [(5, 200)]⟩, ⟨F.SG_TRIM_CTL_APPLY, .rw, []⟩], 0x229⟩,
  ⟨.SG_TRIM_STAT, 0x201008, [(0x10000, 16)], [⟨F.SG_TRIM_STAT_STATE, .ro, []⟩, ⟨F.SG_TRIM_STAT_REF_VALID, .ro, []⟩, ⟨F.SG_TRIM_STAT_LAST_TICK, .ro, []⟩], 0x0⟩,
  ⟨.FLT_CTL_G, 0x202000, [(0x10000, 16)], [⟨F.FLT_CTL_G_EN, .rw, []⟩, ⟨F.FLT_CTL_G_LOS_MAX, .rw, [(1, 1000)]⟩, ⟨F.FLT_CTL_G_RATE_MAX, .rw, [(1, 255)]⟩, ⟨F.FLT_CTL_G_LT_RETRY_TICKS, .rw, [(1, 65535)]⟩], 0x1d4c00003065⟩,
  ⟨.FLT_SL, 0x202040, [(0x10000, 16), (0x8, 16)], [⟨F.FLT_LANE_STATE, .ro, []⟩, ⟨F.FLT_LANE_RETRIES, .ro, []⟩, ⟨F.FLT_LANE_HOUR_CNT, .ro, []⟩, ⟨F.FLT_LANE_KIND, .ro, []⟩, ⟨F.FLT_LANE_TICK, .ro, []⟩], 0x0⟩,
  ⟨.PAT_CTL_G, 0x203000, [(0x10000, 16), (0x40, 16)], [⟨F.PAT_CTL_GEN, .ro, []⟩, ⟨F.PAT_CTL_CHK, .ro, []⟩, ⟨F.PAT_CTL_SQ_HALF, .ro, []⟩, ⟨F.PAT_CTL_LOOP, .ro, []⟩, ⟨F.PAT_CTL_FORCED, .ro, []⟩], 0x100⟩,
  ⟨.PAT_STAT_G, 0x203008, [(0x10000, 16), (0x40, 16)], [⟨F.PAT_STAT_LOCK, .ro, []⟩, ⟨F.PAT_STAT_GEN_ACTIVE, .ro, []⟩, ⟨F.PAT_STAT_LOCK_LOSS, .rc, []⟩, ⟨F.PAT_STAT_SLIP_CNT, .rc, []⟩], 0x0⟩,
  ⟨.PAT_ERR_G, 0x203010, [(0x10000, 16), (0x40, 16)], [⟨F.PAT_ERR_CNT, .rc, []⟩], 0x0⟩,
  ⟨.PAT_BITS_G, 0x203018, [(0x10000, 16), (0x40, 16)], [⟨F.PAT_BITS_CNT, .rc, []⟩], 0x0⟩,
  ⟨.PAT_USER_G, 0x203020, [(0x10000, 16), (0x40, 16), (0x8, 2)], [⟨F.PAT_USER_BITS, .rw, []⟩], 0x0⟩,
  ⟨.PAT_USER2_G, 0x203030, [(0x10000, 16), (0x40, 16)], [⟨F.PAT_USER2_BITS, .rw, []⟩], 0x0⟩]

/-- Rows of the register map, block MAP. -/
def regsMAP : List RegDef := [
  ⟨.MAP_CLI_DEF, 0x300000, [(0x20, 512)], [⟨F.MAP_CLI_DEF_DEFINED, .ro, []⟩, ⟨F.MAP_CLI_DEF_KIND, .ro, []⟩, ⟨F.MAP_CLI_DEF_ETH_RATE, .ro, []⟩, ⟨F.MAP_CLI_DEF_CBR_RATE, .ro, []⟩, ⟨F.MAP_CLI_DEF_CLASS, .ro, []⟩, ⟨F.MAP_CLI_DEF_ENDS, .ro, []⟩, ⟨F.MAP_CLI_DEF_SLOTS, .ro, []⟩], 0x0⟩,
  ⟨.MAP_CLI_END, 0x300008, [(0x20, 512)], [⟨F.MAP_CLI_END_SRC, .ro, []⟩, ⟨F.MAP_CLI_END_SRC_LANE, .ro, []⟩, ⟨F.MAP_CLI_END_SNK, .ro, []⟩, ⟨F.MAP_CLI_END_SNK_LANE, .ro, []⟩, ⟨F.MAP_CLI_END_LANES, .ro, []⟩, ⟨F.MAP_CLI_END_FAR_TAG, .ro, []⟩, ⟨F.MAP_CLI_END_SIB_MASK, .ro, []⟩, ⟨F.MAP_CLI_END_HEAD_SLOT, .ro, []⟩], 0x0⟩,
  ⟨.MAP_CLI_STAT, 0x300010, [(0x20, 512)], [⟨F.MAP_CLI_STAT_CARRYING, .ro, []⟩, ⟨F.MAP_CLI_STAT_SRC_OK, .ro, []⟩, ⟨F.MAP_CLI_STAT_NO_TAG, .ro, []⟩, ⟨F.MAP_CLI_STAT_DROPPED, .ro, []⟩, ⟨F.MAP_CLI_STAT_SHED, .ro, []⟩, ⟨F.MAP_CLI_STAT_C_TX, .ro, []⟩, ⟨F.MAP_CLI_STAT_C_RX, .ro, []⟩, ⟨F.MAP_CLI_STAT_RECENTRE_CNT, .rc, []⟩], 0x0⟩,
  ⟨.MAP_CLI_CNT, 0x300018, [(0x20, 512)], [⟨F.MAP_CLI_CNT_ERR_CNT, .rc, []⟩, ⟨F.MAP_CLI_CNT_REPL_TICKS, .rc, []⟩], 0x0⟩,
  ⟨.MAP_CTL, 0x310000, [], [⟨F.MAP_CTL_CBR_FILL, .rw, []⟩, ⟨F.MAP_CTL_SINK_BW, .rw, [(0, 2)]⟩], 0x555⟩,
  ⟨.MAP_STAT, 0x310008, [], [⟨F.MAP_STAT_CLIENTS, .ro, []⟩], 0x0⟩,
  ⟨.DSK_STAT, 0x310010, [], [⟨F.DSK_STAT_RATE_USED, .ro, []⟩, ⟨F.DSK_STAT_UNITS_USED, .ro, []⟩, ⟨F.DSK_STAT_CLIENTS, .ro, []⟩, ⟨F.DSK_STAT_READY, .ro, []⟩], 0x0⟩,
  ⟨.PROT_END, 0x320000, [(0x40, 512)], [⟨F.PROT_END_ROUTE1_OCT, .ro, []⟩, ⟨F.PROT_END_ROUTE1_SIB, .ro, []⟩, ⟨F.PROT_END_DUAL_SINK, .ro, []⟩, ⟨F.PROT_END_SNK1_OCT, .ro, []⟩, ⟨F.PROT_END_SNK1_HEAD, .ro, []⟩], 0x0⟩,
  ⟨.PROT_CFG, 0x320008, [(0x40, 512)], [⟨F.PROT_CFG_PREF, .ro, []⟩, ⟨F.PROT_CFG_REVERTIVE, .ro, []⟩, ⟨F.PROT_CFG_HOLD_OFF, .ro, []⟩, ⟨F.PROT_CFG_WTR, .ro, []⟩, ⟨F.PROT_CFG_UNC_THR, .ro, []⟩, ⟨F.PROT_CFG_REPAIR, .ro, []⟩], 0x10801c9c380002⟩,
  ⟨.PROT_STAT, 0x320010, [(0x40, 512)], [⟨F.PROT_STAT_STATE, .ro, []⟩, ⟨F.PROT_STAT_ACTIVE, .ro, []⟩, ⟨F.PROT_STAT_REQ, .ro, []⟩, ⟨F.PROT_STAT_REQ_ROUTE, .ro, []⟩, ⟨F.PROT_STAT_SF0, .ro, []⟩, ⟨F.PROT_STAT_SF1, .ro, []⟩, ⟨F.PROT_STAT_SD0, .ro, []⟩, ⟨F.PROT_STAT_SD1, .ro, []⟩, ⟨F.PROT_STAT_EARLY, .ro, []⟩, ⟨F.PROT_STAT_HOLD_LEFT, .ro, []⟩, ⟨F.PROT_STAT_WTR_LEFT, .ro, []⟩], 0x0⟩,
  ⟨.PROT_DELAY, 0x320018, [(0x40, 512)], [⟨F.PROT_DELAY_DIFF, .ro, []⟩, ⟨F.PROT_DELAY_PEAK, .rc, []⟩], 0x0⟩,
  ⟨.PROT_CNT, 0x320020, [(0x40, 512)], [⟨F.PROT_CNT_REPAIR_CNT, .rc, []⟩, ⟨F.PROT_CNT_SWITCH_CNT, .rc, []⟩, ⟨F.PROT_CNT_CMIS_CNT, .rc, []⟩], 0x0⟩,
  ⟨.PROT_CNT2, 0x320028, [(0x40, 512)], [⟨F.PROT_CNT2_BOTH_BAD, .rc, []⟩, ⟨F.PROT_CNT2_EXCESS_TICKS, .rc, []⟩], 0x0⟩]

/-- Rows of the register map, block HALY. -/
def regsHALY : List RegDef := [
  ⟨.HALY_CTL, 0x380000, [(0x800, 16)], [⟨F.HALY_CTL_EN, .rw, []⟩, ⟨F.HALY_CTL_TX_PATH, .rw, []⟩, ⟨F.HALY_CTL_AMP, .rw, [(1, 64)]⟩, ⟨F.HALY_CTL_BEACON, .rw, [(0, 0), (10, 1000)]⟩, ⟨F.HALY_CTL_LOSS_TICKS, .rw, [(1, 4095)]⟩, ⟨F.HALY_CTL_REPEAT, .rw, []⟩, ⟨F.HALY_CTL_MQ_RING, .rw, []⟩, ⟨F.HALY_CTL_FW_COPY, .rw, []⟩, ⟨F.HALY_CTL_TTL, .rw, [(1, 4095)]⟩, ⟨F.HALY_CTL_TT_DOM, .rw, []⟩], 0x1f40000112c19081⟩,
  ⟨.HALY_DET, 0x380008, [(0x800, 16)], [⟨F.HALY_DET_DET_THR, .rw, []⟩, ⟨F.HALY_DET_CAPTURE_DB, .rw, [(10, 200)]⟩, ⟨F.HALY_DET_SYNC_ERR, .rw, [(0, 8)]⟩], 0x33cf060⟩,
  ⟨.HALY_SHARE, 0x380010, [(0x800, 16)], [⟨F.HALY_SHARE_SHARED, .rw, []⟩, ⟨F.HALY_SHARE_STATION, .rw, []⟩, ⟨F.HALY_SHARE_STATIONS, .rw, []⟩, ⟨F.HALY_SHARE_SLOT_TICKS, .rw, [(1, 63)]⟩, ⟨F.HALY_SHARE_PARTNER, .rw, []⟩], 0xa00⟩,
  ⟨.HALY_STAT, 0x380018, [(0x800, 16)], [⟨F.HALY_STAT_SUB_UP, .ro, []⟩, ⟨F.HALY_STAT_REL_UP, .ro, []⟩, ⟨F.HALY_STAT_SUB_HEARD, .ro, []⟩, ⟨F.HALY_STAT_REL_HEARD, .ro, []⟩, ⟨F.HALY_STAT_FAR_SUB_HEARD, .ro, []⟩, ⟨F.HALY_STAT_FAR_REL_HEARD, .ro, []⟩, ⟨F.HALY_STAT_RX_STATE, .ro, []⟩, ⟨F.HALY_STAT_TX_STATE, .ro, []⟩, ⟨F.HALY_STAT_TXQ_DEPTH, .ro, []⟩], 0x0⟩,
  ⟨.HALY_RX_LVL, 0x380020, [(0x800, 16)], [⟨F.HALY_RX_LVL_NF, .ro, []⟩, ⟨F.HALY_RX_LVL_LEVEL, .ro, []⟩, ⟨F.HALY_RX_LVL_FOFS, .ro, []⟩], 0x0⟩,
  ⟨.HALY_CNT, 0x380028, [(0x800, 16)], [⟨F.HALY_CNT_RX_OK, .rc, []⟩, ⟨F.HALY_CNT_FALSE_CNT, .rc, []⟩, ⟨F.HALY_CNT_CRC_FAIL, .rc, []⟩, ⟨F.HALY_CNT_PREEMPT_CNT, .rc, []⟩], 0x0⟩,
  ⟨.HALY_CNT2, 0x380030, [(0x800, 16)], [⟨F.HALY_CNT2_TRUNC_CNT, .rc, []⟩, ⟨F.HALY_CNT2_REPEAT_CNT, .rc, []⟩, ⟨F.HALY_CNT2_JUMP_CNT, .rc, []⟩, ⟨F.HALY_CNT2_DISCARD_CNT, .rc, []⟩], 0x0⟩,
  ⟨.HALY_TX_CNT, 0x380038, [(0x800, 16)], [⟨F.HALY_TX_CNT_TX_OK, .rc, []⟩, ⟨F.HALY_TX_CNT_TX_CUT, .rc, []⟩, ⟨F.HALY_TX_CNT_NO_PATH_CNT, .rc, []⟩, ⟨F.HALY_TX_CNT_FW_DROP_CNT, .rc, []⟩], 0x0⟩,
  ⟨.HALY_TT_OFFSET, 0x380040, [(0x800, 16)], [⟨F.HALY_TT_OFFSET_OFFSET, .ro, []⟩], 0x0⟩,
  ⟨.HALY_TT_DELAY, 0x380048, [(0x800, 16)], [⟨F.HALY_TT_DELAY_DELAY, .ro, []⟩], 0x0⟩,
  ⟨.HALY_TT_STAT, 0x380050, [(0x800, 16)], [⟨F.HALY_TT_STAT_TICK, .ro, []⟩, ⟨F.HALY_TT_STAT_DOM, .ro, []⟩, ⟨F.HALY_TT_STAT_VALID, .ro, []⟩, ⟨F.HALY_TT_STAT_PATH, .ro, []⟩], 0x0⟩,
  ⟨.HALY_ALIVE, 0x380080, [(0x800, 16), (0x8, 8)], [⟨F.HALY_ALIVE_LAST, .ro, []⟩, ⟨F.HALY_ALIVE_VALID, .ro, []⟩], 0x0⟩]

/-- The indices of the instance of `dims` that lies `off` bytes above the base, largest stride first. -/
def dimsAt : List (Nat × Nat) → Nat → Option (List Nat)
  | [], off => if off = 0 then some [] else none
  | (st, n) :: ds, off => if off / st < n then (dimsAt ds (off % st)).map (off / st :: ·) else none

/-- The instance of a row that occupies the 8-byte word at offset `a`. -/
def RegDef.at? (r : RegDef) (a : Nat) : Option (RegDef × List Nat) :=
  if a < r.base then none else (dimsAt r.dims (a - r.base)).map fun is => (r, is)

/-- First row of a list that has an instance at `a`. -/
def findReg (a : Nat) : List RegDef → Option (RegDef × List Nat)
  | [] => none
  | r :: rs => match r.at? a with
    | some x => some x
    | none => findReg a rs

/-- The rows of the block that holds offset `a` (R604). -/
def blockRegs (a : Nat) : List RegDef :=
  let b := a / 0x10000
  if b = 0 then regsGLB else if b = 1 then regsTIME else if b = 2 then regsRING else if b = 4 then regsPWR
  else if b = 5 then regsHK else if b = 6 then regsEDAC else if b = 8 then regsPAIR else if b = 9 then regsCHK
  else if b = 10 then regsMEM else if b = 11 then regsPERF else if b = 12 then regsSEC
  else if b < 16 then [] else if b < 32 then (if a % 0x10000 < 0x4000 then regsOCTL else regsOCT)
  else if b < 48 then regsSG else if b < 0x38 then regsMAP
  else if a < 0x388000 then regsHALY else []

/-- The register at the 8-byte word `a` of BAR0 with its indices, largest stride first; none where no register lies
(R605). -/
def regAt (a : Nat) : Option (RegDef × List Nat) := findReg a (blockRegs a)

/-- Reset words that differ between the instances of one register: MON_CTL.SRC resets to the lane (R154), coefficient
3 of bank 0 to 0x400 (R152), IN_CTL by input (R467), PWR_DOM_STAT.STATE to Off except AON, CTRL and PCIE (R548). -/
def resetAdjust (id : RegId) (is : List Nat) (w : Nat) : Nat :=
  match id, is with
  | .MON_CTL, [_, l] => w + l
  | .FFE_COEF, [_, _, b, j] => if b = 0 ∧ j = 0 then w + 0x0400_0000_0000_0000 else w
  | .IN_CTL, [x] =>
    w + (if x < 16 then 100 + 2 ^ 18 else if x < 18 then 10 else if x = 18 then 100 + 2 ^ 18 else 1000 + 2 ^ 18)
  | .PWR_DOM_STAT, [d] => if d < 3 then w else w + 2
  | .SEC_DIE_POS, _ => w + 1
  | .CHK_CTL, [c] => if c < 4 ∨ c = 7 then w + 33 else if c < 6 then w + 39 else if c = 6 then w + 43 else w
  | _, _ => w

/-- The value a register word holds at a device reset (R18 and the Reset columns of the register tables).
DESIGN CHOICE for fused, fixed and factory values: zero (wafer number 1), log entry 3. -/
def resetWord (a : Nat) : Word :=
  match regAt a with
  | some (r, is) => BitVec.ofNat 64 (resetAdjust r.id is r.reset)
  | none => 0

end Sys2Proof.Machine
end

