-- ==== Sys2Proof/Machine/Types.lean ====
section
/-!
DEFINITION. The plain data that commands and the state share: where a command came from, the device's records, staged
register writes, the global error log, the rings and the time base.
-/

namespace Sys2Proof.Machine

/-- Where a host command came from: its submission ring, its host sequence number, its EFFECTIVE_TICK as given (R381),
and the number of Function Level Resets before its acceptance, by which a completion finds that its ring is gone (R371). -/
structure Cmd where
  ring : Nat
  hseq : Nat
  eff : Nat
  epoch : Nat
  deriving DecidableEq, Repr

/-- The argument bytes of CLIENT_ADD (R401). -/
structure ClientAddArgs where
  client : BitVec 16
  kind : BitVec 8
  ethRate : BitVec 8
  cbrRate : BitVec 32
  cls : BitVec 8
  ends : BitVec 8
  src : BitVec 8
  srcLane : BitVec 8
  snk : BitVec 8
  snkLane : BitVec 8
  farTag : BitVec 16
  sib : BitVec 16
  sinkFlags : BitVec 8
  snk1Oct : BitVec 8
  mask0 : BitVec 128
  mask1 : BitVec 128
  route1Oct : BitVec 8
  route1Sib : BitVec 16
  protFlags : BitVec 8
  uncThr : BitVec 8
  holdOff : BitVec 16
  wtr : BitVec 32
  deriving DecidableEq, Repr

/-- A PTP message that a timing port is given to send (R65, R66): the port, whether the host sends it, the cycle of the tick at which its
timestamp point passes, and its bytes. -/
structure TpSend where
  port : Nat
  host : Bool
  cyc : Nat
  bytes : List Byte
  deriving DecidableEq, Repr

/-- What the world hands over with a tick edge: the runs of the customer tasks (task, run time in ns, fault cause, program counter), what
came in on the lanes and the messages sent on the timing ports in the tick that ends. -/
structure TickIn where
  tasks : List (Nat × Nat × Nat × Nat) := []
  /-- Samples at the lands of line lanes (9 × octet + lane) that came in the tick outside decoded codewords (R119 to R123). -/
  line : List (Nat × List Int) := []
  tp : List TpSend := []
  /-- Symbols that lanes of standard-mode octets (9 × octet + lane) sent in the tick, before the precoder: their clients' own (R87, R191). -/
  send : List (Nat × List Nat) := []
  /-- What came in at slot PHYs (16 × group + start lane): for each of the eight intervals between justification decisions, items in stream
  order after slot-side FEC and PCS lane deskew, as (kind, value).  Kind 0 is a 66-bit block, or a 10-bit word of a constant bit rate;
  1 is an alignment marker; 2 is a block that an uncorrectable codeword touches (R247, R248). -/
  slot : List (Nat × List (List (Nat × Nat))) := []
  /-- Slot-side codewords of lanes (16 × group + lane): received, corrected, uncorrectable (R247). -/
  slotFec : List (Nat × Nat × Nat × Nat) := []
  /-- Bits that pattern checkers received in the tick, oldest first, demapped under R163 on PAM4 lanes; by lane, 256 × type + 16 × index + lane
  (R581). -/
  chk : List (Nat × List Bool) := []
  /-- Slot lanes (16 × group + lane) of PHYs in ACQ that have lock while another lane of their PHY still lacks it (R245). -/
  slotLock : List Nat := []
  /-- GDDR6 accesses whose EDC failed: channel, failures in a row, client and word of its region (R293). -/
  edc : List (Nat × Nat × Nat × Nat) := []
  /-- Octets in whose tick no received trim window, or no alignment-marker period, began (R345). -/
  noWindow : List Nat := []
  /-- Fill of clients' smoothing and regeneration buffers above the target, in words (R259). -/
  fill : List (Nat × Int) := []
  deriving DecidableEq, Repr

/-- What completes an auto-negotiation on a PHY's start lane (R244): the technologies that the partner advertises, as (RATE, width), and its FEC
abilities, as SL_CTL.FEC codes them. -/
structure AnIn where
  lane : Fin 16
  techs : List (Nat × Nat) := []
  fecs : List Nat := []
  deriving DecidableEq, Repr

/-- What reaches a lane's decoders with a codeword: the samples at the land that no command has given before, up to the one that completes
the codeword's traceback; and, where the samples are not given, the reliabilities of its symbols as (position, value). -/
structure CwIn where
  rx : List Int := []
  rel : List (Nat × Nat) := []
  deriving DecidableEq, Repr

/-- One event record before it is written (R390): code, object, lane, CLEAR flag, tick of the cause, arguments, and the
tick in which the record was produced. -/
structure EvRec where
  code : Nat
  obj : Nat
  lane : Nat
  clear : Bool
  cause : Nat
  args : List Nat
  tick : Nat
  deriving DecidableEq, Repr

/-- One completion before it is written (R388).  `res` lists result fields as (byte offset, length, value). -/
structure CompRec where
  ring : Nat
  opcode : Nat
  status : Nat
  hseq : Nat
  eff : Nat
  res : List (Nat × Nat × Nat)
  epoch : Nat
  tick : Nat
  deriving DecidableEq, Repr

/-- A record for a telemetry or message ring before it is written (R387, R404): the ring, the kind, the tick and the
entries after the header fields, each 64 bytes; the first entry's bytes 0 to 15 are replaced by the header. -/
structure RingRec where
  ring : Nat
  kind : Nat
  tick : Nat
  entries : List (List Byte)
  deriving DecidableEq, Repr

/-- One posted write to host memory (R370) or to the address space of the MSI-X messages. -/
structure DmaWrite where
  addr : Nat
  data : List Byte
  deriving DecidableEq, Repr

/-- A BAR0 write that waits for its tick edge (R47): the 8-byte word, the byte offset of the access, the bits it writes, their
values, whether firmware made it, and its size code for the log. -/
structure StagedWrite where
  addr : Nat
  off : Nat
  mask : Word
  val : Word
  fw : Bool
  size : Nat
  deriving DecidableEq, Repr

/-- One entry of the global error log (R612, R613). -/
structure LogEntry where
  off : Nat
  cause : Nat
  write : Bool
  fw : Bool
  size : Nat
  dom : Nat
  bar : Nat
  tick : Nat
  data : Word
  deriving DecidableEq, Repr

/-- The context and the state of one ring (R373, R376, R378, R399, R408). -/
structure Ring where
  typ : Nat := 0
  base : Nat := 0
  log2 : Nat := 0
  vector : Nat := 0
  intEn : Bool := false
  modCount : Nat := 1
  modTicks : Nat := 0
  cq : Nat := 0
  ctxC : Word := 0
  head : Nat := 0
  tail : Nat := 0
  expHseq : Nat := 0
  state : Nat := 0
  cause : Nat := 0
  lastDseq : Nat := 0
  outst : Nat := 0
  dbHseq : Nat := 0
  resv : Nat := 0
  unread : List (Nat × Nat) := []
  signalled : Bool := false
  lost : Option (Nat × Nat × Nat) := none
  tqFrom : Nat := 0
  tqLast : List (Nat × Nat) := []
  /-- The descriptor at HEAD has FENCE set and waits for the commands before it (R385). -/
  fence : Bool := false
  deriving DecidableEq, Repr

/-- The latest data returned on a BAR0 or BAR2 read: the value, or Unsupported Request (R606). -/
inductive ReadResult where
  | none
  | data (v : Word) (bytes : Nat)
  | unsupported
  deriving DecidableEq, Repr

/-- The half-read shadow of R11: the word of the low-half read just made and the high half it latched. -/
structure Shadow where
  addr : Nat
  high : Nat
  deriving DecidableEq, Repr

/-- The time base (R43 to R75).  Counters are in units of 2^-40 ns, the output offset in units of 2^-40 / 3125 ns, so
that one tick at one ppb of slew is a whole number of units (R69). -/
structure TimeSt where
  /-- TICK_COUNT. -/
  tick : Nat := 0
  /-- The number that the next edge carries (R70). -/
  next : Nat := 1
  cntA : Nat := 0
  cntB : Nat := 0
  off : Int := 0
  /-- Active domain: 0 = A, 1 = B. -/
  active : Nat := 0
  refA : Bool := true
  refB : Bool := true
  refUse : Nat := 0
  /-- The tick is stopped (R60, R62). -/
  holdover : Bool := false
  /-- The staging deadline of this tick has passed (R49). -/
  deadline : Bool := false
  /-- This tick's set was not closed at the deadline, and the ticks in a row for which that held (R57). -/
  overStreak : Nat := 0
  stormPosted : Bool := false
  /-- Pending TRIG_TIME_NS writes by unit (R77). -/
  trigNs : Tab Nat := []
  /-- One-shot units that have fired since they were armed (R73). -/
  trigFired : Tab Bool := []
  /-- Tick-bound actions of firings that have not started: unit, action, argument (R74, R75). -/
  trigWait : List (Nat × Nat × Nat) := []
  /-- Ticks for which TRIG_OUT[m] stays high (R75). -/
  trigPin : Tab Nat := []
  /-- OUT_OFFSET has reached zero by the slew and SLEW_DONE is owed (R69). -/
  slewDone : Bool := false
  /-- Customer tasks whose run of the next tick is skipped, and trim runs whose slice is deferred (R55). -/
  skipTask : List Nat := []
  skipSlice : List Nat := []
  /-- PPS_OUT: ticks for which the pin stays high; the fields in force (R71). -/
  ppsHigh : Nat := 0
  ppsEn : Bool := false
  ppsWidth : Nat := 10
  ppsOfs : Nat := 0
  /-- The latest edge of PPS input x in each domain, the reference of the period check (R72). -/
  ppsRef : Tab (Option (Nat × Nat)) := []
  /-- PTP messages handed to the servo: port, timestamp in A, timestamp in B, bytes (R67). -/
  servoQ : List (Nat × Nat × Nat × List Byte) := []
  /-- Transmit timestamps returned to the sender of an event message (R67): port, whether the host sent it, timestamps in A and in B,
  bytes. -/
  txStamps : List (Nat × Bool × Nat × Nat × List Byte) := []
  /-- Messages that a timing port has sent: port and bytes (R65). -/
  tpOut : List (Nat × List Byte) := []
  /-- The number that the latest edge carried (R70: it keeps it when TICK_COUNT jumps). -/
  edge : Nat := 0
  /-- Planner and journal work of the next tick, and of this one, is deferred by a tick (R55). -/
  skipPlan : Bool := false
  planHeld : Bool := false
  /-- Customer tasks that reached their limit in this tick, TASK_OVERRUN being owed (R58). -/
  atLimit : List Nat := []
  deriving DecidableEq, Repr

/-- The host interface (R369 to R409). -/
structure HostSt where
  rings : Tab Ring := []
  /-- Commands outstanding in the device (R383). -/
  outstanding : Nat := 0
  /-- The tick at which each outstanding command was accepted, keyed by 65,536 × ring + HSEQ (R589). -/
  accAt : Tab Nat := []
  /-- The status of the latest completion produced. -/
  lastStatus : Nat := 0
  /-- Function Level Resets so far: completions of commands accepted before the latest are discarded. -/
  epoch : Nat := 0
  evQ : List EvRec := []
  compQ : List CompRec := []
  recQ : List RingRec := []
  dmaOut : List DmaWrite := []
  /-- Read data returned by the latest BAR read. -/
  rdData : ReadResult := .none
  linkUp : Bool := false
  /-- The link has been up since the reset. -/
  everUp : Bool := false
  d3 : Bool := false
  /-- Tick at which the link went down or D3hot was entered, and records dropped since (R372, R608). -/
  downTick : Nat := 0
  downDrops : Nat := 0
  /-- MSI-X vectors signalled and not yet taken by the host model (R393). -/
  msix : List Nat := []
  /-- Round robin: the ring being served and the descriptors it has had this turn (R380). -/
  rrRing : Nat := 0
  rrCount : Nat := 0
  /-- Amounts cleared from RC counters by reads, keyed by 64 × offset + low bit, so that telemetry deltas do not see the
  reads (R403). -/
  rcBase : Tab Nat := []
  shadow : Option Shadow := none
  /-- Values latched by latching reads, keyed by the latched register's offset (R607). -/
  latch : Tab (Option Word) := []
  regQ : List StagedWrite := []
  log : List LogEntry := []
  logDrop : Nat := 0
  logTotal : Nat := 0
  logB : Word := 0
  logC : Word := 0
  /-- An OFF_ACCESS event has been posted in this tick (R465). -/
  offPosted : Bool := false
  deriving DecidableEq, Repr

/-! ## Optical engine control (chapter 14) -/

/-- One engine DAC channel (R483 to R488): its queue, the code applied, the code applied before the present tick edge, the
span in force, the edges left of a span change and whether one is pending (R488), whether a clear holds the channel until
the next tick edge without one (R493), whether the output is driven at the clear code (R493, R496), and the tick at which a
new code was last applied (R504). -/
structure EdacCh where
  queue : List Nat := []
  code : Nat := 0
  prev : Nat := 0
  span : Nat := 0
  spanLeft : Nat := 0
  spanPend : Bool := false
  held : Bool := false
  atClear : Bool := true
  lastApply : Option Nat := none
  deriving DecidableEq, Repr

/-- A running preloaded ramp (R490): its first tick, its length, the codes applied so far, its channels with the codes it
runs between, and the command that started it. -/
structure RampRun where
  start : Nat
  ticks : Nat
  step : Nat
  chans : List (Nat × Nat × Nat)
  cmd : Option Cmd
  deriving DecidableEq, Repr

/-- One I2C or PMBus transaction that waits or runs (R508, R529): the command (none for firmware), the bus or entry, the
address or command code, the bytes to write, the bytes to read and the option bit. -/
structure BusXfer where
  cmd : Option Cmd
  bus : Nat
  addr : Nat
  wdata : List Byte
  rlen : Nat
  opt : Bool
  deriving DecidableEq, Repr

/-- One housekeeping converter's sequencer (R502, R503): the entry in progress, the triggered sequence running (the entry
at which the main loop resumes), the one that waits, and whether a CHECK entry holds the other converter. -/
structure HkConv where
  entry : Nat := 0
  trig : Option Nat := none
  pend : Option Nat := none
  restart : Bool := false
  deriving DecidableEq, Repr

/-- Optical engine control. -/
structure EngSt where
  ch : Tab EdacCh := []
  ramps : Tab (Option RampRun) := []
  /-- OWNER reads 3 on every channel until the first tick edge after a reset's release or after a LAST_RAMP_RELEASE (R496,
  R498). -/
  resetHold : Bool := true
  /-- Bit k: ENG_CLR_N[k] is low after its filter (R492). -/
  clrPin : Nat := 0
  /-- Last ramp (R497): steps in all, steps applied, the channels it writes with their codes at the start, the number of
  channels it ramps, and the LAST_RAMP commands that wait for DONE. -/
  lrN : Nat := 0
  lrStep : Nat := 0
  lrFrom : List (Nat × Nat × Nat) := []
  lrCount : Nat := 0
  lrWait : List Cmd := []
  /-- The run is the watchdog's: the device is reset at DONE (R473). -/
  lrReset : Bool := false
  hk0 : HkConv := {}
  hk1 : HkConv := {}
  /-- The DAC outputs are at high impedance: VDD_AON is below its threshold (R496). -/
  hiZ : Bool := false
  /-- Engine I2C: host transactions that wait, in order of acceptance, and the one in progress on each bus (R508). -/
  i2cHost : List BusXfer := []
  i2cRun : Tab (Option BusXfer) := []
  /-- Firmware's reads of monitor photodiodes that wait (octet, lane, transaction), the octet and lane of the one in progress on each bus, and
  the buses on which firmware is next where both wait (R508, R510). -/
  i2cFw : List (Nat × Nat × BusXfer) := []
  i2cMpd : Tab (Option (Nat × Nat)) := []
  i2cTurn : Tab Bool := []
  deriving DecidableEq, Repr

/-! ## Line transmit (chapter 3) -/

/-- Who makes a launch request: host command, Margin Planner, domain entry or resume, Reef. -/
inductive Origin where
  | host | planner | domain | reef
  deriving DecidableEq, Repr

/-- What a launch request asks. -/
inductive LaunchOp where
  | enable | step | disable
  deriving DecidableEq, Repr

/-- A launch request (R107): the operation, the step, the command to complete if any, its origin, and the tick at which
it took effect. -/
structure LaunchReq where
  op : LaunchOp
  step : Nat
  cmd : Option Cmd
  origin : Origin
  eff : Nat
  deriving DecidableEq, Repr

/-- Hidden state of a transmit lane: current and pending requests, the ramp in progress (codes from, codes to, first
tick, length), the swing code in force, the step to resume to and whether that posts LANE_RESUMED (R110, R449), whether
retirement takes it down (R107), the step at which Reef darkened it (R539), the tick of the last code, and the step that the host
last set with TX_STEP (R426). -/
structure TxLane where
  cur : Option LaunchReq := none
  pend : Option LaunchReq := none
  fromCodes : List Nat := []
  toCodes : List Nat := []
  start : Nat := 0
  len : Nat := 0
  swing : Nat := 0
  muted : Bool := true
  resume : Option Nat := none
  resumePost : Bool := false
  retire : Bool := false
  reefStep : Option Nat := none
  doneTick : Nat := 0
  /-- The tick of the latest swing code of a ramp, and the swing code before it (R106). -/
  swingAt : Option Nat := none
  swingPrev : Nat := 0
  /-- The precoder's latest symbol (R87). -/
  pre : Nat := 0
  hostStep : Option Nat := none
  deriving DecidableEq, Repr

/-- Hidden state of an octet's transmitter: ticks at which each synthesiser entered its state, the one that enters RUN at
the next edge (1 = A, 2 = B) and whether by handover, calibration validity, the one in RUN when the domain left On,
merged SYN_CAL commands, the tick of a loss of lock in RUN, the entry to Retention or Off accepted (R107), the exact
phase accumulator of loop timing in units of 10^-11 symbol (R98), whether a temperature trigger starts a calibration at the
next edge (R95), the synthesiser of the calibration in progress (1 = A, 2 = B), whether a synthesiser has run since the
domain entered On (R446), and whether the frame start is being pulled back after a holdover (R62). -/
structure TxOct where
  entA : Nat := 0
  entB : Nat := 0
  runNext : Nat := 0
  handover : Bool := false
  validA : Bool := false
  validB : Bool := false
  wasRun : Nat := 0
  waiting : List Cmd := []
  lossTick : Option Nat := none
  entering : Bool := false
  phase : Int := 0
  calNext : Bool := false
  calSyn : Nat := 0
  ran : Bool := false
  pull : Bool := false
  deriving DecidableEq, Repr

/-- Line transmitters, by octet and by line lane 9 × octet + lane (R9). -/
structure TxSt where
  lane : Tab TxLane := []
  oct : Tab TxOct := []
  deriving DecidableEq, Repr

/-! ## Fault managers (chapter 13) -/

/-- A fault manager (R446 to R449): armed or not, the ticks at which retries started, faults by bucket of 6,000,000 ticks, the
tick at which the retry in progress misses its limit, the tick from which RAW_LOS is timed, and whether LOS_LONG has been counted
since RAW_LOS asserted. -/
structure FltUnit where
  armed : Bool := false
  retries : List Nat := []
  hours : List (Nat × Nat) := []
  limit : Option Nat := none
  los : Option Nat := none
  long : Bool := false
  deriving DecidableEq, Repr

/-- Fault managers of receive line lanes (9 × octet + lane), slot lanes (16 × group + lane) and octet transmitters. -/
structure FltSt where
  lane : Tab FltUnit := []
  sl : Tab FltUnit := []
  oct : Tab FltUnit := []
  deriving DecidableEq, Repr

/-! ## Power domains, thermal limits and Reef (chapter 15) -/

/-- A power request: the command to complete (none for a wake), the target, and the delay ticks accumulated (R523). -/
structure DomReq where
  cmd : Option Cmd
  target : Nat
  delay : Nat
  deriving DecidableEq, Repr

/-- Hidden state of a domain: the request in progress, the request held (R526), the tick of the edge at which the
transition started or the request is evaluated again, the tick at which the transition ends, the pending wake source
(R525) and the wake that follows an entry, and whether the engine supply is awaited (R530). -/
structure DomSt where
  req : Option DomReq := none
  held : Option DomReq := none
  due : Nat := 0
  wake : Nat := 0
  wakeAfter : Nat := 0
  supply : Bool := false
  fromOff : Bool := false
  deriving DecidableEq, Repr

/-- An on-die sensor (R533): the last four readings, newest first, the means held (tick, mean times 4), newest first,
whether it has reached CRIT on the latest reading. -/
structure Sensor where
  last : List Int := []
  hist : List (Nat × Int) := []
  crit : Nat := 0
  since : Option Nat := none
  deriving DecidableEq, Repr

/-- The state of the stops (R541, R542). -/
inductive StopSt where
  | none
  /-- Orderly stop: the last ramp runs, then `left` lists the domains still to go Off. -/
  | orderly (left : List Nat)
  /-- Only AON is On; the device waits for a reset. -/
  | stopped
  /-- Hard stop: as stopped, with THERMTRIP_N low. -/
  | hard
  deriving DecidableEq, Repr

/-- Power, thermal and Reef state. -/
structure PwrSt where
  dom : Tab DomSt := []
  sens : Tab Sensor := []
  /-- Engines at or above ENG_WARN (bit o), and those read at or above ENG_CRIT since the last edge. -/
  engWarn : Nat := 0
  engCrit : Nat := 0
  /-- Engines whose latest reading was at or above ENG_CRIT (bit o): the event is posted when one becomes so. -/
  engCritOn : Nat := 0
  /-- Trigger-free ticks in a row, the tick at which the present Reef stage was entered, and REEF_N driven low (R537). -/
  holdCnt : Nat := 0
  stageAt : Option Nat := none
  reefOut : Bool := false
  stop : StopSt := .none
  /-- The critical level has been reached and the stop starts at the next edge: the sensor (R534). -/
  critPend : Option Nat := none
  /-- THERMTRIP_N is low (R542). -/
  thermtrip : Bool := false
  /-- The pair pins are released at the end of this tick (R541). -/
  dropPins : Bool := false
  pmbHost : List BusXfer := []
  pmbRun : Option BusXfer := none
  /-- The AVS setting on the bus, in 0.1 mV, none before the first one, and the tick of the latest move (R531). -/
  avsSet : Option Nat := none
  avsLast : Option Nat := none
  /-- Bytes sent by firmware on the PMBus: entry and OPERATION value (R530, R541, R542). -/
  pmbOps : List (Nat × Nat) := []
  scanPhase : Nat := 0
  /-- Conditioned inputs (R467 to R469): filtered levels (bit x: asserted), edges accepted since the tick edge, inputs that exceeded
  STORM_MAX in the tick that ended. -/
  inRaw : Nat := 0
  inEdges : Tab Nat := []
  stormDue : List Nat := []
  /-- Firmware has stopped after an unrecoverable machine check (R455). -/
  fwStopped : Bool := false
  /-- The status page refreshed at the latest tick edge, and the block returned by the latest SMBus read (R475). -/
  page : List Byte := []
  smbus : List Byte := []
  deriving DecidableEq, Repr

/-! ## Frame, calendar and error correction (chapter 5) -/

/-- A calendar page (R177): its CAL_SEQ and the tag of every slot that is not free. -/
structure CalPage where
  seq : Nat := 0
  slots : Tab (Option Nat) := []
  deriving DecidableEq, Repr

/-- The words of a client in a sub-frame that is sent: C, the words known, and the number of the free values that stand for those behind
them. -/
structure SubWords where
  c : Nat
  known : List Nat
  base : Nat
  deriving DecidableEq, Repr

/-- One copy of a sub-frame of a client as it is received (R283): the tick stamp of its frame, its index, whether its C is lost, and its C
words, each with its flag. -/
structure SubCopy where
  stamp : Nat
  k : Nat
  lost : Bool
  words : List (Nat × Bool)
  deriving DecidableEq, Repr

/-- A calendar page as a receiver gathers it: CAL_SEQ, the switch frame (absent for a carried page), the octet lanes whose
parts arrived in band (bit p), the entries held, whether the Halyard copy supplied entries, whether a mismatch has been
posted for it, and whether it takes force at the next sub-frame boundary (R183). -/
structure RxAnn where
  seq : Nat
  switchFc : Nat
  parts : Nat
  slots : Tab (Option Nat)
  haly : Bool
  mism : Bool := false
  due : Bool := false
  deriving DecidableEq, Repr

/-- Hidden frame state of an octet: frame count, whether frames have run since the octet was all dark (R168), the transmit
page in force and the announcement in flight with the tick of its first frame (R178), changes staged for the next page
with the tick for which they are staged, the receive page in force, the stored announcement, the carried page being
gathered, the slots whose delivery is stopped (R183), the tick of the last JC_LOST event (R176), the page being planned at
this tick edge, the tick of the latest frame start, the records of received frames as (lane, TICK_STAMP, arrival in symbols since
local tick 0), newest first (R169, R279; kept for lanes that carry a Class B head slot), the payloads of the overhead codewords sent in the latest frame by line lane, and the
latest C received by head slot (R176).  `fc` is the frame count that the next frame carries. -/
structure FrameOct where
  fc : Nat := 0
  run : Bool := false
  txPage : CalPage := {}
  txNext : Option (CalPage × Nat) := none
  rxPage : Option CalPage := none
  /-- SWITCH_FC under which the page in force was announced, where it was (R181). -/
  rxSwitch : Option Nat := none
  ann : Option RxAnn := none
  carried : Option RxAnn := none
  stopped : List Nat := []
  jcTick : Option Nat := none
  plan : Option CalPage := none
  last : Option Nat := none
  hist : List (Nat × Nat × Nat) := []
  sent : Tab (List Nat) := []
  lastJc : Tab Nat := []
  /-- The client words of the latest frame sent, by head slot: the client's slots, and its words of the eight sub-frames (R174). -/
  words : Tab (List Nat × List SubWords) := []
  /-- Head slots whose entry of the present sub-frame is lost (R176). -/
  jcBad : List Nat := []
  deriving DecidableEq, Repr

/-- Hidden frame state of a receive lane: consecutive matching LANE_IDs and tags (R167), uncorrectable codewords of the
frame being received and the first one's index, the same for the frame that ended with its FC (R186), symbols corrected
in the frame so far and in the last one (R170), the frame count in hand, and consecutive missed markers (R206). -/
structure FrameLane where
  idOk : Nat := 8
  tagOk : Nat := 8
  unc : Nat := 0
  uncFirst : Nat := 0
  done : Option (Nat × Nat × Nat) := none
  sym : Nat := 0
  lastSym : Nat := 0
  lastUnc : Nat := 0
  rxFc : Nat := 0
  /-- TICK_STAMP of the frame in hand, the sub-frame in hand, and its codewords so far, oldest first: place in the sub-frame, payload,
  whether it decoded. -/
  stamp : Nat := 0
  subK : Nat := 0
  sub : List (Nat × Nat × Bool) := []
  /-- The clients to which the sub-frame in hand has been delivered. -/
  subOut : List Nat := []
  deriving DecidableEq, Repr

/-- The codeword capture unit of an octet (R187) is its registers; frames and calendars by octet and line lane. -/
structure FrameSt where
  oct : Tab FrameOct := []
  lane : Tab FrameLane := []
  /-- Octets for which a command that is landing at the present edge will announce a page (R521). -/
  ahead : List Nat := []
  deriving DecidableEq, Repr

/-! ## Lane acquisition, alignment and retirement (chapter 6) -/

/-- Hidden acquisition state of a receive lane: the tick at which its state was entered, verification windows passed,
markers missed in a row, retained values after Retention (R208), the slip staged (symbols, 0 for none) and whether it is
coarse, whether LOCK was ever reached, the arrival of the last frame in symbols after the tick edge, whether the lane is
in service (R215), and the search stage of firmware or hardware. -/
structure AcqLane where
  since : Nat := 0
  verify : Nat := 0
  miss : Nat := 0
  kept : Bool := false
  slip : Nat := 0
  slipCoarse : Bool := false
  point : Nat := 0
  everLock : Bool := false
  arrival : Nat := 0
  service : Bool := false
  fine : Bool := false
  lastSub : Option Nat := none
  restart : Bool := false
  pass : Bool := false
  /-- The lane's arrival has been measured since it reached LOCK (R214). -/
  known : Bool := false
  /-- CODE at the start of the phase sweep (R204), and a slip whose landing an overrun has deferred (R213). -/
  sweep : Nat := 0
  slipHeld : Bool := false
  deriving DecidableEq, Repr

/-- Hidden conversion and retirement state of an octet (R219 to R233): tone recovery ticks in lock (R202), receive end:
the reason, the bridge frame if known, the tick of the latest CONV_REQ or CONV_DONE, timeouts so far, the command that
waits; transmit end: the command that waits, consecutive OAM fields with LANE_STATE 4; CLK_MODE change staged; conversion decided and due at the next tick; the re-plan due. -/
structure AcqOct where
  toneTicks : Nat := 0
  convReason : Nat := 0
  rxB : Option Nat := none
  convTick : Nat := 0
  convExp : Nat := 0
  rxCmd : Option (Cmd × Nat) := none
  txCmd : Option (Cmd × Nat) := none
  oam4 : Nat := 0
  clkStaged : Bool := false
  convDue : Option Nat := none
  doneOwed : Bool := false
  ackDue : Option Nat := none
  ackLane : Nat := 0
  replan : List Nat := []
  /-- FC of the frame at which LC was selected (R221). -/
  selFc : Nat := 0
  deriving DecidableEq, Repr

/-- Acquisition state, by octet and line lane. -/
structure AcqSt where
  oct : Tab AcqOct := []
  lane : Tab AcqLane := []
  deriving DecidableEq, Repr

/-! ## Line receive (chapter 4) -/

/-- A staged bank swap (R134): lane mask, the tick at which it lands, the command to complete, the phase mode of an FFE_MODE,
and whether adaptation staged it. -/
structure Swap where
  mask : Nat
  due : Nat
  cmd : Option Cmd
  mode : Option Nat
  adapt : Bool
  deriving DecidableEq, Repr

/-- What a receive lane computes with: the set-up that has landed at a codeword boundary (R127).  `seen` is set once one has landed. -/
structure RxForce where
  seen : Bool := false
  /-- AFE gain code, correction entries of the 64 sub-converters, coefficients of the bank in use. -/
  gain : Nat := 0
  adc : List Word := []
  coef : List Int := []
  /-- First and last tap of the window, and the main-cursor tap (R130, R131). -/
  win : Nat × Nat := (0, 47)
  main : Nat := 3
  /-- Level targets and channel model. -/
  lv : List Int := []
  h1 : Int := 0
  h2 : Int := 0
  deriving DecidableEq, Repr

/-- One FFE output that waits for its decision: y(n), the ADC code that came with it, and the 48 corrected samples x(n + m - i). -/
structure FfeOut where
  y : Int
  code : Int
  win : List Int
  deriving DecidableEq, Repr

/-- What a receive lane accumulates for its adaptation loops: the tap sums of R136, and by level the outputs decided at it and their
count, and the correlation of the error with the two decisions before, with the power of the decisions (R141). -/
structure RxAcc where
  n : Nat := 0
  taps : List Int := []
  lvlSum : List Int := [0, 0, 0, 0]
  lvlN : List Nat := [0, 0, 0, 0]
  c1 : Int := 0
  c2 : Int := 0
  pw : Int := 0
  deriving DecidableEq, Repr

/-- A CIC stage of order 3: integrators and comb delays (R145). -/
structure Cic where
  i1 : Int := 0
  i2 : Int := 0
  i3 : Int := 0
  c1 : Int := 0
  c2 : Int := 0
  c3 : Int := 0
  deriving DecidableEq, Repr

/-- One cascade of a monitor chain: a CIC for each quantity, and its last 32 dumps, the newest first (R145). -/
structure MonStream where
  cic : List Cic := []
  dumps : List (List Int) := []
  deriving DecidableEq, Repr

/-- A monitor chain: symbols and dumps of the present tick, and both cascades. -/
structure MonSt where
  n : Nat := 0
  d : Nat := 0
  t : MonStream := {}
  k : MonStream := {}
  deriving DecidableEq, Repr

/-- Hidden state of a receive lane: the FFE length in force (R131) and the persistence counts of the four threshold units
(R149), whether the receive chain is powered, and the state of its sample path. -/
structure RxLane where
  /-- Samples converted since the lane powered up: sub-converter `n % 64` takes the next (R123). -/
  n : Nat := 0
  len : Nat := 0
  setN : List Nat := [0, 0, 0, 0]
  clrN : List Nat := [0, 0, 0, 0]
  outTick : Nat := 0
  powered : Bool := false
  /-- A change has restarted the settling of the monitor chain at this edge (R148). -/
  restart : Bool := false
  /-- Sum of squares and count of the samples of the DSP clock in progress, and clocks in a row below the RAW_LOS threshold and at or
  above it (R122). -/
  sq : Nat := 0
  sqN : Nat := 0
  low : Nat := 0
  high : Nat := 0
  /-- RMS of the latest whole DSP clock, and whether samples have come since the last tick edge. -/
  rms : Option Nat := none
  got : Bool := false
  /-- Clipped samples and saturated outputs that the counters have not taken yet (R121, R129). -/
  clips : Nat := 0
  sats : Nat := 0
  /-- The latest corrected samples, newest first, and the FFE outputs without a decision, oldest first. -/
  xs : List Int := []
  ys : List FfeOut := []
  /-- The last two decisions, latest first. -/
  last : List Nat := []
  /-- Metrics of the 16 histories with which the trellis enters the next codeword; none where the symbols before it are not known. -/
  entry : List Nat := []
  /-- Decided information bits with their reliability, oldest first (R140); in standard mode every bit with its soft value (R143). -/
  soft : List (Bool × Nat) := []
  acc : RxAcc := {}
  force : RxForce := {}
  /-- A trim result has replaced the correction entries at this edge, and the ticks for which the loop has run since one, none before the
  first (R125, R126). -/
  adcTrim : Bool := false
  bgTicks : Option Nat := none
  /-- The equaliser seed of the last trim run (R120, R346). -/
  seed : List Int := []
  deriving DecidableEq, Repr

/-- Receive lanes, monitor chains by lane, and staged swaps by octet. -/
structure RxSt where
  lane : Tab RxLane := []
  mon : Tab MonSt := []
  swaps : Tab (List Swap) := []
  deriving DecidableEq, Repr

/-! ## Trim and the ageing journal (chapter 10) -/

/-- A trim unit (R341 to R348): 0 to 15 octets, 16 to 31 slot groups, 32 and 33 converters.  The tick of admission, the start of
the run in progress, of the last run that counts toward the spacing of R342, the run's row in R344, captures taken, the
temperature at the start, lanes lost, whether the start-up run is owed, the transmit lanes LIT at the start, the lanes whose
seed waits for a swap (R346), and the commands that wait. -/
structure TrimUnit where
  admitted : Option Nat := none
  start : Option Nat := none
  last : Option Nat := none
  row : Nat := 0
  caps : Nat := 0
  temp : Int := 0
  lost : Nat := 0
  startup : Bool := false
  lit : Nat := 0
  seedWait : Nat := 0
  waiting : List Cmd := []
  deriving DecidableEq, Repr

/-- The ageing journal (R360 to R362): the working copy and the partner's entries as byte strings, oldest first, entries that
wait for the flash, failed attempts at the first of them, the entries in flash, the hour's counters, the highest temperature of
each die in the hour, and the HK0/HK1 differences of each check entry (count and sum of the hour, first hourly mean; R351). -/
structure JrnSt where
  /-- The HOURLY entry of the latest multiple of 360,000,000 ticks is owed (R360). -/
  hourDue : Bool := false
  own : List (List Byte) := []
  partner : List (List Byte) := []
  flashQ : List (List Byte) := []
  tries : Nat := 0
  flash : List (List Byte) := []
  hourRetire : Nat := 0
  hourConv : Nat := 0
  hourReef : Nat := 0
  hourTrim : Nat := 0
  hourTemp : Tab Int := []
  hkSum : Tab (Nat × Int) := []
  hkBase : Tab (Option Int) := []
  hkDrift : Bool := false
  deriving DecidableEq, Repr

/-- What the planner keeps for a line lane (R351 to R357): valid SNR outputs since the last run and their sum, the same of the second
before, the hour's margins, the hourly margins with their ticks, newest first, the tick of the last discontinuity and those to
come (ends of the partner's launch ramps), the laser baseline, and the runs of the last action and of the last shortening. -/
structure PlanLane where
  sum : Int := 0
  n : Nat := 0
  secSum : Int := 0
  secN : Nat := 0
  hsum : Int := 0
  hn : Nat := 0
  hist : List (Nat × Int) := []
  disc : Nat := 0
  discNext : List Nat := []
  base : Option Nat := none
  noData : Bool := true
  actRun : Option Nat := none
  shortRun : Option Nat := none
  /-- Pre-FEC trend (R351): SER outputs and symbols corrected since the last second's end, the sums of that second, those of the hour with
  its seconds, and the hourly means with their ticks, newest first. -/
  ser : Nat := 0
  corr : Nat := 0
  secSer : Nat := 0
  secCorr : Nat := 0
  hser : Nat := 0
  hcorr : Nat := 0
  hsec : Nat := 0
  trend : List (Nat × Nat × Nat) := []
  /-- Trim drift (R351): the latest run's ADC_CAL and level results, and the mean absolute changes between runs in thousandths, with their
  ticks, oldest first. -/
  lastCal : List Word := []
  lastLvl : List Nat := []
  driftCal : List (Nat × Nat) := []
  driftLvl : List (Nat × Nat) := []
  deriving DecidableEq, Repr

/-- One lane's record of the partner's AGEING message (R359). -/
structure FarRec where
  margin : Int
  tEx : Nat
  flags : Nat
  deriving DecidableEq, Repr

/-- Trim units, and what the planner keeps: by line lane, the partner's latest AGEING record by octet with its tick, runs so far,
the tick of the latest run, and step requests scheduled for a tick (tick, octet, lane, step). -/
structure TrimSt where
  unit : Tab TrimUnit := []
  plan : Tab PlanLane := []
  far : Tab (Option (Nat × List FarRec)) := []
  runs : Nat := 0
  lastRun : Option Nat := none
  planQ : List (Nat × Nat × Nat × Nat) := []
  deriving DecidableEq, Repr

/-! ## The mapper and the slot lanes (chapters 7 and 8) -/

/-- The data of a client between its ends: at a source, blocks that wait for a group of four, stream bits that do not fill a word, the
ingress or regeneration buffer (oldest first), the words that entered it in the intervals since the latest decision, and the fraction of a
replacement word; at a sink, stream bits with their flags that do not fill a block, what the slot transmitter sent in the latest tick as
(kind, value), the block or word of its replacement signal, blocks since the last alignment marker and the described fill (R259); and for
Class B the later route's copies that wait, the store's group buffer, the words written and read and the poisoned words (R283 to R286). -/
structure CliPath where
  blks : List Nat := []
  bits : List Bool := []
  inQ : List Nat := []
  groups : List Nat := []
  frac : Nat := 0
  outBits : List (Bool × Bool) := []
  sent : List (Nat × Nat) := []
  repl : Option Nat := none
  am : Nat := 0
  fill : Option Int := none
  late : List SubCopy := []
  buf : List (Nat × Bool) := []
  wr : Nat := 0
  rd : Nat := 0
  poison : List Nat := []
  deriving DecidableEq, Repr

/-- Hidden state of a client: the octets that its routes take the tag from (R252, R276), flags of the tag faults posted, requests
of PROT_REQ, counts of R280 and R290, uncorrectable codewords of the tick on each route, lost justification entries, the running
hold-off's defect and the ticks it has held, whether a WTR runs, the tick of the latest C_MISMATCH, and the justification
decisions of the frames of one tick (R277). -/
structure CliSt where
  bind0 : Option Nat := none
  bind1 : Option Nat := none
  /-- The tag of a route is carried on more than one octet of its set, and the client posts TAG_DUP once for each. -/
  dup0 : Bool := false
  dup1 : Bool := false
  bad0 : Bool := false
  bad1 : Bool := false
  force : Option Nat := none
  manual : Option Nat := none
  overN : Nat := 0
  underN : Nat := 0
  signN : Nat := 0
  /-- Ticks for which route `aloneR` alone has carried the tag. -/
  aloneN : Nat := 0
  aloneR : Nat := 0
  goneN : Nat := 0
  paired : Bool := false
  unc0 : Nat := 0
  unc1 : Nat := 0
  jc0 : Bool := false
  jc1 : Bool := false
  /-- The defect of the active route whose hold-off runs (4 = SF, 3 = SD, 0 = none); the timers and the ticks at which they were loaded. -/
  holdKind : Nat := 0
  wtrRun : Bool := false
  holdAt : Option Nat := none
  wtrAt : Option Nat := none
  /-- The route whose copy the deskew store delays in PROTECTED (R279, R290). -/
  store : Nat := 0
  cmisTick : Option Nat := none
  /-- The decisions of one tick, with the octets whose frame has taken them. -/
  dec : Option (Nat × List Nat × List SubWords) := none
  path : CliPath := {}
  deriving DecidableEq, Repr

/-- Hidden state of a slot lane: ticks spent in AN, the tick at which the state was entered. -/
structure SlotLane where
  anTicks : Nat := 0
  since : Nat := 0
  restart : Bool := false
  deriving DecidableEq, Repr

/-- The mapper: the clients defined, ascending, their hidden state, slot lanes (16 × group + lane), Class B units and rates, and
the re-plan's dropped clients. -/
structure MapSt where
  defined : List Nat := []
  /-- Clients whose slots wait to be freed in the first page that R179 allows, with the octet (R450). -/
  freeing : List (Nat × Nat) := []
  cli : Tab CliSt := []
  lane : Tab SlotLane := []
  /-- 64-byte groups of the deskew store, by 2^32 × client + group of its region: eight data words, then the check word (R283, R284). -/
  store : Tab (List Nat) := []
  deriving DecidableEq, Repr

/-! ## Memory integrity (chapter 13) -/

/-- Memory integrity (R452 to R463): words written in test mode, keyed by 2^23 × die + 2^15 × macro + word, as data and check
byte; long-lived table words found uncorrectable, by BAR0 offset, with firmware's copy; table words found with a corrected
error and not yet rewritten; by SRAM row (2^17 × die + 2^9 × macro + row) the ticks of the last hour with a corrected error
and the errors seen; the rows journalled for repair, oldest first, with their causes and repeats; spare rows used by macro; and
the memories for which ECC_UNCORR has been posted in this tick. -/
structure MemSt where
  /-- Words of SRAM macros whose data and check bits are known from a test, those that a split write stored, and whether a test is open
  (R463). -/
  test : Tab (Option (Nat × Nat)) := []
  written : List Nat := []
  inTest : Bool := false
  bad : Tab (Option Word) := []
  /-- Calendar entries of pages in force that are poisoned (128 octet + slot), each with the tick in which it was found (R458). -/
  badCal : List (Nat × Nat) := []
  corr : List Nat := []
  rows : Tab (List Nat × Nat) := []
  repair : List (Nat × Nat × Nat) := []
  spares : Tab Nat := []
  posted : List Nat := []
  deriving DecidableEq, Repr

/-! ## The pair (chapter 12) -/

/-- A Shroud message sent: its ALIVE, T_TX in 2^-16 ns, the last tick whose records it carries, and the image bytes sent with it
and before it. -/
structure ShrdSent where
  alive : Nat
  tx : Int
  last : Nat
  img : Nat
  deriving DecidableEq, Repr

/-- The pair (R410 to R432): the tick since which PAIR_LOCK has been free, whether PAIR_UNSAFE has been posted for this wait, whether
the mapper carries, an acquisition whose activation is due (its cause and tick), a PAIR_RELEASE that waits for the twin with its
tick, and the twin's release notice.  Link: ticks without an accepted message, ALIVE counters of MIRROR and STATUS, the ALIVE last
accepted of each, the receive time echoed (2^-16 ns), messages sent (newest first) and the bytes sent.  As a holder: records not
yet acknowledged by tick, what this tick's MIRROR will carry, the bodies last mirrored by key, the commands that made each client,
bulk synchronisation (tick b, image, bytes acknowledged) and whether one is due, and AUTO in the last STATUS.  As a receiver: the
last tick applied, whether a MIRROR came in this tick, the image being loaded, deltas that wait for it, SYNCED, whether an image is
held, the partner's rings, lanes, trim figures and time, and the register values and commands that apply at the next edge.  Shroud
lanes: ticks in a row with too many invalid headers; and whether SHRD_DOWN is asserted. -/
structure PairSt where
  freeAt : Option Nat := some 0
  unsafePosted : Bool := false
  mapOn : Bool := false
  mapNext : Option (Nat × Nat) := none
  released : Option (Cmd × Nat) := none
  notice : Option Nat := none
  miss : Nat := 0
  aliveM : Nat := 0
  aliveS : Nat := 0
  ackM : Nat := 0
  ackS : Nat := 0
  rxTime : Nat := 0
  sentM : List ShrdSent := []
  sentS : List ShrdSent := []
  out : List (List Byte) := []
  unacked : List (Nat × List Byte) := []
  setupOut : List (Nat × Word) := []
  cmdOut : List (List Byte) := []
  ageOut : List (List Byte) := []
  seen : Tab (List Byte) := []
  cliCmds : List (Nat × List Byte) := []
  bulk : Option (Nat × List Byte × Nat) := none
  bulkDue : Bool := false
  twinAuto : Bool := false
  lastTick : Option Nat := none
  got : Bool := false
  img : Option (List Byte) := none
  held : List (Nat × Nat × List Byte) := []
  synced : Bool := false
  haveImage : Bool := false
  rings : Tab (Option (Word × Word)) := []
  lanes : Tab (List Nat) := []
  trim : Tab (List Byte) := []
  time : List Byte := []
  setupQ : List (Nat × Word) := []
  cmdQ : List (List Byte) := []
  badTicks : Tab Nat := []
  downPosted : Bool := false
  deriving DecidableEq, Repr

/-! ## The Halyard channel (chapter 9) -/

/-- A Halyard message to send (R308, R322, R323): type, payload, class, ALIVE once assigned, destination, path choice
(0 = AUTO, 1 = SUB, 2 = REL, 3 = BOTH, 4 = a beacon on SUB, 5 = a beacon on REL), sendings still owed, paths still owed in
the present sending, copies sent with the mask of those that went on REL, transmit timestamps of the first copy, the
command if the host sent it, the tick at which it was queued, and the tick since which it has found no usable path. -/
structure HalyMsg where
  typ : Nat
  payload : List Byte
  cls : Nat
  alive : Option Nat
  dst : Nat
  choice : Nat
  owed : Nat
  todo : List Nat
  sent : Nat
  relMask : Nat
  tsA : Nat
  tsB : Nat
  cmd : Option Cmd
  queued : Nat
  waitFrom : Option Nat
  deriving DecidableEq, Repr

/-- What a modem knows of one path (0 = SUB, 1 = REL): the tick of the last qualified partner message, the tick of the
partner beacon that last showed the flag of this path, beacons sent and received on it with their timestamps, newest first
(R320, R321, R330). -/
structure HalyPath where
  heard : Option Nat := none
  far : Option Nat := none
  sentB : List (Nat × Nat × Nat) := []
  rcvB : List (Nat × Nat × Nat) := []
  deriving DecidableEq, Repr

/-- Hidden state of one octet's modem: the queue and the firmware backlog (R323), the message in flight with its path, relay
bytes that wait for a frame and whether the first of a message has yet to be timestamped (R317, R326), the ALIVE counter, the
ALIVE values accepted from each station, newest first (R310), the two paths, the tick of the last beacon, the reception in
progress (header, level, timestamps; R313), the cycle (since tick 0) of the first sync symbol of the latest message on SUB, and the shared-mode slot in progress with the time used in it in tenths of a
Halyard symbol (R327). -/
structure HalyOct where
  queue : List HalyMsg := []
  backlog : List HalyMsg := []
  flight : Option (HalyMsg × Nat) := none
  relOut : List Byte := []
  relNew : Bool := false
  alive : Nat := 0
  seen : Tab (List Nat) := []
  sub : HalyPath := {}
  rel : HalyPath := {}
  lastBeacon : Nat := 0
  rxHdr : Nat := 0
  rxLevel : Int := 0
  rxTsA : Nat := 0
  rxTsB : Nat := 0
  subStart : Nat := 0
  slotUsed : Nat := 0
  inSlot : Bool := false
  /-- Lanes whose RETIRE waits for the modem (R228). -/
  retire : List Nat := []
  /-- The receiver has idled in this tick (R315). -/
  idle : Bool := false
  /-- Relay bytes received and not yet taken into a message, oldest first: each with its position in its field and the two timestamps of
  that field's frame (R317, R326). -/
  relIn : List (Byte × Nat × Nat × Nat) := []
  /-- Messages found in the relay and qualified (R326), oldest first: header, position, timestamps, payload. -/
  relGot : List (Nat × Nat × Nat × Nat × List Byte) := []
  deriving DecidableEq, Repr

/-- The Halyard modems, by octet. -/
structure HalySt where
  oct : Tab HalyOct := []
  deriving DecidableEq, Repr

/-! ## Observation (chapter 17) -/

/-- A converter capture of a Yard die (R594, R595): the buffer, the command to complete, the first sample's tick and symbol, whether
staging has ended. -/
structure CapRun where
  buf : Nat
  cmd : Option Cmd
  tick : Nat
  pos : Nat
  draining : Bool
  data : List Byte
  deriving DecidableEq, Repr

/-- A pattern checker that works on given bits (R581): the bits it seeds from, the latest first; the place in a periodic pattern once it is
aligned, or any number once a PRBS register is seeded; bits without error since; and the bits and errors of the window in hand. -/
structure ChkSt where
  reg : List Bool := []
  pos : Option Nat := none
  good : Nat := 0
  win : Nat := 0
  bad : Nat := 0
  deriving DecidableEq, Repr

/-- Instruments (R578 to R596): markers in flight by histogram unit, lanes whose LOOP_SLIP has been posted in this tick, control-core
samples buffered (oldest first), samples lost in this tick, whether a sample record is due, captures by Yard die, the buffers' bytes
and their damaged words. -/
structure ObsSt where
  marks : Tab Nat := []
  /-- Checkers by lane, 256 × type + 16 × index + lane (R581). -/
  chk : Tab ChkSt := []
  slipPosted : List Nat := []
  samples : List (List Byte) := []
  sampLost : Nat := 0
  sampDue : Bool := false
  cap : Tab (Option CapRun) := []
  buf : Tab (List Byte) := []
  damaged : Tab (List Nat) := []
  deriving DecidableEq, Repr

/-! ## Start-up, identity and security (chapter 16) -/

/-- The root core's state (R552 to R577): the boot flash below the journal regions (0xFF where erased), the flash window's operation
in progress (code, address, data), the hashes fused in the customer key slots, whether a device reset holds the device, whether its
start-up has ended without firmware (R555), the measurements of the running first-stage and main images and of the two tasks, the
ATTEST reports since the device reset, the region and entry point of each task, and the tasks' inboxes (R571), oldest first. -/
structure SecSt where
  flash : Tab Byte := []
  op : Option (Nat × Nat × Nat) := none
  keys : Tab Nat := []
  held : Bool := true
  meas : Tab Nat := []
  reports : Nat := 0
  region : Tab (List Byte) := []
  entry : Tab Nat := []
  inbox : Tab (List (List Byte)) := []
  /-- Descriptors that a task's outbox can still give after its latest run (R571). -/
  outLeft : Tab Nat := []
  deriving DecidableEq, Repr

end Sys2Proof.Machine
end

