-- ==== Sys2Proof/Syntax.lean ====
section
/-!
DEFINITION. The commands and events of the block: one constructor per row of the opcode table.  A host command carries its
origin (`Cmd`) and the argument bytes of its descriptor (R381, R401 and the command tables of later chapters); an event row
carries the indices it concerns and whatever the outside world supplies with it (levels, received bits, measured figures).
-/

namespace Sys2Proof

open Sys2Proof.Machine

/-- The commands (one constructor per row of the opcode table). -/
inductive Instr where
  /-- TICK (R47): At each frame tick edge the device applies every staged change of that tick at the boundary its kind requires. -/
  | tick (x : TickIn)
  /-- STAGING_DEADLINE (R54): At 9.0 µs into a tick the staged set for the next tick closes and is distributed to all dies. -/
  | stagingDeadline (closed : Bool) (cmds : List Nat) (recs : Nat) (slices : List Nat) (tasks : List Nat) (plan : Bool)
  /-- TICK_STORM (R57): After 100 consecutive overrun ticks, firmware posts TICK_STORM and suspends both customer tick tasks. -/
  | tickStorm
  /-- TASK_OVERRUN (R58): A task reaches TASK_BUDGET_NS, is stopped for the tick, and TASK_OVERRUN is posted. -/
  | taskOverrun (t : Fin 2)
  /-- REFCLK_LOSS (R60): The selected reference shows no edge for 64 ns, so the device falls back to the other reference or holds the counters and enters holdover. -/
  | refclkLoss (d : Fin 2)
  /-- REFCLK_RETURN (R62): A returning reference shows edges for 64 ns, the counters resume, the PLLs relock, and the frame phase is steered back. -/
  | refclkReturn (d : Fin 2) (phase : List Int)
  /-- DOM_SET_SEC_WRITE (R63): A write to DOM_SET_SEC sets the seconds of the inactive domain at the next tick edge, or is discarded for the active domain. -/
  | domSetSecWrite (d : Fin 2) (fw : Bool) (v : BitVec 64)
  /-- DOM_ADJ_WRITE (R64): A write to DOM_ADJ adds a signed phase adjustment to a domain at the next tick edge, with OUT_OFFSET compensation for the active domain. -/
  | domAdjWrite (d : Fin 2) (fw : Bool) (v : BitVec 64)
  /-- TIME_SWITCH (R68): The command makes the named domain active at its tick, with OUT_OFFSET set so that the output timescale continues. -/
  | timeSwitch (cmd : Cmd) (domain : BitVec 8)
  /-- TIME_STEP (R70): The command steps the output timescale by a whole number of ticks at its tick edge. -/
  | timeStep (cmd : Cmd) (amount : BitVec 64)
  /-- SLEW_DONE (R69): OUT_OFFSET reaches zero and SLEW_DONE is posted. -/
  | slewDone
  /-- PPS_IN_EDGE (R72): A filtered PPS input edge is timestamped in both domains, then accepted or rejected by its period check. -/
  | ppsInEdge (x : Fin 2) (cyc : Fin 6250)
  /-- TRIG_FIRE (R73): A time-trigger unit's selected time reaches TRIG_TIME, so it fires, drives its pin, starts its action and re-arms if periodic. -/
  | trigFire (k : Fin 16) (cyc : Fin 6250)
  /-- TRIG_TIME_WRITE (R77): A write to TRIG_TIME_SEC commits it together with the pending TRIG_TIME_NS. -/
  | trigTimeWrite (k : Fin 16) (fw : Bool) (v : BitVec 64)
  /-- TP_MESSAGE_RX (R67): A PTP message received on a timing port is timestamped and passed to the servo, and copied to the host ring if HOST_COPY is set. -/
  | tpMessageRx (p : Fin 2) (cyc : Fin 6250) (bytes : List Byte)
  /-- SYN_CAL (R92): The command requests a synthesiser calibration on the non-running synthesiser. -/
  | synCal (cmd : Cmd) (octet : BitVec 8) (retry : BitVec 8)
  /-- SYN_TEMP_CHECK (R91): Every 100 ticks, the octet temperature is compared with CAL_TEMP and a calibration starts if it differs by more than PLL_DT. -/
  | synTempCheck (o : Fin 16)
  /-- SYN_CAL_COMPLETE (R93): A calibrating synthesiser locks and calibrates, then enters ALIGN, or enters RUN at the next edge. -/
  | synCalComplete (o : Fin 16) (syn : Fin 2)
  /-- SYN_CAL_TIMEOUT (R93): A calibration does not complete within 300 ticks, so the synthesiser enters FAIL. -/
  | synCalTimeout (o : Fin 16) (syn : Fin 2)
  /-- SYN_RELOCK (R93): A synthesiser in LOCK locks within 100 ticks and enters RUN. -/
  | synRelock (o : Fin 16) (syn : Fin 2)
  /-- SYN_RELOCK_TIMEOUT (R93): A relock does not finish within 100 ticks, so the synthesiser falls back to a full calibration. -/
  | synRelockTimeout (o : Fin 16) (syn : Fin 2)
  /-- HANDOVER (R93): An aligning synthesiser matches phase on 8 measurements and takes over in RUN while the other goes to IDLE. -/
  | handover (o : Fin 16) (syn : Fin 2)
  /-- SYN_ALIGN_FAIL (R93): Alignment does not complete within 100 ticks, so the synthesiser enters FAIL. -/
  | synAlignFail (o : Fin 16) (syn : Fin 2)
  /-- SYN_UNLOCK (R93): The running synthesiser loses lock and goes to IDLE, and the other synthesiser takes over or calibrates. -/
  | synUnlock (o : Fin 16)
  /-- SYN_NONE (R95): No synthesiser reaches RUN within PLL_LOCK_TIMEOUT of a loss of lock, so every lit lane ramps down. -/
  | synNone (o : Fin 16)
  /-- TX_ENABLE (R107): The command enables a lane to a launch step through the lane state machine. -/
  | txEnable (cmd : Cmd) (octet : BitVec 8) (lane : BitVec 8) (launch : BitVec 8)
  /-- TX_STEP (R107): The command moves a lane to a new launch step. -/
  | txStep (cmd : Cmd) (octet : BitVec 8) (lane : BitVec 8) (launch : BitVec 8)
  /-- TX_DISABLE (R113): The command ramps a lane down, or is refused while the lane holds slots without FORCE. -/
  | txDisable (cmd : Cmd) (octet : BitVec 8) (lane : BitVec 8) (force : BitVec 8)
  /-- LOCK_TIMEOUT (R96): A lane waiting in WAIT_LOCK reaches PLL_LOCK_TIMEOUT and returns to DARK. -/
  | lockTimeout (o : Fin 16) (l : Fin 9)
  /-- RAMP_END (R107): A launch ramp ends, so the lane becomes LIT or DARK, completes its request and takes any pending request. -/
  | rampEnd (o : Fin 16) (l : Fin 9)
  /-- RAW_LOS (R122): RAW_LOS asserts or clears after 256 DSP clocks below or above the threshold. -/
  | rawLos (o : Fin 16) (l : Fin 9) (asserted : Bool)
  /-- RX_CHANGE_LAND (R127): Staged receive changes and bank swaps land together at the first codeword boundary after their tick edge. -/
  | rxChangeLand (o : Fin 16) (pos : List Nat)
  /-- FFE_SWAP (R137): The command stages a coefficient bank swap on the lanes in its mask. -/
  | ffeSwap (cmd : Cmd) (octet : BitVec 8) (mask : BitVec 16)
  /-- FFE_MODE (R138): The command changes the octet's phase mode, with a swap on every powered FFE. -/
  | ffeMode (cmd : Cmd) (octet : BitVec 8) (mode : BitVec 8)
  /-- FFE_ADAPT_UPDATE (R136): Every ADAPT_PERIOD ticks, adaptation moves the taps of the shadow bank and stages a swap. -/
  | ffeAdaptUpdate (o : Fin 16) (l : Fin 9) (sums : List Int)
  /-- MON_THRESHOLD (R149): A threshold unit asserts or clears after SET_N or CLR_N consecutive qualifying outputs, and posts its event. -/
  | monThreshold (o : Fin 16) (l : Fin 9) (unit : Fin 4)
  /-- CODEWORD_DECODE (R184): A received RS(540,500) codeword is decoded, corrected or flagged uncorrectable, and counted. -/
  | codewordDecode (o : Fin 16) (l : Fin 9) (cw : Fin 808) (payload : BitVec 5140) (errs : List (Nat × Nat)) (rel : CwIn) (arr : Int)
  /-- FEC_CAP_ARM (R187): Writing ARM arms the codeword capture of the selected lane. -/
  | fecCapArm (o : Fin 16) (v : BitVec 64)
  /-- FEC_UNCORR (R186): In the tick after a frame with uncorrectable codewords ends, one FEC_UNCORR event is posted. -/
  | fecUncorr (o : Fin 16) (l : Fin 9)
  /-- FRAME_START (R157): An octet's transmit frame starts at its tick plus OFFSET and sends the trim window, overhead and client area. -/
  | frameStart (o : Fin 16)
  /-- CAL_SWITCH (R178): The new calendar page takes force at frame F + 2 on both ends. -/
  | calSwitch (o : Fin 16)
  /-- PAGE_ADOPT (R182): A receiver without a page in force adopts one once all eight parts of one CAL_SEQ have arrived. -/
  | pageAdopt (o : Fin 16)
  /-- TONE_LOCK (R202): The tone recovery loop stays locked for 2 ticks with LC's RAW_LOS clear, so TONE_LOCK sets. -/
  | toneLock (o : Fin 16)
  /-- PHASE_SWEEP_END (R204): The 8-tick phase sweep ends, sets CODE to the best code, and the lane enters EQ. -/
  | phaseSweepEnd (o : Fin 16) (l : Fin 9) (off : Fin 64)
  /-- CDR_LOCK (R206): Per-lane clock recovery locks and the lane enters EQ. -/
  | cdrLock (o : Fin 16) (l : Fin 9)
  /-- CDR_ACQ_TIMEOUT (R206): Clock recovery is not locked within 4 ticks, so the lane enters FAIL. -/
  | cdrAcqTimeout (o : Fin 16) (l : Fin 9)
  /-- EQ_SETTLED (R206): EQ_TICKS ticks elapse in EQ and the lane enters SEARCH. -/
  | eqSettled (o : Fin 16) (l : Fin 9)
  /-- MARKER_RESULT (R210): At 7.5 µs the marker detector posts HIT_CNT, COARSE_HIT and EXACT for the tick, and the search steps on. -/
  | markerResult (o : Fin 16) (l : Fin 9) (hits : Nat) (exact : Nat) (allExact : Bool) (consec : Bool)
  /-- SEARCH_TIMEOUT (R206): A lane spends 255 ticks in SEARCH and enters FAIL. -/
  | searchTimeout (o : Fin 16) (l : Fin 9)
  /-- SLIP (R212): The command stages a fine or coarse slip of a lane's alignment point. -/
  | slip (cmd : Cmd) (octet : BitVec 8) (lane : BitVec 8) (amount : BitVec 8) (coarse : BitVec 8)
  /-- ACQ_LOST (R206): A locked lane loses RAW_LOS, 8 markers or TONE_LOCK and returns to WAIT_SIG. -/
  | acqLost (o : Fin 16) (l : Fin 9) (missed : Bool)
  /-- ACQ_RESTART (R235): The command restarts the acquisition of the lanes in its mask. -/
  | acqRestart (cmd : Cmd) (octet : BitVec 8) (mask : BitVec 16)
  /-- OCT_ALIGNED (R214): Every slot-carrying lane is in LOCK within 64 symbols, so the FIFO read point is fixed. -/
  | octAligned (o : Fin 16)
  /-- SKEW_RANGE (R215): A lane arrives outside the deskew window, so it loses LOCK or stays out of service. -/
  | skewRange (o : Fin 16) (l : Fin 9)
  /-- CLK_MODE_LAND (R225): CLK_MODE = 1 lands at the next received frame start and the read point moves 1,423 symbols. -/
  | clkModeLand (o : Fin 16)
  /-- CONV_START (R222): At the tick after a conversion decision, N sets CLK_MODE, powers LC's chain and sends CONV_REQ. -/
  | convStart (o : Fin 16)
  /-- HALY_MESSAGE_RX (R310): A qualified Halyard message is checked for repeats and jumps, accepted, and handled by its type. -/
  | halyMessageRx (o : Fin 16) (path : Fin 2) (hdr : BitVec 64) (payload : List Byte) (crc : BitVec 32) (cyc : Fin 6250) (pos : Nat) (fest : Int) (above : Bool)
  /-- CONV_TIMEOUT (R222): CONV_TIMEOUT expires in REQUESTED without a tone end, so CONV_REQ is resent, or the conversion fails after the third expiry. -/
  | convTimeout (o : Fin 16)
  /-- LC_TONE_END (R222): The tone on LC ends at N and LC clock recovery starts. -/
  | lcToneEnd (o : Fin 16)
  /-- CONV_SELECT (R222): LC is in LOCK with BRIDGE = l, so lane l's slots are taken from LC at frame B+2 or B+3. -/
  | convSelect (o : Fin 16)
  /-- CONV_LC_FAIL (R222): LC has no LOCK at the start of frame B+3, so the conversion fails and CONV_ABORT is sent. -/
  | convLcFail (o : Fin 16) (lost : Bool)
  /-- BRIDGE_START (R223): At frame B, F's LC carries lane l's copy and the Halyard transmission moves to the relay. -/
  | bridgeStart (o : Fin 16)
  /-- LANE_RETIRE (R235): The command retires a lane in one direction, with conversion or without a spare. -/
  | laneRetire (cmd : Cmd) (octet : BitVec 8) (lane : BitVec 8) (dir : BitVec 8) (reason : BitVec 8)
  /-- LANE_RESTORE (R234): The command clears the retirements of an octet direction. -/
  | laneRestore (cmd : Cmd) (octet : BitVec 8)
  /-- AN_COMPLETE (R245): Auto-negotiation completes and the PHY moves to TRAIN or ACQ. -/
  | anComplete (g : Fin 16) (i : AnIn)
  /-- AN_FAIL (R244): Every 50,000 ticks spent in AN, one AN_FAIL event is posted. -/
  | anFail (g : Fin 16) (i : Fin 16)
  /-- TRAIN_COMPLETE (R245): Every lane of the PHY is trained and the PHY enters ACQ. -/
  | trainComplete (g : Fin 16) (i : Fin 16)
  /-- LT_FAIL (R245): The IEEE 802.3 training timer expires, so LT_FAIL is posted and the PHY retries. -/
  | ltFail (g : Fin 16) (i : Fin 16)
  /-- SL_UP (R245): Every lane of the PHY locks in ACQ and the PHY is UP. -/
  | slUp (g : Fin 16) (i : Fin 16)
  /-- SL_DOWN (R245): A lane of an UP PHY loses signal or lock and the PHY restarts. -/
  | slDown (g : Fin 16) (i : Fin 16)
  /-- SL_RETRAIN (R268): The command sends the PHYs of the masked lanes to OFF so that they restart. -/
  | slRetrain (cmd : Cmd) (group : BitVec 8) (mask : BitVec 16)
  /-- CLIENT_ADD (R254): The command defines a client after the ordered checks and places it at its tick. -/
  | clientAdd (cmd : Cmd) (a : ClientAddArgs)
  /-- CLIENT_MODIFY (R257): The command changes a client's class between C and D, or its line sink slots. -/
  | clientModify (cmd : Cmd) (client : BitVec 16) (what : BitVec 8) (cls : BitVec 8) (auto : BitVec 8) (copy : BitVec 8) (mask : BitVec 128)
  /-- CLIENT_DELETE (R255): The command removes a client and frees its slot lanes and line slots. -/
  | clientDelete (cmd : Cmd) (client : BitVec 16)
  /-- RECENTRE (R259): A smoothing buffer leaves its target by more than 64 words and recentres. -/
  | recentre (c : Fin 512)
  /-- HOLD_OFF_EXPIRY (R289): A defect persists for HOLD_OFF ticks, so the switch request acts. -/
  | holdOffExpiry (c : Fin 512)
  /-- WTR_EXPIRY (R289): WTR_LEFT reaches 0 and the active route returns to PREF. -/
  | wtrExpiry (c : Fin 512)
  /-- SUBFRAME_SELECT (R286): The selector delivers a sub-frame's words from the active copy, with word repair. -/
  | subframeSelect (c : Fin 512) (c0 : Nat) (c1 : Nat) (one : Nat) (both : Nat)
  /-- DELAY_EXCESS (R280): |D| exceeds 5 ms on 8 consecutive paired frames, so the client enters EXCESS. -/
  | delayExcess (c : Fin 512)
  /-- DELAY_RETURN (R280): |D| is at most 4.9 ms on 8 consecutive paired frames, so the client returns to PROTECTED. -/
  | delayReturn (c : Fin 512)
  /-- D_SIGN_REVERSE (R290): The sign of D reverses on 8 paired frames, so the store is rewritten from the new earlier route. -/
  | dSignReverse (c : Fin 512)
  /-- SINGLE_TIMEOUT (R290): One route alone carries the tag for 600 ticks, so the client enters SINGLE. -/
  | singleTimeout (c : Fin 512)
  /-- TAG_LOSS_TIMEOUT (R290): Neither route carries the tag for 600 ticks, so the client returns to WAIT. -/
  | tagLossTimeout (c : Fin 512)
  /-- PROT_SET (R298): The command sets the protection parameters of a Class B client. -/
  | protSet (cmd : Cmd) (client : BitVec 16) (flags : BitVec 8) (uncThr : BitVec 8) (holdOff : BitVec 16) (wtr : BitVec 32)
  /-- PROT_REQ (R298): The command places or clears a FORCE or MANUAL request. -/
  | protReq (cmd : Cmd) (client : BitVec 16) (request : BitVec 8)
  /-- GD_TRAINING_DONE (R294): All 24 GDDR6 channels are trained and READY sets. -/
  | gdTrainingDone
  /-- GD_RETRAIN (R295): A channel's temperature moves beyond RETRAIN_DT, so it is retrained in slices. -/
  | gdRetrain (ch : Fin 24)
  /-- GD_CHANNEL_FAIL (R296): A channel fails in service, READY clears, and Class B clients go to NO_STORE. -/
  | gdChannelFail (ch : Fin 24)
  /-- HALY_SEND (R331): The command queues a host message for the Halyard channel. -/
  | halySend (cmd : Cmd) (octet : BitVec 8) (dst : BitVec 8) (path : BitVec 8) (rep : BitVec 8) (len : BitVec 16) (addr : BitVec 64) (mem : List Byte)
  /-- HALY_TX_BURST (R307): A queued message reaches the head and the subcarrier ramps up and sends the queued messages. -/
  | halyTxBurst (o : Fin 16) (cyc : Fin 6250)
  /-- HALY_RAMP_DOWN_END (R307): The subcarrier ramp down ends and a gated receiver returns to IDLE. -/
  | halyRampDownEnd (o : Fin 16)
  /-- HALY_DETECT (R313): Subcarrier power exceeds DET_THR for 16 symbols and the receiver enters DETECT. -/
  | halyDetect (o : Fin 16)
  /-- HALY_SYNC_FOUND (R313): A correlator finds the sync word, so the receiver timestamps it and starts on the header. -/
  | halySyncFound (o : Fin 16) (level : Int) (errs : Nat) (cyc : Fin 6250)
  /-- HALY_HEADER (R313): The header is decoded, and the message continues if HCRC passes or the receiver returns to DETECT. -/
  | halyHeader (o : Fin 16) (hdr : BitVec 64)
  /-- HALY_BEACON_DUE (R318): Every BEACON ticks, a beacon is queued on each path that meets its local conditions. -/
  | halyBeaconDue (o : Fin 16)
  /-- HALY_HEARING_LOSS (R321): No message has qualified on a path for LOSS_TICKS, so its hearing flag clears. -/
  | halyHearingLoss (o : Fin 16) (path : Fin 2)
  /-- HALY_TTL_EXPIRY (R322): A message waits TTL ticks without a usable path and is dropped. -/
  | halyTtlExpiry (o : Fin 16)
  /-- HALY_SLOT_START (R327): A station's shared-mode slot starts and it transmits what fits. -/
  | halySlotStart (o : Fin 16)
  /-- TRIM_RUN (R363): The command requests a trim run of an octet, slot group or housekeeping converter. -/
  | trimRun (cmd : Cmd) (target : BitVec 8)
  /-- TRIM_TEMP_CHECK (R341): Every 100 ticks, the temperature is compared with the last run's and a run is requested if it differs by more than TRIM_DT. -/
  | trimTempCheck (u : Fin 34)
  /-- TRIM_START (R344): An admitted trim run starts once the 10,000-tick spacing allows. -/
  | trimStart (u : Fin 34)
  /-- TRIM_DONE (R344): The trim run ends and posts its quality figures. -/
  | trimDone (u : Fin 34)
  /-- PLANNER_RUN (R353): Once per second the Margin Planner reads the ageing sources, projects margins and acts. -/
  | plannerRun
  /-- JRN_HOURLY (R360): Firmware writes an HOURLY journal entry every 360,000,000 ticks. -/
  | jrnHourly
  /-- JRN_FLASH_WRITE (R361): A journal entry write to flash ends, retried twice on failure before JRN_FAIL. -/
  | jrnFlashWrite (ok : Bool)
  /-- JRN_READ (R363): The command copies journal entries to host memory. -/
  | jrnRead (cmd : Cmd) (region : BitVec 8) (seq : BitVec 32) (count : BitVec 16) (addr : BitVec 64)
  /-- RING_OP_READ (R374): The READ operation copies a ring's context into the RING_CTX registers. -/
  | ringOpRead (ring : Fin 65536)
  /-- RING_OP_CREATE (R376): The CREATE operation creates a ring from the staging values. -/
  | ringOpCreate (ring : Fin 65536)
  /-- RING_OP_DESTROY (R375): The DESTROY operation destroys a ring unless it is in use. -/
  | ringOpDestroy (ring : Fin 65536)
  /-- RING_OP_RESYNC (R398): The RESYNC operation sets an SQ's HEAD and expected HSEQ at once. -/
  | ringOpResync (ring : Fin 65536) (head : BitVec 16)
  /-- SQ_DOORBELL (R379): A BAR2 doorbell moves an SQ's TAIL and records DB_HSEQ. -/
  | sqDoorbell (ring : Fin 65536) (v : BitVec 64)
  /-- HEAD_DOORBELL (R379): A BAR2 doorbell moves a device-written ring's HEAD and frees entries. -/
  | headDoorbell (ring : Fin 65536) (v : BitVec 64)
  /-- DESCRIPTOR_FETCH (R382): A fetched descriptor passes the ordered checks and is accepted, or fails. -/
  | descriptorFetch (ring : Fin 65538) (bytes : Option (List Byte)) (mem : List Byte)
  /-- COMPLETION_WRITE (R389): A completion is written to the CQ within the tick after its command completes. -/
  | completionWrite
  /-- EVENT_WRITE (R392): An event is written to every EQ that subscribes to its category. -/
  | eventWrite
  /-- TELEMETRY_WRITE (R403): A telemetry record is written to a TQ every PERIOD ticks. -/
  | telemetryWrite
  /-- MSIX_SIGNAL (R393): A ring signals its MSI-X vector when MOD_COUNT or MOD_TICKS is met. -/
  | msixSignal (ring : Fin 65536)
  /-- AUDIT (R399): The command snapshots ring states to host memory and optionally freezes SQs. -/
  | audit (cmd : Cmd) (first : BitVec 16) (count : BitVec 24) (freeze : BitVec 8) (addr : BitVec 64)
  /-- RING_RESYNC (R398): The command resynchronises an SQ at its tick. -/
  | ringResync (cmd : Cmd) (ring : BitVec 16) (head : BitVec 16) (expHseq : BitVec 16)
  /-- NOP (R401): The command does nothing and completes. -/
  | nop (cmd : Cmd)
  /-- LINK_DOWN (R372): The PCIe link goes down, fetching stops and completions are held. -/
  | linkDown
  /-- LINK_UP (R372): The link returns, held completions are written first, and LINK_DOWN is posted. -/
  | linkUp
  /-- FUNCTION_LEVEL_RESET (R371): A Function Level Reset destroys every ring context. -/
  | functionLevelReset
  /-- PERST_N (R552): PERST_N resets the PCIe link and endpoint with the effects of a Function Level Reset. -/
  | perstN (low : Bool)
  /-- D3HOT_ENTRY (R608): In D3hot the endpoint stops fetching and holds completions. -/
  | d3hotEntry
  /-- D0_RETURN (R608): A return to D0 resumes fetching and posts LINK_DOWN. -/
  | d0Return
  /-- PAIR_LOCK_FREE (R412): PAIR_LOCK becomes free after the filter and a standby with AUTO acquires it. -/
  | pairLockFree
  /-- PAIR_INIT_TIMER (R412): In INIT, the line stays free for 1 ms or 100 ms, so the device acquires it or posts PAIR_UNSAFE. -/
  | pairInitTimer
  /-- PAIR_LOCK_TAKEN (R413): PAIR_LOCK is low while not driven by this device, so it goes to SYNCING. -/
  | pairLockTaken
  /-- MIRROR_RX (R422): An accepted MIRROR's records are applied in tick order, or a gap sends the receiver to SYNCING. -/
  | mirrorRx (bytes : List Byte) (cyc : Fin 6250)
  /-- STATUS_RX (R422): The holder accepts a STATUS that acknowledges MIRROR content. -/
  | statusRx (bytes : List Byte) (cyc : Fin 6250)
  /-- STATUS_SEND (R420): A non-holder with no MIRROR by 9.0 µs sends a STATUS. -/
  | statusSend
  /-- HB_LOST (R422): No message is accepted for PAIR_MISS_TICKS ticks, so HB_LOST asserts. -/
  | hbLost
  /-- FENCE (R414): The holder misses FENCE_TICKS heartbeats, so it stops carrying and releases the pair pins. -/
  | fence
  /-- PAIR_TAKEOVER (R412): The command acquires a free PAIR_LOCK at its tick edge. -/
  | pairTakeover (cmd : Cmd) (force : BitVec 8)
  /-- PAIR_RELEASE (R432): The command makes the holder stop carrying and release the pins at its tick. -/
  | pairRelease (cmd : Cmd)
  /-- RELEASE_CHECK (R432): 100 µs after a release the lock is still free, so the device reacquires it and the command fails. -/
  | releaseCheck
  /-- PAIR_AUDIT (R438): The command writes ring records from the partner ring image. -/
  | pairAudit (cmd : Cmd) (first : BitVec 16) (count : BitVec 24) (addr : BitVec 64)
  /-- PAIR_RESYNC (R423): The command starts a bulk synchronisation. -/
  | pairResync (cmd : Cmd)
  /-- SHRD_LOOP (R419): The command sets a Shroud loop. -/
  | shrdLoop (cmd : Cmd) (mode : BitVec 8) (force : BitVec 8)
  /-- SHRD_CLOCK_LOCK (R417): The Shroud clock lane locks and the data lanes start their search. -/
  | shrdClockLock
  /-- SHRD_LANE_RESULT (R417): A Shroud data lane's sync-header interval result is posted and the search steps on. -/
  | shrdLaneResult (n : Fin 8) (coarse : Bool) (exact : Bool) (errs : BitVec 16)
  /-- SHRD_UP (R417): The lanes deskew on a marker block and the link is UP. -/
  | shrdUp (skews : List Int)
  /-- SHRD_LANE_LOSS (R418): A lane has too many invalid headers on two ticks, so it loses LOCK and the link goes DOWN. -/
  | shrdLaneLoss (n : Fin 8)
  /-- SHRD_ALIGN_FAIL (R418): A lane has no LOCK after 255 ticks of search, so the link restarts. -/
  | shrdAlignFail (n : Fin 8)
  /-- CHK_START (R436): Writing START loads the initial value of a check channel. -/
  | chkStart (ch : Fin 32) (v : BitVec 64)
  /-- CHK_DATA_WRITE (R436): Writing CHK_DATA feeds eight bytes into a check channel. -/
  | chkDataWrite (ch : Fin 32) (v : BitVec 64)
  /-- CHK_TAIL_WRITE (R436): Writing CHK_TAIL feeds the final bytes and posts the result. -/
  | chkTailWrite (ch : Fin 32) (v : BitVec 64)
  /-- CHK_VAL_WRITE (R433): Writing CHK_VAL in CONTEXT mode restores a running value. -/
  | chkValWrite (ch : Fin 32) (v : BitVec 64)
  /-- LOS_LONG (R447): RAW_LOS is held for LOS_MAX ticks and a LOS_LONG fault is counted. -/
  | losLong (slot : Bool) (u : Fin 16) (l : Fin 16)
  /-- RETRY_TIMEOUT (R449): A retry does not complete within its limit and becomes a fault. -/
  | retryTimeout (k : Fin 3) (u : Fin 16) (l : Fin 16)
  /-- FLT_CLEAR (R476): The command empties a fault manager's window and ends PERMANENT. -/
  | fltClear (cmd : Cmd) (kind : BitVec 8) (unit : BitVec 8) (lane : BitVec 8)
  /-- MEM_TEST (R476): The command performs a split write, read or exit on one SRAM word. -/
  | memTest (cmd : Cmd) (op : BitVec 8) (die : BitVec 8) (macroIx : BitVec 16) (word : BitVec 16) (data : BitVec 64) (check : BitVec 8)
  /-- MEM_TEST_WRITE (R463): OP = WRITE in MEM_TEST_CTL stores data and check bits separately. -/
  | memTestWrite (v : BitVec 64)
  /-- MEM_TEST_READ (R463): OP = READ in MEM_TEST_CTL returns a word's data, check byte and syndrome. -/
  | memTestRead (v : BitVec 64)
  /-- MEM_TEST_EXIT (R463): OP = EXIT in MEM_TEST_CTL ends the test and rewrites the tested words. -/
  | memTestExit (v : BitVec 64)
  /-- TABLE_REFRESH (R457): Firmware visits a long-lived table word and rewrites it from its copy as needed. -/
  | tableRefresh (addr : Nat) (copyOk : Bool)
  /-- MCHECK (R455): An uncorrectable read by a control core raises a machine check. -/
  | mcheck (core : Fin 4) (addr : BitVec 64) (recovers : Bool)
  /-- INPUT_EDGE (R468): A conditioned input holds a new level for WIDTH and the edge is accepted. -/
  | inputEdge (x : Fin 21) (asserted : Bool)
  /-- INPUT_STORM (R469): An input exceeds STORM_MAX edges in a tick and its IN_STORM bit latches. -/
  | inputStorm (x : Fin 21)
  /-- WDT_EXPIRE (R473): TIMEOUT periods pass without a kick, so the watchdog sets LAST_FAULT, starts the last ramp and resets. -/
  | wdtExpire
  /-- SMBUS_STATUS_READ (R475): An SMBus Block Read with code 0x20 returns the 32-byte status page. -/
  | smbusStatusRead
  /-- EDAC_QUEUE (R487): The command appends codes to an engine DAC channel queue. -/
  | edacQueue (cmd : Cmd) (channel : BitVec 16) (count : BitVec 8) (flush : BitVec 8) (codes : BitVec 128)
  /-- SPAN_WRITE (R488): A SPAN write lands, drives the output to 0 V and starts the span-change interval. -/
  | spanWrite (ch : Fin 432) (v : BitVec 64)
  /-- SPAN_SETTLE (R488): At t + 2 the new span takes effect with the code at the head of the queue. -/
  | spanSettle (ch : Fin 432)
  /-- EDAC_RAMP (R490): The command starts a preloaded ramp slot. -/
  | edacRamp (cmd : Cmd) (slot : BitVec 8)
  /-- EDAC_RAMP_DONE (R490): A preloaded ramp reaches its last step. -/
  | edacRampDone (k : Fin 16)
  /-- ENG_CLR_N_EDGE (R492): ENG_CLR_N changes after its filter, so the clear comes into force or is released. -/
  | engClrNEdge (k : Fin 4) (low : Bool)
  /-- LAST_RAMP (R497): The command starts the last-ramp sequencer. -/
  | lastRamp (cmd : Cmd)
  /-- LAST_RAMP_STEP (R497): The sequencer applies its next step per always-on period. -/
  | lastRampStep
  /-- LAST_RAMP_DONE (R498): One period after the last step, the sequencer enters DONE. -/
  | lastRampDone
  /-- LAST_RAMP_RELEASE (R498): The command ends DONE and releases the channels. -/
  | lastRampRelease (cmd : Cmd)
  /-- HK_CONVERSION (R505): A housekeeping conversion ends and its corrected result is written. -/
  | hkConversion (h : Fin 2) (kind : Fin 3) (raw : List (BitVec 16)) (raw2 : List (BitVec 16)) (cyc : Fin 6250)
  /-- HK_SEQ_RESTART (R517): Writing RESTART restarts the main loop from entry 0. -/
  | hkSeqRestart (h : Fin 2)
  /-- ENG_I2C (R508): The command runs an engine I2C transaction. -/
  | engI2c (cmd : Cmd) (bus : BitVec 8) (addr : BitVec 8) (wcount : BitVec 8) (rcount : BitVec 8) (rstart : BitVec 8) (wdata : BitVec 512)
  /-- I2C_TRANSACTION_END (R509): An I2C transaction ends with data or a NAK. -/
  | i2cTransactionEnd (k : Fin 4) (nak : Option (BitVec 8)) (data : List Byte)
  /-- I2C_RECOVER (R509): SCL or SDA is held low beyond STRETCH_MAX, so the controller recovers the bus. -/
  | i2cRecover (k : Fin 4) (stuck : Bool)
  /-- PWR_REQ (R523): The command requests a domain state change. -/
  | pwrReq (cmd : Cmd) (dom : BitVec 8) (target : BitVec 8)
  /-- PWR_DELAY_EXPIRY (R523): A DELAY answer expires and the request is evaluated again. -/
  | pwrDelayExpiry (dom : Fin 43)
  /-- DOMAIN_ENTRY_COMPLETE (R520): A domain reaches Retention or Off and the held request is taken. -/
  | domainEntryComplete (dom : Fin 43)
  /-- DOMAIN_EXIT_COMPLETE (R518): A domain reaches On after its exit time. -/
  | domainExitComplete (dom : Fin 43)
  /-- WAKE_SIG (R524): An energy detector sees signal and wakes its domain. -/
  | wakeSig (dom : Fin 43)
  /-- WAKE_TICK (R524): TICK_COUNT reaches WAKE_TICK and the domain wakes. -/
  | wakeTick (dom : Fin 43)
  /-- CORE_CLK (R528): The control cluster moves between the oscillator and the system PLL. -/
  | coreClk (pll : Bool)
  /-- PMB_POLL (R529): Every POLL_TICKS ticks, the regulators are polled. -/
  | pmbPoll (res : List (Option (BitVec 64)))
  /-- AVS_STEP (R531): Every 100 ticks, the VDD_CORE setting moves toward the AVS target. -/
  | avsStep
  /-- ENG_THERM_READ (R532): Every 100 ticks, firmware reads each engine's temperature. -/
  | engThermRead (o : Fin 16) (data : Option (BitVec 16))
  /-- ORDERLY_STOP (R541): The critical level, reached on 2 readings, starts the orderly stop. -/
  | orderlyStop
  /-- ORDERLY_STOP_DOMAIN_OFF (R541): After the last ramp, one domain per 10 µs goes Off without asking its agent. -/
  | orderlyStopDomainOff
  /-- REEF_GRACE (R537): The stage timer reaches GRACE and Reef enters stage 2, shedding Class D. -/
  | reefGrace
  /-- REEF_GRACE2 (R537): The stage timer reaches GRACE2 and Reef enters stage 3, shedding Class C. -/
  | reefGrace2
  /-- REEF_HOLD (R537): HOLD trigger-free ticks pass and Reef drops one stage. -/
  | reefHold
  /-- REEF_REQ (R544): The command sets or clears the MANUAL trigger. -/
  | reefReq (cmd : Cmd) (manual : BitVec 8)
  /-- PMB_XFER (R544): The command runs a PMBus transaction with a regulator. -/
  | pmbXfer (cmd : Cmd) (entry : BitVec 8) (code : BitVec 8) (wcount : BitVec 8) (rcount : BitVec 8) (page : BitVec 8) (wdata : BitVec 256)
  /-- PWR_STOP (R544): The command starts the orderly stop. -/
  | pwrStop (cmd : Cmd)
  /-- POWER_ON_RESET (R552): VDD_AON rises through its threshold and everything is reset. -/
  | powerOnReset
  /-- RESET_N (R552): RESET_N low for 1 µs resets every domain except AON. -/
  | resetN (low : Bool)
  /-- RESET_RELEASE (R554): A device reset is released and the start-up sequence runs. -/
  | resetRelease (role : Bool) (fuseOk : Bool) (flashOk : Bool) (certOk : Bool) (hang : Bool) (supply : BitVec 4) (rows : List (Nat × Nat × Nat × Bool)) (checker : List (Nat × Nat))
  /-- BOOT_TIMEOUT (R565): Step 6 is not reached within 1 s, so the device enters recovery. -/
  | bootTimeout (role : Bool)
  /-- VDD_CORE_LOSS (R411): VDD_CORE is lost and the arbiter releases the pair pins within 50 µs. -/
  | vddCoreLoss
  /-- VDD_AON_LOSS (R411): VDD_AON is lost and the pair pins are released. -/
  | vddAonLoss
  /-- ATTEST (R568): The command writes a signed attestation report. -/
  | attest (cmd : Cmd) (nonce : BitVec 256) (addr : BitVec 64)
  /-- CERT_READ (R573): The command copies the device certificate to host memory. -/
  | certRead (cmd : Cmd) (addr : BitVec 64) (max : BitVec 16)
  /-- IMAGE_WRITE (R573): The command writes image data into a slot. -/
  | imageWrite (cmd : Cmd) (slot : BitVec 8) (offset : BitVec 32) (len : BitVec 32) (addr : BitVec 64) (mem : List Byte)
  /-- IMAGE_COMMIT (R573): The command verifies a slot and makes it preferred. -/
  | imageCommit (cmd : Cmd) (slot : BitVec 8)
  /-- ROLLBACK_ADVANCE (R563): The command blows rollback fuses up to the running version. -/
  | rollbackAdvance (cmd : Cmd) (force : BitVec 8)
  /-- KEY_UPDATE (R570): The command enrols or revokes a customer key. -/
  | keyUpdate (cmd : Cmd) (addr : BitVec 64) (mem : List Byte)
  /-- TASK_LOAD (R572): The command verifies and loads a tick-task image. -/
  | taskLoad (cmd : Cmd) (task : BitVec 8) (len : BitVec 32) (addr : BitVec 64) (mem : List Byte)
  /-- TASK_SET (R572): The command starts, stops or resumes a tick task. -/
  | taskSet (cmd : Cmd) (task : BitVec 8) (action : BitVec 8) (mode : BitVec 8) (budget : BitVec 16)
  /-- FLASH_READ (R564): OP = READ in SEC_FLASH_CTL reads 8 bytes of flash in recovery. -/
  | flashRead (v : BitVec 64)
  /-- FLASH_PROGRAM (R564): OP = PROGRAM in SEC_FLASH_CTL programs 8 bytes of flash in recovery. -/
  | flashProgram (v : BitVec 64)
  /-- FLASH_ERASE (R564): OP = ERASE in SEC_FLASH_CTL erases a 64 KiB sector in recovery. -/
  | flashErase (v : BitVec 64)
  /-- FLASH_OP_END (R615): A flash window operation ends and BUSY clears. -/
  | flashOpEnd
  /-- PAT_SET (R585): The command sets a lane's pattern generator and checker. -/
  | patSet (cmd : Cmd) (ptype : BitVec 8) (index : BitVec 8) (lane : BitVec 8) (gen : BitVec 8) (chk : BitVec 8) (sqHalf : BitVec 8) (force : BitVec 8)
  /-- LOOP_SET (R582): The command sets a lane's loopback. -/
  | loopSet (cmd : Cmd) (ptype : BitVec 8) (index : BitVec 8) (lane : BitVec 8) (loop : BitVec 8) (force : BitVec 8)
  /-- PAT_LOCK (R581): The checker sees 1,024 bits without error and sets LOCK. -/
  | patLock (ptype : Fin 4) (index : Fin 16) (lane : Fin 16)
  /-- PAT_LOCK_LOSS (R581): Over 256 of 1,024 bits are in error, so the checker loses LOCK and reseeds. -/
  | patLockLoss (ptype : Fin 4) (index : Fin 16) (lane : Fin 16)
  /-- LOOP_SLIP (R583): The far-end loop buffer reaches an end and slips by 256. -/
  | loopSlip (ptype : Fin 4) (index : Fin 16) (lane : Fin 16)
  /-- HIST_CLEAR (R589): Writing CLEAR zeroes a histogram unit at the tick edge. -/
  | histClear (u : Fin 16)
  /-- HIST_SAMPLE (R590): A marker's output crossing yields a histogram sample. -/
  | histSample (u : Fin 16) (x : Option (BitVec 32))
  /-- PMU_SAMPLE (R592): Every PERIOD-th occurrence of the event on a sampled core writes a sample. -/
  | pmuSample (core : Fin 4) (pc : BitVec 64) (addr : BitVec 64) (word : BitVec 32) (lat : BitVec 32) (flags : BitVec 2)
  /-- SAMPLE_RECORD (R593): With 2 × BATCH samples buffered, a sample record is written to the TQ. -/
  | sampleRecord
  /-- CAP_START (R595): The command starts a converter capture on a line lane. -/
  | capStart (cmd : Cmd) (lineLane : BitVec 8) (src : BitVec 8) (len : BitVec 16) (buf : BitVec 8)
  /-- CAP_STAGING_END (R594): Capture staging ends and the drain to GDDR6 starts. -/
  | capStagingEnd (y : Fin 4) (data : List Byte)
  /-- CAP_DONE (R595): The drain ends, VALID sets and CAP_DONE is posted. -/
  | capDone (y : Fin 4)
  /-- CAP_READ (R597): The command copies capture buffer data to host memory. -/
  | capRead (cmd : Cmd) (buf : BitVec 8) (offset : BitVec 32) (len : BitVec 32) (addr : BitVec 64)
  /-- REGISTER_WRITE (R12): A BAR0 write to a register with no row of its own is merged, checked and staged or applied. -/
  | registerWrite (addr : Nat) (bytes : List Byte) (fw : Bool)
  /-- LOW_HALF_READ (R11): A low-half 4-byte read latches the high half into the shadow. -/
  | lowHalfRead (addr : Nat) (size : Nat)
  /-- HIGH_HALF_READ (R466): A high-half read returns the shadow or the live value. -/
  | highHalfRead (addr : Nat) (size : Nat)
  /-- CAPTURING_READ (R14): A read that captures an RC field clears it. -/
  | capturingRead (addr : Nat)
  /-- LATCHING_READ (R607): A read of a latching register latches its dependent registers. -/
  | latchingRead (addr : Nat) (half : Bool) (cyc : Fin 6250)
  /-- ERR_LOG_READ (R613): A read of GLB_ERR_A pops the oldest log entry and latches its B and C. -/
  | errLogRead (half : Bool)
  /-- UNSUPPORTED_READ (R606): A misaligned or unsupported-size read completes with Unsupported Request. -/
  | unsupportedRead (addr : Nat) (size : Nat)
  /-- GLB_LOCK_SET (R611): Setting LOCK makes every RWL field read-only. -/
  | glbLockSet
  /-- AON_PERIOD (R62): While the tick is stopped, each 10 µs period of the always-on oscillator paces the watchdog kick, heartbeat and thermal scan. -/
  | aonPeriod
  /-- TONE_LOSS (R202): The forwarded-clock tone recovery loop unlocks and TONE_LOCK clears at once. -/
  | toneLoss (o : Fin 16)
  /-- STD_AM_LOCK (R218): A standard-mode lane reaches alignment-marker lock and the PHY deskews its lanes, giving LOCK. -/
  | stdAmLock (o : Fin 16)
  /-- CONV_DONE_REPEAT (R222): In CONVERTED, N resends CONV_DONE once per CONV_TIMEOUT until F's LANE_STATE shows 4 for lane l. -/
  | convDoneRepeat (o : Fin 16)
  /-- HALY_DETECT_LOSS (R313): In DETECT, the subcarrier power stays below DET_THR for 64 consecutive symbols and the receiver returns to IDLE. -/
  | halyDetectLoss (o : Fin 16)
  /-- SLOT_RAW_LOS (R447): A slot lane's RAW_LOS asserts or clears, which feeds the slot fault manager's LOS timing. -/
  | slotRawLos (g : Fin 16) (i : Fin 16) (asserted : Bool)
  /-- ECC_ERROR (R454): A hardware reader finds a stored or die-to-die word corrected or uncorrectable, so it corrects or poisons the word, counts it and posts ECC_UNCORR. -/
  | eccError (space : Fin 8) (idx : BitVec 8) (addr : BitVec 64) (data : BitVec 64) (chk : BitVec 8) (use : Fin 7) (obj : Nat)
  /-- ENG_SUPPLY_WAIT_END (R530): The engine regulators report POWER_GOOD, or 1,000 ticks pass without it, so the octet exit continues or is refused with SUPPLY. -/
  | engSupplyWaitEnd (o : Fin 16) (good : Bool)
  /-- PMB_TRANSACTION_END (R529): A PMBus transaction ends with data, a NAK, or the 25 ms timeout, and a PMB_XFER completes. -/
  | pmbTransactionEnd (outcome : Fin 3) (data : List Byte)
  deriving DecidableEq, Repr

end Sys2Proof
end

