-- ==== Sys2Proof/Config.lean ====
section
/-!
DEFINITION. The values that the manual leaves open: constants without a body, so that no proof can rest on one of them.
Each is named in the assumption log (log entries 1 and 2).
-/

namespace Sys2Proof.Config

/-- A free value: the number that the device happens to produce where the manual states none.  The state's counter
`freeCtr` picks a fresh one for every use (log entry 1). -/
opaque freeNat : Nat → Nat

/-- A free signed value, drawn as `freeNat` is (log entry 1). -/
opaque freeInt : Nat → Int

/-- The factory scaling of a housekeeping channel into its units (R505): the channel, the span of its engine DAC channel for
a read-back, and the corrected code (log entry 2). -/
opaque hkScale : Nat → Nat → Int → Int

/-- The normal budget that firmware publishes in TICK_BUDGET for category `k`, in ns (R56, R528): the manual gives no number (log
entry 2). -/
opaque tickBudget : Nat → Nat

/-- The measurement of the boot ROM (R568) and the two Vununal image-key hashes in it (R562): the manual gives no value (log entry
2). -/
opaque romHash : Nat

/-- The Vununal image-key hashes, 0 and 1 (log entry 2). -/
opaque vendorKey : Nat → Nat

/-- The fused 256-bit seed of the device key, and the salt and the info of its HKDF (R567): no interface reads the first, and the manual gives
no value of the others (log entry 2). -/
opaque fuseSeed : Nat
opaque hkdfSalt : List (BitVec 8)
opaque hkdfInfo : List (BitVec 8)

/-- The target fill of a client's ingress buffer in words, by its slots (R258: fixed by design, without a figure; log entry 2). -/
opaque fillTarget : Nat → Nat

/-- The factor by which a swing code scales the transmit levels, in 2^-16 (R85: no figure is given; log entry 2). -/
opaque swingScale : Nat → Nat

/-- The 66-bit blocks from one alignment marker to the next on a PHY of an Ethernet rate (R250) at a slot RATE, its marker included; 0 where it
has none (R248: as IEEE 802.3 defines; log entry 2). -/
opaque amPeriod : Nat → Nat → Nat

/-- Tap `i` of a monitor's FIR set other than the flat average: low-pass or narrow low-pass (R145); the manual gives no figures (log entry
2). -/
opaque firTap : Nat → Nat → Int

/-- Tap `i` of the FIR coefficient set that MON_CTL.FIR_SEL selects (R145): the flat average weighs all alike. -/
def firCoef (sel i : Nat) : Int := if sel = 2 then 1 else firTap sel i

end Sys2Proof.Config
end

