-- ==== Sys2Proof/Machine/Crc.lean ====
section
/-!
DEFINITION. The cyclic redundancy checks of the device (R381, R433): a bitwise shift register, reflected or not.
-/

namespace Sys2Proof.Machine

/-- One bit of a reflected CRC. -/
def crcBitR (poly : Nat) (r : Nat) : Nat := if r % 2 = 1 then (r / 2) ^^^ poly else r / 2

/-- One byte of a reflected CRC with the given (reflected) polynomial. -/
def crcByteR (poly r b : Nat) : Nat :=
  let f := crcBitR poly
  f (f (f (f (f (f (f (f (r ^^^ b))))))))

/-- One bit of a CRC of width `w` that shifts left. -/
def crcBitL (w poly r : Nat) : Nat :=
  if 2 ^ (w - 1) ≤ r then ((2 * r) % 2 ^ w) ^^^ poly else 2 * r

/-- One byte of a left-shifting CRC of width `w`, most significant bit first. -/
def crcByteL (w poly r b : Nat) : Nat :=
  let f := crcBitL w poly
  f (f (f (f (f (f (f (f (r ^^^ (b * 2 ^ (w - 8))))))))))

/-- CRC-32C over bytes: reflected, initial value and final exclusive-or all ones. -/
def crc32c (bs : List Byte) : Nat :=
  (bs.foldl (fun r b => crcByteR 0x82F63B78 r b.toNat) 0xFFFFFFFF) ^^^ 0xFFFFFFFF

/-- The IEEE 802.3 CRC-32 over bytes: reflected, initial value and final exclusive-or all ones. -/
def crc32 (bs : List Byte) : Nat :=
  (bs.foldl (fun r b => crcByteR 0xEDB88320 r b.toNat) 0xFFFFFFFF) ^^^ 0xFFFFFFFF

/-- CRC-16-CCITT over bytes with a given initial value, most significant bit first. -/
def crc16 (init : Nat) (bs : List Byte) : Nat := bs.foldl (fun r b => crcByteL 16 0x1021 r b.toNat) init

end Sys2Proof.Machine
end

