-- ==== Sys2Proof/Machine/FrameBits.lean ====
section
/-!
DEFINITION. The bits of a Forist frame (R157 to R180): scrambler, outer and inner encoders, symbol mapping, lane markers,
justification entries, calendar parts and the frame-count field.  Pure functions, apart from the state.
-/

namespace Sys2Proof.Machine

/-! ## Fields as numbers -/

/-- The bits of a number, bit 0 first. -/
def natBits : Nat → Nat → List Bool
  | 0, _ => []
  | n + 1, v => decide (v % 2 = 1) :: natBits n (v / 2)

/-- The number that bits spell, bit 0 first. -/
def bitsNat : List Bool → Nat
  | [] => 0
  | b :: l => (if b then 1 else 0) + 2 * bitsNat l

/-- Bits `lo` to `lo + w - 1` of a number. -/
def slice (v lo w : Nat) : Nat := v / 2 ^ lo % 2 ^ w

/-- Fields placed by their lowest bit and width, summed. -/
def packed (l : List (Nat × Nat × Nat)) : Nat := l.foldl (fun n x => n + x.2.2 % 2 ^ x.2.1 * 2 ^ x.1) 0

/-- The bytes of a field of whole bytes. -/
def fieldBytes (v lo w : Nat) : List Byte := leBytes (w / 8) (slice v lo w)

/-! ## Scrambler (R160; the stage that gives the sequence is log entry 30) -/

/-- One step of the generator of x^31 + x^28 + 1: its output bit and the next state. -/
def scrStep (s : Nat) : Bool × Nat :=
  let b := (s / 2 ^ 30) % 2 != (s / 2 ^ 27) % 2
  (b, (2 * s + (if b then 1 else 0)) % 2 ^ 31)

/-- The generator's load for a lane index (R160). -/
def scrLoad (idx : Nat) : Nat := 0x7FFFFF00 + idx

/-- The generator after `n` steps. -/
def scrSkip : Nat → Nat → Nat
  | 0, s => s
  | n + 1, s => scrSkip n (scrStep s).2

/-- Payload bits scrambled from a state; the first `clear` bits are not XORed but advance the generator. -/
def scramble : Nat → Nat → List Bool → List Bool
  | _, _, [] => []
  | clear, s, b :: l =>
    let (x, s') := scrStep s
    (if clear = 0 then b != x else b) :: scramble (clear - 1) s' l

/-! ## Outer code (R161) -/

/-- Doubling in GF(2^10) with x^10 + x^3 + 1. -/
def gfDouble (a : Nat) : Nat := if 512 ≤ a then ((2 * a) % 1024) ^^^ 9 else 2 * a

/-- Multiplication in GF(2^10), over the bits of the second factor from the top. -/
def gfMulBits : List Bool → Nat → Nat → Nat
  | [], _, acc => acc
  | b :: l, a, acc => gfMulBits l a (if b then gfDouble acc ^^^ a else gfDouble acc)

/-- Multiplication in GF(2^10). -/
def gfMul (a b : Nat) : Nat := gfMulBits (natBits 10 b).reverse a 0

/-- alpha to the power `i`. -/
def gfAlpha : Nat → Nat
  | 0 => 1
  | i + 1 => gfDouble (gfAlpha i)

/-- A polynomial (highest coefficient first) times (x - c). -/
def polyTimes (p : List Nat) (c : Nat) : List Nat :=
  (p ++ [0]).zipWith (fun a b => a ^^^ b) (0 :: p.map (gfMul c))

/-- The generator of a code with `n` check symbols: the product of (x - alpha^i), highest coefficient first. -/
def rsGen (n : Nat) : List Nat := (List.range n).foldl (fun p i => polyTimes p (gfAlpha i)) [1]

/-- One step of the division: the remainder takes the next message symbol. -/
def rsStep (g : List Nat) (r : List Nat) (m : Nat) : List Nat :=
  let q := r.headD 0 ^^^ m
  (r.tail ++ [0]).zipWith (fun a b => a ^^^ gfMul q b) g

/-- Parity symbols of a message, in sending order (R161). -/
def rsParity (n : Nat) (msg : List Nat) : List Nat :=
  let g := (rsGen n).tail
  msg.foldl (rsStep g) (List.replicate n 0)

/-- Ten-bit symbols of a bit string, the first bit of each its bit 0. -/
def symbols10 : Nat → List Bool → List Nat
  | 0, _ => []
  | n + 1, b => bitsNat (b.take 10) :: symbols10 n (b.drop 10)

/-- The 5,400 bits of a codeword: message, then parity, each symbol bit 0 first (R161). -/
def outerEncode (bits : List Bool) : List Bool :=
  bits ++ (rsParity 40 (symbols10 500 bits)).flatMap (natBits 10)

/-! ## Inner code and symbols (R162, R163) -/

/-- State of the inner encoder: d0, d1, m', m''. -/
structure InnerSt where
  d0 : Bool := false
  d1 : Bool := false
  m1 : Bool := false
  m2 : Bool := false
  deriving DecidableEq, Repr

/-- The symbol value of (m, b) (R163). -/
def pamOf (m b : Bool) : Nat :=
  match m, b with
  | false, false => 0
  | false, true => 1
  | true, true => 2
  | true, false => 3

/-- One group of 15 bits (R162): eight symbols and the next state. -/
def innerGroup (st : InnerSt) (u : List Bool) : List Nat × InnerSt :=
  let m := fun i => u.getD (2 * i) false
  let b := fun i => u.getD (2 * i + 1) false
  let prev := fun i => if i = 0 then st.m2 else if i = 1 then st.m1 else m (i - 2)
  let p := (List.range 7).foldl (fun p i => (p != b i) != prev i) (st.d0 != st.d1)
  let b7 := p != m 5
  let syms := (List.range 7).map (fun i => pamOf (m i) (b i)) ++ [pamOf (m 7) b7]
  (syms, { d1 := st.d0, d0 := b7 != m 7, m1 := m 7, m2 := m 6 })

/-- The groups of a codeword in order. -/
def innerEncode : Nat → InnerSt → List Bool → List Nat
  | 0, _, _ => []
  | n + 1, st, b =>
    let (s, st') := innerGroup st (b.take 15)
    s ++ innerEncode n st' (b.drop 15)

/-- The 2,880 symbols of one codeword: payload bits in, scrambled from generator state `scr` with the first `clear` bits left
(R160 to R163). -/
def codewordSymbols (scr clear : Nat) (payload : List Bool) : List Nat :=
  innerEncode 360 {} (outerEncode (scramble clear scr payload))

/-- Generator steps before overhead codeword `k`: 5,000 for each of the 101 k codewords before it (R158, R160). -/
def overheadSkip (k : Nat) : Nat := 5000 * (101 * k)

/-- The symbols of overhead codeword `k` on a lane whose scrambler index is `idx`; its lane marker is not scrambled. -/
def overheadSymbols (idx k payload : Nat) : List Nat :=
  codewordSymbols (scrSkip (overheadSkip k) (scrLoad idx)) 160 (natBits 5000 payload)

/-! ## Overhead fields (R164 to R180) -/

/-- The marker pattern (R167). -/
def markerPattern : Nat := 0xF3A60C599E1B4D72A58C36E0

/-- A lane marker (R167). -/
def laneMarker (lane bridge tag k : Nat) : Nat :=
  packed [(0, 96, markerPattern), (96, 4, lane), (100, 4, bridge), (104, 16, tag), (120, 3, k)]

/-- CRC8 over the 24 low bits of a justification entry, bit 0 first (R175, log entry 31). -/
def jcCrc (v : Nat) : Nat :=
  (natBits 24 v).foldl (fun r b => crcBitL 8 7 (if b then r ^^^ 128 else r)) 0

/-- A justification entry (R175). -/
def jcEntry (c : Nat) (valid : Bool) : Nat :=
  let v := packed [(0, 18, c), (18, 1, if valid then 1 else 0)]
  v + jcCrc v * 2 ^ 24

/-- C of a justification entry; none where its CRC8 fails or VALID is 0 (R176). -/
def jcRead (e : Nat) : Option Nat :=
  if jcCrc (e % 2 ^ 24) = slice e 24 8 ∧ slice e 18 1 = 1 then some (slice e 0 18) else none

/-- A calendar entry (R177). -/
def calEntry : Option Nat → Nat
  | some tag => tag % 512 + 512
  | none => 0

/-- The tag of a calendar entry; none for a free slot. -/
def calTag (e : Nat) : Option Nat := if slice e 9 1 = 1 then some (e % 512) else none

/-- A calendar part (R180). -/
def calPart (seq : Nat) (ann : Bool) (switchFc p : Nat) (entries : List Nat) : Nat :=
  let v := packed [(0, 8, seq), (8, 1, if ann then 1 else 0), (9, 16, switchFc), (25, 3, p)]
    + packed (entries.zipIdx.map fun e => (64 + 16 * e.2, 16, e.1))
  v + crc32c (leBytes 40 v) * 2 ^ 320

/-- A calendar part passes its CRC. -/
def calPartOk (v : Nat) : Bool := decide (slice v 320 32 = crc32c (leBytes 40 (v % 2 ^ 320)))

/-- The frame-count field (R168). -/
def fcField (fc tick ofs phase loop dom slew hold : Nat) : Nat :=
  let v := packed [(0, 48, fc), (48, 64, tick), (112, 11, ofs), (123, 24, phase), (147, 1, loop), (148, 1, dom),
    (149, 1, slew), (150, 1, hold)]
  v + crc32c (leBytes 60 v) * 2 ^ 480

/-- The frame-count field passes its CRC. -/
def fcFieldOk (v : Nat) : Bool := decide (slice v 480 32 = crc32c (leBytes 60 (v % 2 ^ 480)))

/-- The OAM field (R170). -/
def oamField (beiSym snr beiUnc bdi state : Nat) : Nat :=
  packed [(0, 24, min beiSym (2 ^ 24 - 1)), (24, 16, snr), (40, 16, min beiUnc (2 ^ 16 - 1)), (56, 1, bdi), (57, 4, state)]

/-- The relay field of overhead codeword 4 (R325). -/
def relayField (bs : List Byte) : Nat := packed [(0, 6, bs.length)] + ofLeBytes bs * 2 ^ 6

/-- The message bytes of a relay field; none where COUNT is reserved (R325). -/
def relayRead (v : Nat) : List Byte :=
  let n := slice v 0 6
  if 60 < n then [] else leBytes n (slice v 6 480)

/-- The payload of overhead codeword `k`, without its slot-extension words, which carry client data (R164). -/
def overheadPayload (marker : Nat) (jcs : List Nat) (part k oam fcf relay : Nat) : Nat :=
  marker + packed (jcs.zipIdx.map fun e => (160 + 32 * e.2, 32, e.1)) + part * 2 ^ 672
    + (if k = 0 then oam * 2 ^ 1184 + fcf * 2 ^ 3776 else if k = 4 then relay * 2 ^ 3776 else 0)

end Sys2Proof.Machine
end

