-- ==== Sys2Proof/Machine/Blocks.lean ====
section
/-!
DEFINITION. Client data as pure functions: the trim window's pattern, the word positions of a client's slots and justification (R172 to
R174), 66-bit blocks and their 257-bit form (R248), and the words of the deskew store (R283, R284).
-/

namespace Sys2Proof.Machine

/-! ## Trim window (R159; the pattern's definition is log entry 128) -/

/-- The bits of PRBS13, from the 13 latest bits, the newest first: a(n) = a(n-1) + a(n-2) + a(n-12) + a(n-13). -/
def prbs13 : Nat → List Bool → List Bool
  | 0, _ => []
  | n + 1, r =>
    let b := (r.getD 0 false != r.getD 1 false) != (r.getD 11 false != r.getD 12 false)
    b :: prbs13 n ((b :: r).take 13)

/-- The register with which PRBS13Q starts. -/
def prbs13Seed : List Bool := [false, false, false, false, false, true, false, true, false, true, false, true, true]

/-- Pairs of bits as Gray-coded symbols, the first bit the more significant. -/
def grayPairs : List Bool → List Nat
  | a :: b :: l => pamOf a b :: grayPairs l
  | _ => []

/-- The 8,191 symbols of PRBS13Q: two repetitions of PRBS13. -/
def prbs13Q : List Nat := let a := prbs13 8191 prbs13Seed; grayPairs (a ++ a)

/-- The 5,760 symbols of the trim window on line lane index `i` (R159). -/
def trimSymbols (i : Nat) : List Nat := (((prbs13Q ++ prbs13Q).drop (640 * i % 8191)).take 5760)

/-! ## Word positions (R172 to R174) -/

/-- Words of a slot in the extension field and in the client area of a sub-frame, and in both. -/
def extWords : Nat := 13
def areaWords : Nat := 3125
def slotWords : Nat := 3138

/-- The rank of a slot in the transmission order of a client's client-area words: by lane-slot, and by lane where lane-slots are sent at
the same instant on several lanes (log entry 128). -/
def areaRank (ks : List Nat) (k : Nat) : Nat :=
  (ks.filter fun x => decide (x % 16 < k % 16) || (x % 16 == k % 16 && decide (x / 16 < k / 16))).length

/-- The rank of a slot in ascending slot order. -/
def extRank (ks : List Nat) (k : Nat) : Nat := (ks.filter fun x => decide (x < k)).length

/-- A client's slots in the transmission order of their client-area words. -/
def areaOrder (ks : List Nat) : List Nat := ks.mergeSort fun a b => decide (a % 16 < b % 16) || (a % 16 == b % 16 && decide (a / 16 ≤ b / 16))

/-- The position, from 0, of word `m` of a slot's extension and of word `i` of its client area (R174). -/
def extPos (ks : List Nat) (k m : Nat) : Nat := extWords * extRank ks k + m
def areaPos (ks : List Nat) (k i : Nat) : Nat := extWords * ks.length + ks.length * i + areaRank ks k

/-- The lane-slot and the word number of client-area symbol `j` of a lane, and the symbol of a lane-slot's word (R172). -/
def areaSlot (j : Nat) : Nat × Nat := (j % 16, j / 16)
def areaSymbol (t i : Nat) : Nat := 16 * i + t

/-- Position `j`, from 1, carries client data (R174). -/
def gmpData (p c j : Nat) : Bool := decide (j * c % p < c)

/-- Word `i` of a sub-frame that is sent: known, or free (log entry 1). -/
def SubWords.word (d : SubWords) (i : Nat) : Nat :=
  match d.known[i]? with
  | some w => w % 1024
  | none => Config.freeNat (d.base + i) % 1024

/-- What position `j`, from 1, of a client's `p` positions carries: its words in order on the data positions, 0 on the others (R174). -/
def SubWords.at (d : SubWords) (p j : Nat) : Nat := if gmpData p d.c j then d.word (j * d.c / p - 1) else 0

/-- The words that lie on the data positions, the first at position 1. -/
def gmpTake {α : Type} (p c : Nat) (ws : List α) : List α := (ws.zipIdx.filter fun w => gmpData p c (w.2 + 1)).map (·.1)

/-- Bits of ten-bit words in stream order, and words of bits with the bits left over (R174). -/
def wordBits (ws : List Nat) : List Bool := ws.flatMap (natBits 10)
def bitWords : Nat → List Bool → List Nat × List Bool
  | 0, b => ([], b)
  | n + 1, b =>
    if b.length < 10 then ([], b)
    else
      let (l, r) := bitWords n (b.drop 10)
      (bitsNat (b.take 10) :: l, r)

/-! ## Blocks (R188, R248, R249; their coding is IEEE 802.3's, log entry 129) -/

/-- A 66-bit block from its sync header, bit 0 first, and its 64 payload bits. -/
def blk (sync pay : Nat) : Nat := sync % 4 + pay % 2 ^ 64 * 4

/-- The error block: a control block of eight error characters. -/
def errorBlk : Nat := blk 1 (0x1E + (List.range 8).foldl (fun n i => n + 0x1E * 2 ^ (8 + 7 * i)) 0)

/-- The local fault ordered set. -/
def faultBlk : Nat := blk 1 (0x4B + 0x01 * 2 ^ 24)

/-- A block is data, or control; anything else has no valid sync header. -/
def isData (b : Nat) : Bool := b % 4 == 2
def isCtl (b : Nat) : Bool := b % 4 == 1

/-- Four 66-bit blocks as one 257-bit block: bit 0 says that all are data; otherwise bits 1 to 4 say which are, and the second nibble of the
first control block's type is left out. -/
def transcode (bs : List Nat) : Nat :=
  let pay := bs.zipIdx.foldl (fun n b => n + b.1 / 4 * 2 ^ (64 * b.2)) 0
  if bs.all isData then 1 + pay * 2
  else
    let ok := bs.all fun b => isData b || isCtl b
    let c := if ok then (bs.findIdx? isCtl).getD 0 else 0
    let sync := if ok then packed (bs.zipIdx.map fun b => (b.2, 1, if isData b.1 then 1 else 0)) else 15
    sync * 2 + (pay % 2 ^ (64 * c + 4) + pay / 2 ^ (64 * c + 8) * 2 ^ (64 * c + 4)) * 2 ^ 5

/-- The block types of 64B/66B coding. -/
def blockTypes : List Nat := [0x1E, 0x2D, 0x33, 0x66, 0x55, 0x78, 0x4B, 0x87, 0x99, 0xAA, 0xB4, 0xCC, 0xD2, 0xE1, 0xFF]

/-- A 257-bit block as four 66-bit blocks; none where it cannot be transcoded back. -/
def untranscode (x : Nat) : Option (List Nat) :=
  if x % 2 = 1 then some ((List.range 4).map fun j => blk 2 (slice x (1 + 64 * j) 64))
  else
    let sync := slice x 1 4
    let c := ((List.range 4).find? fun j => sync / 2 ^ j % 2 == 0).getD 4
    let raw := slice x 5 252
    let typ := blockTypes.find? fun t => t % 16 == slice raw (64 * c) 4
    match typ with
    | some t =>
      if sync = 15 then none
      else
        let pay := raw % 2 ^ (64 * c + 4) + t / 16 * 2 ^ (64 * c + 4) + raw / 2 ^ (64 * c + 4) * 2 ^ (64 * c + 8)
        some ((List.range 4).map fun j => blk (if sync / 2 ^ j % 2 = 1 then 2 else 1) (slice pay (64 * j) 64))
    | none => none

/-- A 257-bit block delivered at a sink: four error blocks where a bit of it is errored or it cannot be transcoded back. -/
def sinkBlocks (x : Nat) (bad : Bool) : List Nat :=
  let four := List.replicate 4 errorBlk
  if bad then four else (untranscode x).getD four

/-- Groups of four blocks, with those left over. -/
def fours : Nat → List Nat → List (List Nat) × List Nat
  | 0, l => ([], l)
  | n + 1, l =>
    if l.length < 4 then ([], l)
    else
      let (g, r) := fours n (l.drop 4)
      (l.take 4 :: g, r)

/-- Groups of 257 bits, each bit with its flag, with those left over. -/
def groups257 : Nat → List (Bool × Bool) → List (Nat × Bool) × List (Bool × Bool)
  | 0, l => ([], l)
  | n + 1, l =>
    if l.length < 257 then ([], l)
    else
      let g := l.take 257
      let (x, r) := groups257 n (l.drop 257)
      ((bitsNat (g.map (·.1)), g.any (·.2)) :: x, r)

/-! ## The deskew store's words (R283, R284) -/

/-- The header word of a sub-frame. -/
def subHeader (x : SubCopy) : Nat := packed [(0, 40, x.stamp), (40, 3, x.k), (43, 18, x.words.length)]

/-- 64-bit words of a bit string; the last is filled with zeros. -/
def words64 : Nat → List (Bool × Bool) → List (Nat × Bool)
  | 0, _ => []
  | n + 1, l => if l.isEmpty then [] else (bitsNat ((l.take 64).map (·.1)), (l.take 64).any (·.2)) :: words64 n (l.drop 64)

/-- Words of a sub-frame in the region: its header, then its ten-bit words packed densely, each with its flag. -/
def storeWords (x : SubCopy) : List (Nat × Bool) :=
  let bits := x.words.flatMap fun w => (natBits 10 w.1).map fun b => (b, w.2)
  (subHeader x, x.lost) :: words64 (bits.length / 64 + 1) bits

/-- Store words that follow the header of a sub-frame of `c` words. -/
def storeLen (c : Nat) : Nat := (10 * c + 63) / 64

/-- A sub-frame as it is read back from its header word and the words that follow. -/
def storeRead (h : Nat × Bool) (ws : List (Nat × Bool)) : SubCopy :=
  let c := slice h.1 43 18
  let bits := ws.flatMap fun w => (natBits 64 w.1).map fun b => (b, w.2)
  { stamp := slice h.1 0 40, k := slice h.1 40 3, lost := h.2
    words := (List.range c).map fun i =>
      let g := (bits.drop (10 * i)).take 10
      (bitsNat (g.map (·.1)), g.any (·.2)) }

/-! ## The Hsiao (72,64) code (R40, R452) -/

/-- The number of bits set in a byte. -/
def weight8 (v : Nat) : Nat := ((List.range 8).filter fun k => v / 2 ^ k % 2 == 1).length

/-- The columns of the data bits, bit 0 first. -/
def hsiaoCols : List Nat :=
  ((List.range 256).filter fun v => weight8 v == 3) ++ [0x1F, 0x2F, 0x37, 0x3B, 0x3D, 0x3E, 0x4F, 0x57]

/-- The check byte of 64 data bits: the XOR of the columns of the bits set. -/
def hsiaoCheck (d : Nat) : Nat := (hsiaoCols.zipIdx.filter fun c => d / 2 ^ c.2 % 2 == 1).foldl (fun x c => x ^^^ c.1) 0

/-- The syndrome of a stored word. -/
def hsiaoSynd (d c : Nat) : Nat := hsiaoCheck d ^^^ c

/-- The position a syndrome corrects: 0 to 63 for a data bit, 64 + j for check bit j; none where it is no column. -/
def hsiaoPos (syn : Nat) : Option Nat :=
  (hsiaoCols ++ (List.range 8).map fun j => 2 ^ j).idxOf? syn

/-- A 64-byte group as GDDR6 holds it: its eight data words, and the word that their check bytes fill (R284). -/
def gdGroup (ws : List Nat) : List Nat := ws ++ [packed (ws.zipIdx.map fun w => (8 * w.2, 8, hsiaoCheck w.1))]

/-- Groups of eight words; a part of a group is padded with zeros. -/
def eights : Nat → List Nat → List (List Nat)
  | 0, _ => []
  | n + 1, l => if l.isEmpty then [] else (l ++ List.replicate 7 0).take 8 :: eights n (l.drop 8)

/-- A flag word and the 63 words that it covers: bit i is set when word i is flagged (R283). -/
def flagged (ws : List (Nat × Bool)) : List Nat := packed (ws.zipIdx.map fun w => (w.2, 1, if w.1.2 then 1 else 0)) :: ws.map (·.1)

end Sys2Proof.Machine
end

