-- ==== Sys2Proof/Machine/Dsp.lean ====
section
/-!
DEFINITION. The sample path of a receive lane (chapter 4) as pure functions: AFE and ADC, interleave correction, equaliser, slicer, the
joint trellis with its reliabilities, the adaptation sums and the monitor cascades.
-/

namespace Sys2Proof.Machine

/-! ## AFE and ADC (R121 to R124) -/

/-- 2^16 times the AFE gain of each code, 0.5 dB apart (R121). -/
def gainTab : List Nat :=
  [65536, 69419, 73533, 77890, 82505, 87394, 92572, 98057, 103868, 110022, 116541, 123447, 130762, 138510, 146717, 155410, 164619, 174373, 184706, 195650, 207243, 219523, 232531, 246309, 260904, 276363, 292739, 310084, 328458, 347920, 368536, 390373]

/-- The ADC code of a sample at the land, given in 1/256 of an LSB at 0 dB (R121, R123; log entry 123). -/
def adcCode (g : Nat) (v : Int) : Int := clampInt (-128) 127 (roundDiv (v * (gainTab.getD g 0 : Nat)) (2 ^ 24))

/-- A code at an end of the range counts as clipped (R121). -/
def clipped (c : Int) : Bool := decide (c = -128) || decide (c = 127)

/-- The corrected sample in 1/4 LSB: (x - OFS) (1 + GAIN), rounded and saturated (R124). -/
def corrected (w : Word) (c : Int) : Int :=
  clampInt (-511) 511 (roundDiv ((16 * c - signedOf 8 (F.ADC_CAL_OFS.of w)) * (2 ^ 14 + signedOf 12 (F.ADC_CAL_GAIN.of w))) (2 ^ 16))

/-- The root mean square of a DSP clock's 256 samples, rounded down (R122). -/
def rmsOf (sq : Nat) : Nat := ((List.range 128).filter fun v => decide (256 * v * v ≤ sq)).length - 1

/-! ## Equaliser (R129 to R131) -/

/-- The taps in use: first and last (R131). -/
def tapWindow (linear : Bool) (len : Nat) : Nat × Nat :=
  match len with
  | 0 => (0, 47)
  | 1 => if linear then (8, 39) else (0, 31)
  | 2 => if linear then (12, 35) else (0, 23)
  | _ => if linear then (16, 31) else (0, 15)

/-- The coefficients outside the window count as zero (R131). -/
def inWindow (win : Nat × Nat) (c : List Int) : List Int :=
  c.zipIdx.map fun p => if win.1 ≤ p.2 ∧ p.2 ≤ win.2 then p.1 else 0

/-- The sum of products of two lists. -/
def dot (a b : List Int) : Int := (a.zipWith (· * ·) b).foldl (· + ·) 0

/-- An FFE output before saturation (R129). -/
def ffeSum (f : RxForce) (x : List Int) : Int := roundDiv (dot (inWindow f.win f.coef) x) 1024

/-- One sample passes the AFE, the ADC, the correction and the equaliser: counters, the DSP clock's loss detector with threshold `thr`, and
the FFE output that the sample completes. -/
def dspSample (f : RxForce) (thr : Nat) (eq : Bool) (x : RxLane) (v : Int) : RxLane :=
  let c := adcCode f.gain v
  let sq := x.sq + (c * c).toNat
  let full := x.sqN == 255
  let below := decide (sq < 256 * thr * thr)
  let xs := (corrected (f.adc.getD (x.n % 64) 0) c :: x.xs).take 48
  let y := ffeSum f xs
  { x with
    n := x.n + 1
    sq := if full then 0 else sq
    sqN := if full then 0 else x.sqN + 1
    low := if full then (if below then x.low + 1 else 0) else x.low
    high := if full then (if below then 0 else x.high + 1) else x.high
    rms := if full then some (rmsOf sq) else x.rms
    clips := x.clips + (if clipped c then 1 else 0)
    sats := x.sats + (if eq && decide (2047 < y.natAbs) then 1 else 0)
    xs := xs
    ys := if eq then x.ys ++ [⟨clampInt (-2047) 2047 y, c, xs⟩] else [] }

/-! ## Slicer and trellis (R139 to R143) -/

/-- A level target. -/
def RxForce.lvl (f : RxForce) (a : Nat) : Int := f.lv.getD a 0

/-- The slicer's decision: thresholds midway between adjacent targets (R141). -/
def RxForce.slice (f : RxForce) (y : Int) : Nat :=
  ((List.range 3).filter fun a => decide (f.lvl a + f.lvl (a + 1) ≤ 2 * y)).length

/-- The two bits of a symbol value: the more and the less significant (R163). -/
def symMsb (a : Nat) : Bool := decide (2 ≤ a)
def symLsb (a : Nat) : Bool := a == 1 || a == 2

/-- A path metric that no path reaches. -/
def trInf : Nat := 2 ^ 60

/-- A joint state of the trellis: the running parity, d0, and the last two symbols, the latest first. -/
structure TrNode where
  p : Bool
  d0 : Bool
  a1 : Nat
  a2 : Nat
  deriving DecidableEq, Repr

/-- The 64 joint states in order. -/
def trNodes : List TrNode :=
  (List.range 64).map fun i => ⟨i / 32 == 1, i / 16 % 2 == 1, i / 4 % 4, i % 4⟩

/-- The place of a joint state. -/
def TrNode.idx (s : TrNode) : Nat := (if s.p then 32 else 0) + (if s.d0 then 16 else 0) + 4 * s.a1 + s.a2

/-- The metrics of a joint state: the best path to it, and for each of the latest 97 symbols, the newest first, the best path to it by the
value of that symbol. -/
structure TrMetric where
  best : Nat
  alt : List (List Nat)
  deriving DecidableEq, Repr

/-- The state after symbol `a` (R139, R162): `pos` is the symbol's place in its codeword, or none where no code binds it (trim window,
standard mode); none where the code forbids the symbol. -/
def trNext (pos : Option Nat) (s : TrNode) (a : Nat) : Option TrNode :=
  match pos with
  | none => some ⟨false, false, a, s.a1⟩
  | some n =>
    let m2 := decide (2 ≤ n) && symMsb s.a2
    let p := s.p != m2
    if n % 8 = 7 then
      (if symLsb a == p then
        let d := symLsb a != symMsb a
        some ⟨d != s.d0, d, a, s.a1⟩
       else none)
    else some ⟨p != symLsb a, s.d0, a, s.a1⟩

/-- A joint state as a codeword starts: the encoder is reset, the channel's memory stays (R162). -/
def trReset (s : TrNode) : TrNode := ⟨false, false, s.a1, s.a2⟩

/-- The branch metric (R139); the target is rounded to an FFE output unit (log entry 124). -/
def branchMetric (f : RxForce) (y : Int) (s : TrNode) (a : Nat) : Nat :=
  let t := f.lvl a + roundDiv (f.h1 * f.lvl s.a1 + f.h2 * f.lvl s.a2) 256
  min 1023 ((y - t).natAbs ^ 2)

/-- Metrics of two ways to one state: the better of each. -/
def TrMetric.join (a b : TrMetric) : TrMetric :=
  ⟨min a.best b.best, a.alt.zipWith (fun u v => u.zipWith min v) b.alt⟩

/-- A way extended by a symbol value and its metric. -/
def TrMetric.extend (x : TrMetric) (a m : Nat) : TrMetric :=
  ⟨min trInf (x.best + m),
    (((List.range 4).map fun v => if v = a then min trInf (x.best + m) else trInf)
      :: x.alt.map fun l => l.map fun v => min trInf (v + m)).take 97⟩

/-- A state that no path has reached, with `n` symbols behind it. -/
def trNone (n : Nat) : TrMetric := ⟨trInf, List.replicate n (List.replicate 4 trInf)⟩

/-- Ways brought to the states they lead to. -/
def trGather (n : Nat) (ways : List (TrNode × TrMetric)) : List TrMetric :=
  trNodes.map fun t => (ways.filter fun w => w.1 == t).foldl (fun x w => x.join w.2) (trNone n)

/-- One stage of the trellis: four branches from every state. -/
def trStage (f : RxForce) (pos : Option Nat) (y : Int) (t : List TrMetric) : List TrMetric :=
  let n := ((t.headD ⟨0, []⟩).alt.length + 1)
  let from0 := trNodes.zip t
  let at0 := if pos = some 0 ∨ pos = none then from0.map fun w => (trReset w.1, w.2) else from0
  trGather (min 97 n) (at0.flatMap fun w => (List.range 4).filterMap fun a =>
    (trNext pos w.1 a).map fun s => (s, w.2.extend a (branchMetric f y w.1 a)))

/-- The trellis as a codeword starts: 16 histories with the metrics given, all alike where none are. -/
def trStart (entry : List Nat) : List TrMetric :=
  trNodes.map fun s => if s.p || s.d0 then trNone 0 else ⟨if entry.isEmpty then 0 else entry.getD (4 * s.a1 + s.a2) trInf, []⟩

/-- The metrics of the 16 histories at a codeword's end, the least taken as 0. -/
def trEntry (t : List TrMetric) : List Nat :=
  let l := (List.range 16).map fun h => (List.range 4).foldl (fun m k => min m ((t.getD (16 * k + h) (trNone 0)).best)) trInf
  let low := l.foldl min trInf
  l.map (· - low)

/-- The best metrics by the value of the symbol 96 stages back. -/
def trBack (t : List TrMetric) : List Nat :=
  (List.range 4).map fun v => t.foldl (fun m x => min m ((x.alt.getD 96 []).getD v trInf)) trInf

/-- The value decided from four metrics: the best; of equal ones the lowest. -/
def trValue (m : List Nat) : Nat :=
  (List.range 4).foldl (fun b v => if m.getD v trInf < m.getD b trInf then v else b) 0

/-- A bit of a symbol with its reliability: the difference between the best metrics of both values, saturated at 255 (R140). -/
def trBit (m : List Nat) (bit : Nat → Bool) : Bool × Nat :=
  let best := fun b => (List.range 4).foldl (fun x v => if bit v = b then min x (m.getD v trInf) else x) trInf
  let z := best false
  let o := best true
  (decide (o < z), min 255 (max z o - min z o))

/-- The trellis run over FFE outputs, with the places of their symbols: the metrics of each symbol decided after 96 further ones, and the
metrics of the histories after the first `n` stages. -/
def trRun (f : RxForce) : Nat → List (Option Nat × Int) → List TrMetric → List (List Nat) × List Nat
  | _, [], _ => ([], [])
  | n, (pos, y) :: l, t =>
    let t := trStage f pos y t
    let e := if n = 1 then trEntry t else []
    let (ds, e') := trRun f (n - 1) l t
    (if (t.headD ⟨0, []⟩).alt.length = 97 then trBack t :: ds else ds, if n = 1 then e else e')

/-- The information bits of one symbol of a codeword: both, but the last of a group of eight carries one (R162). -/
def codeBits (k : Nat) (m : List Nat) : List (Bool × Nat) :=
  if k % 8 = 7 then [trBit m symMsb] else [trBit m symMsb, trBit m symLsb]

/-- What the trellis makes of a codeword's outputs and the 96 that follow it (R139, R140): the symbol values decided, the information bits
with their reliabilities, and the metrics with which the next codeword starts. -/
def trCodeword (f : RxForce) (entry : List Nat) (ys tail : List Int) (last : Bool) : List Nat × List (Bool × Nat) × List Nat :=
  let body := ys.zipIdx.map fun p => (some p.2, p.1)
  let after := (tail.take 96).zipIdx.map fun p => (if last then none else some p.2, p.1)
  let (ms, e) := trRun f ys.length (body ++ after) (trStart entry)
  let ms := ms.take ys.length
  (ms.map trValue, (ms.zipIdx.flatMap fun p => codeBits p.2 p.1), if last then [] else e)

/-- The standard-mode trellis over the channel memory alone (R143), for all outputs but the last 96: the values decided, for both bits of
each symbol the bit with its soft value, 31 at most, and the metrics with which it goes on. -/
def trStandard (f : RxForce) (entry : List Nat) (ys : List Int) : List Nat × List (Bool × Nat) × List Nat :=
  let (ms, e) := trRun f (ys.length - 96) (ys.map fun y => (none, y)) (trStart entry)
  let soft := fun (b : Bool × Nat) => (b.1, min 31 b.2)
  (ms.map trValue, ms.flatMap fun m => [soft (trBit m symMsb), soft (trBit m symLsb)], e)

/-! ## Adaptation sums (R136, R141) -/

/-- One decided output joins the sums: `d` the decision that gives the error, `d1` and `d2` the two before it. -/
def RxAcc.add (f : RxForce) (x : RxAcc) (o : FfeOut) (d d1 d2 : Nat) : RxAcc :=
  let e := o.y - f.lvl d
  { n := x.n + 1
    taps := if x.taps.isEmpty then o.win.map (e * ·) else x.taps.zipWith (fun a b => a + e * b) o.win
    lvlSum := x.lvlSum.zipIdx.map fun p => if p.2 = d then p.1 + o.y else p.1
    lvlN := x.lvlN.zipIdx.map fun p => if p.2 = d then p.1 + 1 else p.1
    c1 := x.c1 + e * f.lvl d1
    c2 := x.c2 + e * f.lvl d2
    pw := x.pw + f.lvl d1 * f.lvl d1 }

/-! ## Monitor cascades (R145, R146) -/

/-- The quantities of one symbol: the ADC sample's square, 1, the square of the level decided, of the error, 1 where the slicer differs from
the decision, and for each level the output decided at it and 1. -/
def monQuant (f : RxForce) (o : FfeOut) (d : Nat) : List Int :=
  let e := o.y - f.lvl d
  [o.code * o.code, 1, f.lvl d * f.lvl d, e * e, if f.slice o.y = d then 0 else 1]
    ++ (List.range 4).flatMap fun v => if v = d then [o.y, 1] else [0, 0]

/-- A symbol enters the integrators. -/
def Cic.feed (c : Cic) (q : Int) : Cic :=
  let a := c.i1 + q
  let b := c.i2 + a
  { c with i1 := a, i2 := b, i3 := c.i3 + b }

/-- A dump: the combs' output and their new delays. -/
def Cic.dump (c : Cic) : Int × Cic :=
  let a := c.i3 - c.c1
  let b := a - c.c2
  (b - c.c3, { c with c1 := c.i3, c2 := a, c3 := b })

/-- A symbol's quantities enter a cascade. -/
def MonStream.feed (x : MonStream) (q : List Int) : MonStream :=
  { x with cic := if x.cic.isEmpty then q.map fun v => Cic.feed {} v else x.cic.zipWith Cic.feed q }

/-- A cascade that has data dumps. -/
def MonStream.dump (x : MonStream) : MonStream :=
  let l := x.cic.map Cic.dump
  if l.isEmpty then x else { cic := l.map (·.2), dumps := (l.map (·.1) :: x.dumps).take 32 }

/-- The FIR output of a quantity over the last 32 dumps (R145). -/
def MonStream.out (x : MonStream) (sel q : Nat) : Int :=
  (x.dumps.zipIdx.map fun p => Config.firCoef sel p.2 * p.1.getD q 0).foldl (· + ·) 0

/-- Symbols of a tick in the two modes: 10 us at 233.28 GBd and at 106.25 GBd (R123). -/
def tickSymbols (std : Bool) : Nat := if std then 1062500 else 2332800

/-- One of the tick's eight dumps, at the end of each 1.25 us; `idx` is TICK_IDX of the tick.  The 1 kHz cascade dumps every 125 us. -/
def MonSt.dump (x : MonSt) (idx : Nat) : MonSt :=
  let d := x.d + 1
  { x with d := d, t := x.t.dump, k := if (8 * idx + d) % 100 = 0 then x.k.dump else x.k }

/-- A symbol enters a chain, which dumps at the symbol nearest to each instant. -/
def MonSt.feed (x : MonSt) (std : Bool) (idx : Nat) (q : List Int) : MonSt :=
  let y := { x with n := x.n + 1, t := x.t.feed q, k := x.k.feed q }
  if y.d < 8 ∧ (2 * (y.d + 1) * tickSymbols std + 8) / 16 ≤ y.n then y.dump idx else y

/-- A tick ends: dumps that no symbol has brought are made, and the tick's counts start anew. -/
def MonSt.edge (x : MonSt) (idx : Nat) : MonSt :=
  let y := (List.range (8 - x.d)).foldl (fun y _ => y.dump idx) x
  { y with n := 0, d := 0 }

/-- 1000 times the decimal logarithm of a ratio, rounded, for a ratio of positive numbers within 16 bits of result (R146). -/
def centiDb (a b : Nat) : Int :=
  let above := fun (k : Nat) => decide (10 ^ (2 * k + 1) * b ^ 2000 ≤ a ^ 2000)
  let below := fun (k : Nat) => decide (10 ^ (2 * k + 1) * a ^ 2000 ≤ b ^ 2000)
  if b ≤ a then (((List.range 32767).filter above).length : Nat) else -(((List.range 32767).filter below).length : Nat)

/-- 1000 log10 of a ratio of sums, within 16 bits; none where a sum is not positive, so that the manual states no figure. -/
def ratioDb (a b : Int) : Option Int :=
  if 0 < a ∧ 0 < b then some (clampInt (-32768) 32767 (centiDb a.toNat b.toNat)) else none

/-- The mean output at a level above that at the level below (R146); none where either level has had no symbol. -/
def MonStream.spacing (x : MonStream) (sel v : Nat) : Option Int :=
  let s := fun u => x.out sel (5 + 2 * u)
  let n := fun u => x.out sel (6 + 2 * u)
  if 0 < n v ∧ 0 < n (v + 1) then
    some (clampInt 0 65535 (roundDiv (s (v + 1) * n v - s v * n (v + 1)) (n v * n (v + 1)).toNat))
  else none

/-- The figures of a cascade (R146): PWR, NF and SNR. -/
def MonStream.power (x : MonStream) (sel : Nat) : Option Int := ratioDb (x.out sel 0) (x.out sel 1 * 127 ^ 2)
def MonStream.noise (x : MonStream) (sel : Nat) : Option Int := ratioDb (x.out sel 3) (x.out sel 1 * 2047 ^ 2)
def MonStream.snr (x : MonStream) (sel : Nat) : Option Int := ratioDb (x.out sel 2) (x.out sel 3)

/-- SER in 2^-48 (R146). -/
def MonStream.ser (x : MonStream) (sel : Nat) : Option Int :=
  let n := x.out sel 1
  if 0 < n then some (clampInt 0 (2 ^ 48 - 1) (roundDiv (x.out sel 4 * 2 ^ 48) n.toNat)) else none

end Sys2Proof.Machine
end

