-- ==== Sys2Proof/Machine/CmdParse.lean ====
section
/-!
DEFINITION. Reading a descriptor: the opcodes, argument bytes and reserved bytes of R381, R401 and the command tables of the
later chapters.
-/

namespace Sys2Proof.Machine

/-- The `n` bytes of a descriptor from byte `o` on, as a bit vector. -/
def argAt (b : List Byte) (o n : Nat) : BitVec (8 * n) := BitVec.ofNat (8 * n) (ofLeBytes ((b.drop o).take n))

/-- The argument byte ranges of each assigned opcode: (first byte, bytes).  None where the opcode is not assigned. -/
def argRanges : Nat → Option (List (Nat × Nat))
  | 0x01 => some [(16, 2), (18, 3), (21, 1), (24, 8)]
  | 0x02 => some [(16, 2), (18, 2), (20, 2)]
  | 0x03 => some []
  | 0x10 => some [(16, 1)]
  | 0x11 => some [(16, 8)]
  | 0x20 => some [(16, 1), (17, 1), (18, 1)]
  | 0x21 => some [(16, 1), (17, 1), (18, 1)]
  | 0x22 => some [(16, 1), (17, 1), (18, 1)]
  | 0x23 => some [(16, 1), (17, 1)]
  | 0x28 => some [(16, 1), (18, 2)]
  | 0x29 => some [(16, 1), (17, 1)]
  | 0x30 => some [(16, 1), (17, 1), (18, 1), (19, 1)]
  | 0x31 => some [(16, 1), (18, 2)]
  | 0x32 => some [(16, 1), (17, 1), (18, 1), (19, 1)]
  | 0x33 => some [(16, 1)]
  | 0x38 => some [(16, 2), (18, 1), (19, 1), (20, 4), (24, 1), (25, 1), (26, 1), (27, 1), (28, 1), (29, 1), (30, 2), (32, 2), (34, 1), (35, 1), (36, 16), (52, 16), (68, 1), (70, 2), (72, 1), (73, 1), (74, 2), (76, 4)]
  | 0x39 => some [(16, 2), (18, 1), (19, 1), (20, 1), (21, 1), (24, 16)]
  | 0x3A => some [(16, 2)]
  | 0x3B => some [(16, 1), (18, 2)]
  | 0x40 => some [(16, 2), (18, 1), (19, 1), (20, 2), (24, 4)]
  | 0x41 => some [(16, 2), (18, 1)]
  | 0x48 => some [(16, 1), (17, 1), (18, 1), (19, 1), (20, 2), (24, 8)]
  | 0x50 => some [(16, 1)]
  | 0x51 => some [(16, 1), (20, 4), (24, 2), (32, 8)]
  | 0x60 => some [(16, 1)]
  | 0x61 => some []
  | 0x62 => some [(16, 2), (18, 3), (24, 8)]
  | 0x63 => some []
  | 0x64 => some [(16, 1), (17, 1)]
  | 0x68 => some [(16, 1), (17, 1), (18, 1)]
  | 0x69 => some [(16, 1), (17, 1), (18, 2), (20, 2), (24, 8), (32, 1)]
  | 0x70 => some [(16, 2), (18, 1), (19, 1), (20, 16)]
  | 0x71 => some [(16, 1)]
  | 0x72 => some []
  | 0x73 => some []
  | 0x74 => some [(16, 1), (17, 1), (18, 1), (19, 1), (20, 1), (24, 64)]
  | 0x78 => some [(16, 1), (17, 1)]
  | 0x79 => some [(16, 1)]
  | 0x7A => some [(16, 1), (17, 1), (18, 1), (19, 1), (20, 1), (24, 32)]
  | 0x7B => some []
  | 0x80 => some [(16, 32), (48, 8)]
  | 0x81 => some [(16, 8), (24, 2)]
  | 0x82 => some [(16, 1), (20, 4), (24, 4), (32, 8)]
  | 0x83 => some [(16, 1)]
  | 0x84 => some [(16, 1)]
  | 0x85 => some [(16, 8)]
  | 0x86 => some [(16, 1), (20, 4), (24, 8)]
  | 0x87 => some [(16, 1), (17, 1), (18, 1), (20, 2)]
  | 0x88 => some [(16, 1), (17, 1), (18, 1), (19, 1), (20, 1), (21, 1), (22, 1)]
  | 0x89 => some [(16, 1), (17, 1), (18, 1), (19, 1), (20, 1)]
  | 0x8A => some [(16, 1), (17, 1), (18, 2), (20, 1)]
  | 0x8B => some [(16, 1), (20, 4), (24, 4), (32, 8)]
  | _ => none

/-- The command that a descriptor spells (R381, R401), with the host memory its address names where it reads any. -/
def cmdOf (c : Cmd) (b : List Byte) (mem : List Byte) : Nat → Option Instr
  | 0x01 => some (.audit c (argAt b 16 2) (argAt b 18 3) (argAt b 21 1) (argAt b 24 8))
  | 0x02 => some (.ringResync c (argAt b 16 2) (argAt b 18 2) (argAt b 20 2))
  | 0x03 => some (.nop c)
  | 0x10 => some (.timeSwitch c (argAt b 16 1))
  | 0x11 => some (.timeStep c (argAt b 16 8))
  | 0x20 => some (.txEnable c (argAt b 16 1) (argAt b 17 1) (argAt b 18 1))
  | 0x21 => some (.txStep c (argAt b 16 1) (argAt b 17 1) (argAt b 18 1))
  | 0x22 => some (.txDisable c (argAt b 16 1) (argAt b 17 1) (argAt b 18 1))
  | 0x23 => some (.synCal c (argAt b 16 1) (argAt b 17 1))
  | 0x28 => some (.ffeSwap c (argAt b 16 1) (argAt b 18 2))
  | 0x29 => some (.ffeMode c (argAt b 16 1) (argAt b 17 1))
  | 0x30 => some (.slip c (argAt b 16 1) (argAt b 17 1) (argAt b 18 1) (argAt b 19 1))
  | 0x31 => some (.acqRestart c (argAt b 16 1) (argAt b 18 2))
  | 0x32 => some (.laneRetire c (argAt b 16 1) (argAt b 17 1) (argAt b 18 1) (argAt b 19 1))
  | 0x33 => some (.laneRestore c (argAt b 16 1))
  | 0x38 => some (.clientAdd c ⟨argAt b 16 2, argAt b 18 1, argAt b 19 1, argAt b 20 4, argAt b 24 1, argAt b 25 1, argAt b 26 1, argAt b 27 1, argAt b 28 1, argAt b 29 1, argAt b 30 2, argAt b 32 2, argAt b 34 1, argAt b 35 1, argAt b 36 16, argAt b 52 16, argAt b 68 1, argAt b 70 2, argAt b 72 1, argAt b 73 1, argAt b 74 2, argAt b 76 4⟩)
  | 0x39 => some (.clientModify c (argAt b 16 2) (argAt b 18 1) (argAt b 19 1) (argAt b 20 1) (argAt b 21 1) (argAt b 24 16))
  | 0x3A => some (.clientDelete c (argAt b 16 2))
  | 0x3B => some (.slRetrain c (argAt b 16 1) (argAt b 18 2))
  | 0x40 => some (.protSet c (argAt b 16 2) (argAt b 18 1) (argAt b 19 1) (argAt b 20 2) (argAt b 24 4))
  | 0x41 => some (.protReq c (argAt b 16 2) (argAt b 18 1))
  | 0x48 => some (.halySend c (argAt b 16 1) (argAt b 17 1) (argAt b 18 1) (argAt b 19 1) (argAt b 20 2) (argAt b 24 8) mem)
  | 0x50 => some (.trimRun c (argAt b 16 1))
  | 0x51 => some (.jrnRead c (argAt b 16 1) (argAt b 20 4) (argAt b 24 2) (argAt b 32 8))
  | 0x60 => some (.pairTakeover c (argAt b 16 1))
  | 0x61 => some (.pairRelease c)
  | 0x62 => some (.pairAudit c (argAt b 16 2) (argAt b 18 3) (argAt b 24 8))
  | 0x63 => some (.pairResync c)
  | 0x64 => some (.shrdLoop c (argAt b 16 1) (argAt b 17 1))
  | 0x68 => some (.fltClear c (argAt b 16 1) (argAt b 17 1) (argAt b 18 1))
  | 0x69 => some (.memTest c (argAt b 16 1) (argAt b 17 1) (argAt b 18 2) (argAt b 20 2) (argAt b 24 8) (argAt b 32 1))
  | 0x70 => some (.edacQueue c (argAt b 16 2) (argAt b 18 1) (argAt b 19 1) (argAt b 20 16))
  | 0x71 => some (.edacRamp c (argAt b 16 1))
  | 0x72 => some (.lastRamp c)
  | 0x73 => some (.lastRampRelease c)
  | 0x74 => some (.engI2c c (argAt b 16 1) (argAt b 17 1) (argAt b 18 1) (argAt b 19 1) (argAt b 20 1) (argAt b 24 64))
  | 0x78 => some (.pwrReq c (argAt b 16 1) (argAt b 17 1))
  | 0x79 => some (.reefReq c (argAt b 16 1))
  | 0x7A => some (.pmbXfer c (argAt b 16 1) (argAt b 17 1) (argAt b 18 1) (argAt b 19 1) (argAt b 20 1) (argAt b 24 32))
  | 0x7B => some (.pwrStop c)
  | 0x80 => some (.attest c (argAt b 16 32) (argAt b 48 8))
  | 0x81 => some (.certRead c (argAt b 16 8) (argAt b 24 2))
  | 0x82 => some (.imageWrite c (argAt b 16 1) (argAt b 20 4) (argAt b 24 4) (argAt b 32 8) mem)
  | 0x83 => some (.imageCommit c (argAt b 16 1))
  | 0x84 => some (.rollbackAdvance c (argAt b 16 1))
  | 0x85 => some (.keyUpdate c (argAt b 16 8) mem)
  | 0x86 => some (.taskLoad c (argAt b 16 1) (argAt b 20 4) (argAt b 24 8) mem)
  | 0x87 => some (.taskSet c (argAt b 16 1) (argAt b 17 1) (argAt b 18 1) (argAt b 20 2))
  | 0x88 => some (.patSet c (argAt b 16 1) (argAt b 17 1) (argAt b 18 1) (argAt b 19 1) (argAt b 20 1) (argAt b 21 1) (argAt b 22 1))
  | 0x89 => some (.loopSet c (argAt b 16 1) (argAt b 17 1) (argAt b 18 1) (argAt b 19 1) (argAt b 20 1))
  | 0x8A => some (.capStart c (argAt b 16 1) (argAt b 17 1) (argAt b 18 2) (argAt b 20 1))
  | 0x8B => some (.capRead c (argAt b 16 1) (argAt b 20 4) (argAt b 24 4) (argAt b 32 8))
  | _ => none

/-- The opcode of a host command; none for an event row. -/
def opcodeOf : Instr → Option Nat
  | .tick _ => none
  | .stagingDeadline _ _ _ _ _ _ => none
  | .tickStorm => none
  | .taskOverrun _ => none
  | .refclkLoss _ => none
  | .refclkReturn _ _ => none
  | .domSetSecWrite _ _ _ => none
  | .domAdjWrite _ _ _ => none
  | .timeSwitch _ _ => some 0x10
  | .timeStep _ _ => some 0x11
  | .slewDone => none
  | .ppsInEdge _ _ => none
  | .trigFire _ _ => none
  | .trigTimeWrite _ _ _ => none
  | .tpMessageRx _ _ _ => none
  | .synCal _ _ _ => some 0x23
  | .synTempCheck _ => none
  | .synCalComplete _ _ => none
  | .synCalTimeout _ _ => none
  | .synRelock _ _ => none
  | .synRelockTimeout _ _ => none
  | .handover _ _ => none
  | .synAlignFail _ _ => none
  | .synUnlock _ => none
  | .synNone _ => none
  | .txEnable _ _ _ _ => some 0x20
  | .txStep _ _ _ _ => some 0x21
  | .txDisable _ _ _ _ => some 0x22
  | .lockTimeout _ _ => none
  | .rampEnd _ _ => none
  | .rawLos _ _ _ => none
  | .rxChangeLand _ _ => none
  | .ffeSwap _ _ _ => some 0x28
  | .ffeMode _ _ _ => some 0x29
  | .ffeAdaptUpdate _ _ _ => none
  | .monThreshold _ _ _ => none
  | .codewordDecode _ _ _ _ _ _ _ => none
  | .fecCapArm _ _ => none
  | .fecUncorr _ _ => none
  | .frameStart _ => none
  | .calSwitch _ => none
  | .pageAdopt _ => none
  | .toneLock _ => none
  | .phaseSweepEnd _ _ _ => none
  | .cdrLock _ _ => none
  | .cdrAcqTimeout _ _ => none
  | .eqSettled _ _ => none
  | .markerResult _ _ _ _ _ _ => none
  | .searchTimeout _ _ => none
  | .slip _ _ _ _ _ => some 0x30
  | .acqLost _ _ _ => none
  | .acqRestart _ _ _ => some 0x31
  | .octAligned _ => none
  | .skewRange _ _ => none
  | .clkModeLand _ => none
  | .convStart _ => none
  | .halyMessageRx _ _ _ _ _ _ _ _ _ => none
  | .convTimeout _ => none
  | .lcToneEnd _ => none
  | .convSelect _ => none
  | .convLcFail _ _ => none
  | .bridgeStart _ => none
  | .laneRetire _ _ _ _ _ => some 0x32
  | .laneRestore _ _ => some 0x33
  | .anComplete _ _ => none
  | .anFail _ _ => none
  | .trainComplete _ _ => none
  | .ltFail _ _ => none
  | .slUp _ _ => none
  | .slDown _ _ => none
  | .slRetrain _ _ _ => some 0x3B
  | .clientAdd _ _ => some 0x38
  | .clientModify _ _ _ _ _ _ _ => some 0x39
  | .clientDelete _ _ => some 0x3A
  | .recentre _ => none
  | .holdOffExpiry _ => none
  | .wtrExpiry _ => none
  | .subframeSelect _ _ _ _ _ => none
  | .delayExcess _ => none
  | .delayReturn _ => none
  | .dSignReverse _ => none
  | .singleTimeout _ => none
  | .tagLossTimeout _ => none
  | .protSet _ _ _ _ _ _ => some 0x40
  | .protReq _ _ _ => some 0x41
  | .gdTrainingDone => none
  | .gdRetrain _ => none
  | .gdChannelFail _ => none
  | .halySend _ _ _ _ _ _ _ _ => some 0x48
  | .halyTxBurst _ _ => none
  | .halyRampDownEnd _ => none
  | .halyDetect _ => none
  | .halySyncFound _ _ _ _ => none
  | .halyHeader _ _ => none
  | .halyBeaconDue _ => none
  | .halyHearingLoss _ _ => none
  | .halyTtlExpiry _ => none
  | .halySlotStart _ => none
  | .trimRun _ _ => some 0x50
  | .trimTempCheck _ => none
  | .trimStart _ => none
  | .trimDone _ => none
  | .plannerRun => none
  | .jrnHourly => none
  | .jrnFlashWrite _ => none
  | .jrnRead _ _ _ _ _ => some 0x51
  | .ringOpRead _ => none
  | .ringOpCreate _ => none
  | .ringOpDestroy _ => none
  | .ringOpResync _ _ => none
  | .sqDoorbell _ _ => none
  | .headDoorbell _ _ => none
  | .descriptorFetch _ _ _ => none
  | .completionWrite => none
  | .eventWrite => none
  | .telemetryWrite => none
  | .msixSignal _ => none
  | .audit _ _ _ _ _ => some 0x01
  | .ringResync _ _ _ _ => some 0x02
  | .nop _ => some 0x03
  | .linkDown => none
  | .linkUp => none
  | .functionLevelReset => none
  | .perstN _ => none
  | .d3hotEntry => none
  | .d0Return => none
  | .pairLockFree => none
  | .pairInitTimer => none
  | .pairLockTaken => none
  | .mirrorRx _ _ => none
  | .statusRx _ _ => none
  | .statusSend => none
  | .hbLost => none
  | .fence => none
  | .pairTakeover _ _ => some 0x60
  | .pairRelease _ => some 0x61
  | .releaseCheck => none
  | .pairAudit _ _ _ _ => some 0x62
  | .pairResync _ => some 0x63
  | .shrdLoop _ _ _ => some 0x64
  | .shrdClockLock => none
  | .shrdLaneResult _ _ _ _ => none
  | .shrdUp _ => none
  | .shrdLaneLoss _ => none
  | .shrdAlignFail _ => none
  | .chkStart _ _ => none
  | .chkDataWrite _ _ => none
  | .chkTailWrite _ _ => none
  | .chkValWrite _ _ => none
  | .losLong _ _ _ => none
  | .retryTimeout _ _ _ => none
  | .fltClear _ _ _ _ => some 0x68
  | .memTest _ _ _ _ _ _ _ => some 0x69
  | .memTestWrite _ => none
  | .memTestRead _ => none
  | .memTestExit _ => none
  | .tableRefresh _ _ => none
  | .mcheck _ _ _ => none
  | .inputEdge _ _ => none
  | .inputStorm _ => none
  | .wdtExpire => none
  | .smbusStatusRead => none
  | .edacQueue _ _ _ _ _ => some 0x70
  | .spanWrite _ _ => none
  | .spanSettle _ => none
  | .edacRamp _ _ => some 0x71
  | .edacRampDone _ => none
  | .engClrNEdge _ _ => none
  | .lastRamp _ => some 0x72
  | .lastRampStep => none
  | .lastRampDone => none
  | .lastRampRelease _ => some 0x73
  | .hkConversion _ _ _ _ _ => none
  | .hkSeqRestart _ => none
  | .engI2c _ _ _ _ _ _ _ => some 0x74
  | .i2cTransactionEnd _ _ _ => none
  | .i2cRecover _ _ => none
  | .pwrReq _ _ _ => some 0x78
  | .pwrDelayExpiry _ => none
  | .domainEntryComplete _ => none
  | .domainExitComplete _ => none
  | .wakeSig _ => none
  | .wakeTick _ => none
  | .coreClk _ => none
  | .pmbPoll _ => none
  | .avsStep => none
  | .engThermRead _ _ => none
  | .orderlyStop => none
  | .orderlyStopDomainOff => none
  | .reefGrace => none
  | .reefGrace2 => none
  | .reefHold => none
  | .reefReq _ _ => some 0x79
  | .pmbXfer _ _ _ _ _ _ _ => some 0x7A
  | .pwrStop _ => some 0x7B
  | .powerOnReset => none
  | .resetN _ => none
  | .resetRelease _ _ _ _ _ _ _ _ => none
  | .bootTimeout _ => none
  | .vddCoreLoss => none
  | .vddAonLoss => none
  | .attest _ _ _ => some 0x80
  | .certRead _ _ _ => some 0x81
  | .imageWrite _ _ _ _ _ _ => some 0x82
  | .imageCommit _ _ => some 0x83
  | .rollbackAdvance _ _ => some 0x84
  | .keyUpdate _ _ _ => some 0x85
  | .taskLoad _ _ _ _ _ => some 0x86
  | .taskSet _ _ _ _ _ => some 0x87
  | .flashRead _ => none
  | .flashProgram _ => none
  | .flashErase _ => none
  | .flashOpEnd => none
  | .patSet _ _ _ _ _ _ _ _ => some 0x88
  | .loopSet _ _ _ _ _ _ => some 0x89
  | .patLock _ _ _ => none
  | .patLockLoss _ _ _ => none
  | .loopSlip _ _ _ => none
  | .histClear _ => none
  | .histSample _ _ => none
  | .pmuSample _ _ _ _ _ _ => none
  | .sampleRecord => none
  | .capStart _ _ _ _ _ => some 0x8A
  | .capStagingEnd _ _ => none
  | .capDone _ => none
  | .capRead _ _ _ _ _ => some 0x8B
  | .registerWrite _ _ _ => none
  | .lowHalfRead _ _ => none
  | .highHalfRead _ _ => none
  | .capturingRead _ => none
  | .latchingRead _ _ _ => none
  | .errLogRead _ => none
  | .unsupportedRead _ _ => none
  | .glbLockSet => none
  | .aonPeriod => none
  | .toneLoss _ => none
  | .stdAmLock _ => none
  | .convDoneRepeat _ => none
  | .halyDetectLoss _ => none
  | .slotRawLos _ _ _ => none
  | .eccError _ _ _ _ _ _ _ => none
  | .engSupplyWaitEnd _ _ => none
  | .pmbTransactionEnd _ _ => none

/-- The origin of a host command; none for an event row. -/
def originOf : Instr → Option Cmd
  | .tick _ => none
  | .stagingDeadline _ _ _ _ _ _ => none
  | .tickStorm => none
  | .taskOverrun _ => none
  | .refclkLoss _ => none
  | .refclkReturn _ _ => none
  | .domSetSecWrite _ _ _ => none
  | .domAdjWrite _ _ _ => none
  | .timeSwitch c _ => some c
  | .timeStep c _ => some c
  | .slewDone => none
  | .ppsInEdge _ _ => none
  | .trigFire _ _ => none
  | .trigTimeWrite _ _ _ => none
  | .tpMessageRx _ _ _ => none
  | .synCal c _ _ => some c
  | .synTempCheck _ => none
  | .synCalComplete _ _ => none
  | .synCalTimeout _ _ => none
  | .synRelock _ _ => none
  | .synRelockTimeout _ _ => none
  | .handover _ _ => none
  | .synAlignFail _ _ => none
  | .synUnlock _ => none
  | .synNone _ => none
  | .txEnable c _ _ _ => some c
  | .txStep c _ _ _ => some c
  | .txDisable c _ _ _ => some c
  | .lockTimeout _ _ => none
  | .rampEnd _ _ => none
  | .rawLos _ _ _ => none
  | .rxChangeLand _ _ => none
  | .ffeSwap c _ _ => some c
  | .ffeMode c _ _ => some c
  | .ffeAdaptUpdate _ _ _ => none
  | .monThreshold _ _ _ => none
  | .codewordDecode _ _ _ _ _ _ _ => none
  | .fecCapArm _ _ => none
  | .fecUncorr _ _ => none
  | .frameStart _ => none
  | .calSwitch _ => none
  | .pageAdopt _ => none
  | .toneLock _ => none
  | .phaseSweepEnd _ _ _ => none
  | .cdrLock _ _ => none
  | .cdrAcqTimeout _ _ => none
  | .eqSettled _ _ => none
  | .markerResult _ _ _ _ _ _ => none
  | .searchTimeout _ _ => none
  | .slip c _ _ _ _ => some c
  | .acqLost _ _ _ => none
  | .acqRestart c _ _ => some c
  | .octAligned _ => none
  | .skewRange _ _ => none
  | .clkModeLand _ => none
  | .convStart _ => none
  | .halyMessageRx _ _ _ _ _ _ _ _ _ => none
  | .convTimeout _ => none
  | .lcToneEnd _ => none
  | .convSelect _ => none
  | .convLcFail _ _ => none
  | .bridgeStart _ => none
  | .laneRetire c _ _ _ _ => some c
  | .laneRestore c _ => some c
  | .anComplete _ _ => none
  | .anFail _ _ => none
  | .trainComplete _ _ => none
  | .ltFail _ _ => none
  | .slUp _ _ => none
  | .slDown _ _ => none
  | .slRetrain c _ _ => some c
  | .clientAdd c _ => some c
  | .clientModify c _ _ _ _ _ _ => some c
  | .clientDelete c _ => some c
  | .recentre _ => none
  | .holdOffExpiry _ => none
  | .wtrExpiry _ => none
  | .subframeSelect _ _ _ _ _ => none
  | .delayExcess _ => none
  | .delayReturn _ => none
  | .dSignReverse _ => none
  | .singleTimeout _ => none
  | .tagLossTimeout _ => none
  | .protSet c _ _ _ _ _ => some c
  | .protReq c _ _ => some c
  | .gdTrainingDone => none
  | .gdRetrain _ => none
  | .gdChannelFail _ => none
  | .halySend c _ _ _ _ _ _ _ => some c
  | .halyTxBurst _ _ => none
  | .halyRampDownEnd _ => none
  | .halyDetect _ => none
  | .halySyncFound _ _ _ _ => none
  | .halyHeader _ _ => none
  | .halyBeaconDue _ => none
  | .halyHearingLoss _ _ => none
  | .halyTtlExpiry _ => none
  | .halySlotStart _ => none
  | .trimRun c _ => some c
  | .trimTempCheck _ => none
  | .trimStart _ => none
  | .trimDone _ => none
  | .plannerRun => none
  | .jrnHourly => none
  | .jrnFlashWrite _ => none
  | .jrnRead c _ _ _ _ => some c
  | .ringOpRead _ => none
  | .ringOpCreate _ => none
  | .ringOpDestroy _ => none
  | .ringOpResync _ _ => none
  | .sqDoorbell _ _ => none
  | .headDoorbell _ _ => none
  | .descriptorFetch _ _ _ => none
  | .completionWrite => none
  | .eventWrite => none
  | .telemetryWrite => none
  | .msixSignal _ => none
  | .audit c _ _ _ _ => some c
  | .ringResync c _ _ _ => some c
  | .nop c => some c
  | .linkDown => none
  | .linkUp => none
  | .functionLevelReset => none
  | .perstN _ => none
  | .d3hotEntry => none
  | .d0Return => none
  | .pairLockFree => none
  | .pairInitTimer => none
  | .pairLockTaken => none
  | .mirrorRx _ _ => none
  | .statusRx _ _ => none
  | .statusSend => none
  | .hbLost => none
  | .fence => none
  | .pairTakeover c _ => some c
  | .pairRelease c => some c
  | .releaseCheck => none
  | .pairAudit c _ _ _ => some c
  | .pairResync c => some c
  | .shrdLoop c _ _ => some c
  | .shrdClockLock => none
  | .shrdLaneResult _ _ _ _ => none
  | .shrdUp _ => none
  | .shrdLaneLoss _ => none
  | .shrdAlignFail _ => none
  | .chkStart _ _ => none
  | .chkDataWrite _ _ => none
  | .chkTailWrite _ _ => none
  | .chkValWrite _ _ => none
  | .losLong _ _ _ => none
  | .retryTimeout _ _ _ => none
  | .fltClear c _ _ _ => some c
  | .memTest c _ _ _ _ _ _ => some c
  | .memTestWrite _ => none
  | .memTestRead _ => none
  | .memTestExit _ => none
  | .tableRefresh _ _ => none
  | .mcheck _ _ _ => none
  | .inputEdge _ _ => none
  | .inputStorm _ => none
  | .wdtExpire => none
  | .smbusStatusRead => none
  | .edacQueue c _ _ _ _ => some c
  | .spanWrite _ _ => none
  | .spanSettle _ => none
  | .edacRamp c _ => some c
  | .edacRampDone _ => none
  | .engClrNEdge _ _ => none
  | .lastRamp c => some c
  | .lastRampStep => none
  | .lastRampDone => none
  | .lastRampRelease c => some c
  | .hkConversion _ _ _ _ _ => none
  | .hkSeqRestart _ => none
  | .engI2c c _ _ _ _ _ _ => some c
  | .i2cTransactionEnd _ _ _ => none
  | .i2cRecover _ _ => none
  | .pwrReq c _ _ => some c
  | .pwrDelayExpiry _ => none
  | .domainEntryComplete _ => none
  | .domainExitComplete _ => none
  | .wakeSig _ => none
  | .wakeTick _ => none
  | .coreClk _ => none
  | .pmbPoll _ => none
  | .avsStep => none
  | .engThermRead _ _ => none
  | .orderlyStop => none
  | .orderlyStopDomainOff => none
  | .reefGrace => none
  | .reefGrace2 => none
  | .reefHold => none
  | .reefReq c _ => some c
  | .pmbXfer c _ _ _ _ _ _ => some c
  | .pwrStop c => some c
  | .powerOnReset => none
  | .resetN _ => none
  | .resetRelease _ _ _ _ _ _ _ _ => none
  | .bootTimeout _ => none
  | .vddCoreLoss => none
  | .vddAonLoss => none
  | .attest c _ _ => some c
  | .certRead c _ _ => some c
  | .imageWrite c _ _ _ _ _ => some c
  | .imageCommit c _ => some c
  | .rollbackAdvance c _ => some c
  | .keyUpdate c _ _ => some c
  | .taskLoad c _ _ _ _ => some c
  | .taskSet c _ _ _ _ => some c
  | .flashRead _ => none
  | .flashProgram _ => none
  | .flashErase _ => none
  | .flashOpEnd => none
  | .patSet c _ _ _ _ _ _ _ => some c
  | .loopSet c _ _ _ _ _ => some c
  | .patLock _ _ _ => none
  | .patLockLoss _ _ _ => none
  | .loopSlip _ _ _ => none
  | .histClear _ => none
  | .histSample _ _ => none
  | .pmuSample _ _ _ _ _ _ => none
  | .sampleRecord => none
  | .capStart c _ _ _ _ => some c
  | .capStagingEnd _ _ => none
  | .capDone _ => none
  | .capRead c _ _ _ _ => some c
  | .registerWrite _ _ _ => none
  | .lowHalfRead _ _ => none
  | .highHalfRead _ _ => none
  | .capturingRead _ => none
  | .latchingRead _ _ _ => none
  | .errLogRead _ => none
  | .unsupportedRead _ _ => none
  | .glbLockSet => none
  | .aonPeriod => none
  | .toneLoss _ => none
  | .stdAmLock _ => none
  | .convDoneRepeat _ => none
  | .halyDetectLoss _ => none
  | .slotRawLos _ _ _ => none
  | .eccError _ _ _ _ _ _ _ => none
  | .engSupplyWaitEnd _ _ => none
  | .pmbTransactionEnd _ _ => none

/-- The argument bytes of a host command: (first byte, bytes, value); none for an event row. -/
def argBytes : Instr → List (Nat × Nat × Nat)
  | .tick _ => []
  | .stagingDeadline _ _ _ _ _ _ => []
  | .tickStorm => []
  | .taskOverrun _ => []
  | .refclkLoss _ => []
  | .refclkReturn _ _ => []
  | .domSetSecWrite _ _ _ => []
  | .domAdjWrite _ _ _ => []
  | .timeSwitch _ domain => [(16, 1, domain.toNat)]
  | .timeStep _ amount => [(16, 8, amount.toNat)]
  | .slewDone => []
  | .ppsInEdge _ _ => []
  | .trigFire _ _ => []
  | .trigTimeWrite _ _ _ => []
  | .tpMessageRx _ _ _ => []
  | .synCal _ octet retry => [(16, 1, octet.toNat), (17, 1, retry.toNat)]
  | .synTempCheck _ => []
  | .synCalComplete _ _ => []
  | .synCalTimeout _ _ => []
  | .synRelock _ _ => []
  | .synRelockTimeout _ _ => []
  | .handover _ _ => []
  | .synAlignFail _ _ => []
  | .synUnlock _ => []
  | .synNone _ => []
  | .txEnable _ octet lane launch => [(16, 1, octet.toNat), (17, 1, lane.toNat), (18, 1, launch.toNat)]
  | .txStep _ octet lane launch => [(16, 1, octet.toNat), (17, 1, lane.toNat), (18, 1, launch.toNat)]
  | .txDisable _ octet lane force => [(16, 1, octet.toNat), (17, 1, lane.toNat), (18, 1, force.toNat)]
  | .lockTimeout _ _ => []
  | .rampEnd _ _ => []
  | .rawLos _ _ _ => []
  | .rxChangeLand _ _ => []
  | .ffeSwap _ octet mask => [(16, 1, octet.toNat), (18, 2, mask.toNat)]
  | .ffeMode _ octet mode => [(16, 1, octet.toNat), (17, 1, mode.toNat)]
  | .ffeAdaptUpdate _ _ _ => []
  | .monThreshold _ _ _ => []
  | .codewordDecode _ _ _ _ _ _ _ => []
  | .fecCapArm _ _ => []
  | .fecUncorr _ _ => []
  | .frameStart _ => []
  | .calSwitch _ => []
  | .pageAdopt _ => []
  | .toneLock _ => []
  | .phaseSweepEnd _ _ _ => []
  | .cdrLock _ _ => []
  | .cdrAcqTimeout _ _ => []
  | .eqSettled _ _ => []
  | .markerResult _ _ _ _ _ _ => []
  | .searchTimeout _ _ => []
  | .slip _ octet lane amount coarse => [(16, 1, octet.toNat), (17, 1, lane.toNat), (18, 1, amount.toNat), (19, 1, coarse.toNat)]
  | .acqLost _ _ _ => []
  | .acqRestart _ octet mask => [(16, 1, octet.toNat), (18, 2, mask.toNat)]
  | .octAligned _ => []
  | .skewRange _ _ => []
  | .clkModeLand _ => []
  | .convStart _ => []
  | .halyMessageRx _ _ _ _ _ _ _ _ _ => []
  | .convTimeout _ => []
  | .lcToneEnd _ => []
  | .convSelect _ => []
  | .convLcFail _ _ => []
  | .bridgeStart _ => []
  | .laneRetire _ octet lane dir reason => [(16, 1, octet.toNat), (17, 1, lane.toNat), (18, 1, dir.toNat), (19, 1, reason.toNat)]
  | .laneRestore _ octet => [(16, 1, octet.toNat)]
  | .anComplete _ _ => []
  | .anFail _ _ => []
  | .trainComplete _ _ => []
  | .ltFail _ _ => []
  | .slUp _ _ => []
  | .slDown _ _ => []
  | .slRetrain _ group mask => [(16, 1, group.toNat), (18, 2, mask.toNat)]
  | .clientAdd _ a => [(16, 2, a.client.toNat), (18, 1, a.kind.toNat), (19, 1, a.ethRate.toNat), (20, 4, a.cbrRate.toNat), (24, 1, a.cls.toNat), (25, 1, a.ends.toNat), (26, 1, a.src.toNat), (27, 1, a.srcLane.toNat), (28, 1, a.snk.toNat), (29, 1, a.snkLane.toNat), (30, 2, a.farTag.toNat), (32, 2, a.sib.toNat), (34, 1, a.sinkFlags.toNat), (35, 1, a.snk1Oct.toNat), (36, 16, a.mask0.toNat), (52, 16, a.mask1.toNat), (68, 1, a.route1Oct.toNat), (70, 2, a.route1Sib.toNat), (72, 1, a.protFlags.toNat), (73, 1, a.uncThr.toNat), (74, 2, a.holdOff.toNat), (76, 4, a.wtr.toNat)]
  | .clientModify _ client what cls auto copy mask => [(16, 2, client.toNat), (18, 1, what.toNat), (19, 1, cls.toNat), (20, 1, auto.toNat), (21, 1, copy.toNat), (24, 16, mask.toNat)]
  | .clientDelete _ client => [(16, 2, client.toNat)]
  | .recentre _ => []
  | .holdOffExpiry _ => []
  | .wtrExpiry _ => []
  | .subframeSelect _ _ _ _ _ => []
  | .delayExcess _ => []
  | .delayReturn _ => []
  | .dSignReverse _ => []
  | .singleTimeout _ => []
  | .tagLossTimeout _ => []
  | .protSet _ client flags uncThr holdOff wtr => [(16, 2, client.toNat), (18, 1, flags.toNat), (19, 1, uncThr.toNat), (20, 2, holdOff.toNat), (24, 4, wtr.toNat)]
  | .protReq _ client request => [(16, 2, client.toNat), (18, 1, request.toNat)]
  | .gdTrainingDone => []
  | .gdRetrain _ => []
  | .gdChannelFail _ => []
  | .halySend _ octet dst path rep len addr _ => [(16, 1, octet.toNat), (17, 1, dst.toNat), (18, 1, path.toNat), (19, 1, rep.toNat), (20, 2, len.toNat), (24, 8, addr.toNat)]
  | .halyTxBurst _ _ => []
  | .halyRampDownEnd _ => []
  | .halyDetect _ => []
  | .halySyncFound _ _ _ _ => []
  | .halyHeader _ _ => []
  | .halyBeaconDue _ => []
  | .halyHearingLoss _ _ => []
  | .halyTtlExpiry _ => []
  | .halySlotStart _ => []
  | .trimRun _ target => [(16, 1, target.toNat)]
  | .trimTempCheck _ => []
  | .trimStart _ => []
  | .trimDone _ => []
  | .plannerRun => []
  | .jrnHourly => []
  | .jrnFlashWrite _ => []
  | .jrnRead _ region seq count addr => [(16, 1, region.toNat), (20, 4, seq.toNat), (24, 2, count.toNat), (32, 8, addr.toNat)]
  | .ringOpRead _ => []
  | .ringOpCreate _ => []
  | .ringOpDestroy _ => []
  | .ringOpResync _ _ => []
  | .sqDoorbell _ _ => []
  | .headDoorbell _ _ => []
  | .descriptorFetch _ _ _ => []
  | .completionWrite => []
  | .eventWrite => []
  | .telemetryWrite => []
  | .msixSignal _ => []
  | .audit _ first count freeze addr => [(16, 2, first.toNat), (18, 3, count.toNat), (21, 1, freeze.toNat), (24, 8, addr.toNat)]
  | .ringResync _ ring head expHseq => [(16, 2, ring.toNat), (18, 2, head.toNat), (20, 2, expHseq.toNat)]
  | .nop _ => []
  | .linkDown => []
  | .linkUp => []
  | .functionLevelReset => []
  | .perstN _ => []
  | .d3hotEntry => []
  | .d0Return => []
  | .pairLockFree => []
  | .pairInitTimer => []
  | .pairLockTaken => []
  | .mirrorRx _ _ => []
  | .statusRx _ _ => []
  | .statusSend => []
  | .hbLost => []
  | .fence => []
  | .pairTakeover _ force => [(16, 1, force.toNat)]
  | .pairRelease _ => []
  | .releaseCheck => []
  | .pairAudit _ first count addr => [(16, 2, first.toNat), (18, 3, count.toNat), (24, 8, addr.toNat)]
  | .pairResync _ => []
  | .shrdLoop _ mode force => [(16, 1, mode.toNat), (17, 1, force.toNat)]
  | .shrdClockLock => []
  | .shrdLaneResult _ _ _ _ => []
  | .shrdUp _ => []
  | .shrdLaneLoss _ => []
  | .shrdAlignFail _ => []
  | .chkStart _ _ => []
  | .chkDataWrite _ _ => []
  | .chkTailWrite _ _ => []
  | .chkValWrite _ _ => []
  | .losLong _ _ _ => []
  | .retryTimeout _ _ _ => []
  | .fltClear _ kind unit lane => [(16, 1, kind.toNat), (17, 1, unit.toNat), (18, 1, lane.toNat)]
  | .memTest _ op die macroIx word data check => [(16, 1, op.toNat), (17, 1, die.toNat), (18, 2, macroIx.toNat), (20, 2, word.toNat), (24, 8, data.toNat), (32, 1, check.toNat)]
  | .memTestWrite _ => []
  | .memTestRead _ => []
  | .memTestExit _ => []
  | .tableRefresh _ _ => []
  | .mcheck _ _ _ => []
  | .inputEdge _ _ => []
  | .inputStorm _ => []
  | .wdtExpire => []
  | .smbusStatusRead => []
  | .edacQueue _ channel count flush codes => [(16, 2, channel.toNat), (18, 1, count.toNat), (19, 1, flush.toNat), (20, 16, codes.toNat)]
  | .spanWrite _ _ => []
  | .spanSettle _ => []
  | .edacRamp _ slot => [(16, 1, slot.toNat)]
  | .edacRampDone _ => []
  | .engClrNEdge _ _ => []
  | .lastRamp _ => []
  | .lastRampStep => []
  | .lastRampDone => []
  | .lastRampRelease _ => []
  | .hkConversion _ _ _ _ _ => []
  | .hkSeqRestart _ => []
  | .engI2c _ bus addr wcount rcount rstart wdata => [(16, 1, bus.toNat), (17, 1, addr.toNat), (18, 1, wcount.toNat), (19, 1, rcount.toNat), (20, 1, rstart.toNat), (24, 64, wdata.toNat)]
  | .i2cTransactionEnd _ _ _ => []
  | .i2cRecover _ _ => []
  | .pwrReq _ dom target => [(16, 1, dom.toNat), (17, 1, target.toNat)]
  | .pwrDelayExpiry _ => []
  | .domainEntryComplete _ => []
  | .domainExitComplete _ => []
  | .wakeSig _ => []
  | .wakeTick _ => []
  | .coreClk _ => []
  | .pmbPoll _ => []
  | .avsStep => []
  | .engThermRead _ _ => []
  | .orderlyStop => []
  | .orderlyStopDomainOff => []
  | .reefGrace => []
  | .reefGrace2 => []
  | .reefHold => []
  | .reefReq _ manual => [(16, 1, manual.toNat)]
  | .pmbXfer _ entry code wcount rcount page wdata => [(16, 1, entry.toNat), (17, 1, code.toNat), (18, 1, wcount.toNat), (19, 1, rcount.toNat), (20, 1, page.toNat), (24, 32, wdata.toNat)]
  | .pwrStop _ => []
  | .powerOnReset => []
  | .resetN _ => []
  | .resetRelease _ _ _ _ _ _ _ _ => []
  | .bootTimeout _ => []
  | .vddCoreLoss => []
  | .vddAonLoss => []
  | .attest _ nonce addr => [(16, 32, nonce.toNat), (48, 8, addr.toNat)]
  | .certRead _ addr max => [(16, 8, addr.toNat), (24, 2, max.toNat)]
  | .imageWrite _ slot offset len addr _ => [(16, 1, slot.toNat), (20, 4, offset.toNat), (24, 4, len.toNat), (32, 8, addr.toNat)]
  | .imageCommit _ slot => [(16, 1, slot.toNat)]
  | .rollbackAdvance _ force => [(16, 1, force.toNat)]
  | .keyUpdate _ addr _ => [(16, 8, addr.toNat)]
  | .taskLoad _ task len addr _ => [(16, 1, task.toNat), (20, 4, len.toNat), (24, 8, addr.toNat)]
  | .taskSet _ task action mode budget => [(16, 1, task.toNat), (17, 1, action.toNat), (18, 1, mode.toNat), (20, 2, budget.toNat)]
  | .flashRead _ => []
  | .flashProgram _ => []
  | .flashErase _ => []
  | .flashOpEnd => []
  | .patSet _ ptype index lane gen chk sqHalf force => [(16, 1, ptype.toNat), (17, 1, index.toNat), (18, 1, lane.toNat), (19, 1, gen.toNat), (20, 1, chk.toNat), (21, 1, sqHalf.toNat), (22, 1, force.toNat)]
  | .loopSet _ ptype index lane loop force => [(16, 1, ptype.toNat), (17, 1, index.toNat), (18, 1, lane.toNat), (19, 1, loop.toNat), (20, 1, force.toNat)]
  | .patLock _ _ _ => []
  | .patLockLoss _ _ _ => []
  | .loopSlip _ _ _ => []
  | .histClear _ => []
  | .histSample _ _ => []
  | .pmuSample _ _ _ _ _ _ => []
  | .sampleRecord => []
  | .capStart _ lineLane src len buf => [(16, 1, lineLane.toNat), (17, 1, src.toNat), (18, 2, len.toNat), (20, 1, buf.toNat)]
  | .capStagingEnd _ _ => []
  | .capDone _ => []
  | .capRead _ buf offset len addr => [(16, 1, buf.toNat), (20, 4, offset.toNat), (24, 4, len.toNat), (32, 8, addr.toNat)]
  | .registerWrite _ _ _ => []
  | .lowHalfRead _ _ => []
  | .highHalfRead _ _ => []
  | .capturingRead _ => []
  | .latchingRead _ _ _ => []
  | .errLogRead _ => []
  | .unsupportedRead _ _ => []
  | .glbLockSet => []
  | .aonPeriod => []
  | .toneLoss _ => []
  | .stdAmLock _ => []
  | .convDoneRepeat _ => []
  | .halyDetectLoss _ => []
  | .slotRawLos _ _ _ => []
  | .eccError _ _ _ _ _ _ _ => []
  | .engSupplyWaitEnd _ _ => []
  | .pmbTransactionEnd _ _ => []

end Sys2Proof.Machine
end

