-- ==== Sys2Proof/Machine/Codes.lean ====
section
/-!
DEFINITION. Event codes (R406 and the event lists of chapters 12 to 17), completion status codes (R402 and the status lists)
and opcodes (R401 and the command tables).
-/

namespace Sys2Proof.Machine

/-! Event codes. -/

def Ev.PAT_LOCK : Nat := 0x0001
def Ev.LOOP_SLIP : Nat := 0x0002
def Ev.CAP_DONE : Nat := 0x0003
def Ev.CAP_DROP : Nat := 0x0004
def Ev.SAMP_LOST : Nat := 0x0005
def Ev.HIST_SAT : Nat := 0x0006
def Ev.TICK_OVERRUN : Nat := 0x0101
def Ev.TICK_STORM : Nat := 0x0102
def Ev.TASK_OVERRUN : Nat := 0x0103
def Ev.REFCLK_LOSS : Nat := 0x0104
def Ev.SLEW_DONE : Nat := 0x0105
def Ev.REF_SWITCH : Nat := 0x0106
def Ev.SYN_CAL_FAIL : Nat := 0x0201
def Ev.SYN_ALIGN_FAIL : Nat := 0x0202
def Ev.HANDOVER : Nat := 0x0203
def Ev.SYN_UNLOCK : Nat := 0x0204
def Ev.SYN_NONE : Nat := 0x0205
def Ev.SYN_DRIFT : Nat := 0x0206
def Ev.LOOP_CLAMP : Nat := 0x0207
def Ev.LANE_RESUMED : Nat := 0x0208
def Ev.RAW_LOS : Nat := 0x0301
def Ev.ADC_RANGE : Nat := 0x0302
def Ev.LOS : Nat := 0x0303
def Ev.SNR_LOW : Nat := 0x0304
def Ev.IMB_HIGH : Nat := 0x0305
def Ev.NF_HIGH : Nat := 0x0306
def Ev.LANEID_MISMATCH : Nat := 0x0401
def Ev.TAG_MISMATCH : Nat := 0x0402
def Ev.JC_LOST : Nat := 0x0403
def Ev.CAL_MISMATCH : Nat := 0x0404
def Ev.FEC_UNCORR : Nat := 0x0405
def Ev.FEC_CAP_DONE : Nat := 0x0406
def Ev.ACQ_LOCK : Nat := 0x0501
def Ev.ACQ_FAIL : Nat := 0x0502
def Ev.ACQ_LOST : Nat := 0x0503
def Ev.SKEW_WARN : Nat := 0x0504
def Ev.SKEW_RANGE : Nat := 0x0505
def Ev.CONV_START : Nat := 0x0506
def Ev.CONV_SELECT : Nat := 0x0507
def Ev.CONV_FAIL : Nat := 0x0508
def Ev.LANE_RETIRED : Nat := 0x0509
def Ev.CLIENT_MOVED : Nat := 0x050A
def Ev.CLIENT_DROPPED : Nat := 0x050B
def Ev.AN_FAIL : Nat := 0x0601
def Ev.LT_FAIL : Nat := 0x0602
def Ev.SL_UP : Nat := 0x0603
def Ev.SL_DOWN : Nat := 0x0604
def Ev.TAG_DUP : Nat := 0x0605
def Ev.TAG_SIZE : Nat := 0x0606
def Ev.RECENTRE : Nat := 0x0607
def Ev.DELAY_EXCESS : Nat := 0x0701
def Ev.PROT_DEFECT : Nat := 0x0702
def Ev.PROT_SWITCH : Nat := 0x0703
def Ev.C_MISMATCH : Nat := 0x0704
def Ev.DSK_FAIL : Nat := 0x0705
def Ev.HALY_TRUNC : Nat := 0x0801
def Ev.HALY_PATH : Nat := 0x0802
def Ev.TRIM_DONE : Nat := 0x0901
def Ev.TRIM_LOW : Nat := 0x0902
def Ev.HK_DRIFT : Nat := 0x0903
def Ev.PLAN_ACTION : Nat := 0x0904
def Ev.PLAN_ALERT : Nat := 0x0905
def Ev.JRN_FAIL : Nat := 0x0906
def Ev.RING_HALT : Nat := 0x0A01
def Ev.EVT_LOST : Nat := 0x0A02
def Ev.REC_DROP : Nat := 0x0A03
def Ev.LINK_DOWN : Nat := 0x0A04
def Ev.ROLE_CHANGE : Nat := 0x0B01
def Ev.HB_LOST : Nat := 0x0B02
def Ev.MIRROR_RESEND : Nat := 0x0B03
def Ev.MIRROR_STALE : Nat := 0x0B04
def Ev.SYNC_DONE : Nat := 0x0B05
def Ev.TAKEOVER : Nat := 0x0B06
def Ev.FENCED : Nat := 0x0B07
def Ev.PAIR_UNSAFE : Nat := 0x0B08
def Ev.DUAL_ACTIVE : Nat := 0x0B09
def Ev.SHRD_DOWN : Nat := 0x0B0A
def Ev.SHRD_ALIGN_FAIL : Nat := 0x0B0B
def Ev.TWIN_TIME : Nat := 0x0B0C
def Ev.PRESENT_CHANGE : Nat := 0x0B0D
def Ev.FLT_TRANSIENT : Nat := 0x0C01
def Ev.FLT_PERMANENT : Nat := 0x0C02
def Ev.FLT_OUTAGE : Nat := 0x0C03
def Ev.OCT_TX_FAIL : Nat := 0x0C04
def Ev.SL_RETIRED : Nat := 0x0C05
def Ev.ECC_UNCORR : Nat := 0x0C06
def Ev.MCHECK : Nat := 0x0C07
def Ev.TABLE_LOST : Nat := 0x0C08
def Ev.SOFT_REPAIR : Nat := 0x0C09
def Ev.SPARE_EXHAUSTED : Nat := 0x0C0A
def Ev.OFF_ACCESS : Nat := 0x0C0B
def Ev.INPUT_EDGE : Nat := 0x0C0C
def Ev.INPUT_STORM : Nat := 0x0C0D
def Ev.WDT_EXPIRE : Nat := 0x0C0E
def Ev.EDAC_RB_FAIL : Nat := 0x0D01
def Ev.EDAC_CLEAR : Nat := 0x0D02
def Ev.ENG_FAULT_CLEAR : Nat := 0x0D03
def Ev.LAST_RAMP_START : Nat := 0x0D04
def Ev.LAST_RAMP_DONE : Nat := 0x0D05
def Ev.EDAC_RAMP_DONE : Nat := 0x0D06
def Ev.EDAC_RAMP_FAIL : Nat := 0x0D07
def Ev.HK_PLAUS : Nat := 0x0D08
def Ev.HK_TRIG_DROP : Nat := 0x0D09
def Ev.I2C_RECOVER : Nat := 0x0D0A
def Ev.PWR_STATE : Nat := 0x0E01
def Ev.PWR_REFUSED : Nat := 0x0E02
def Ev.WAKE : Nat := 0x0E03
def Ev.WAKE_AFTER_ENTRY : Nat := 0x0E04
def Ev.CORE_CLK : Nat := 0x0E05
def Ev.THERM_RATE : Nat := 0x0E06
def Ev.THERM_WARN : Nat := 0x0E07
def Ev.ENG_THERM : Nat := 0x0E08
def Ev.REEF_STAGE : Nat := 0x0E09
def Ev.CLIENT_SHED : Nat := 0x0E0A
def Ev.PWR_STOP : Nat := 0x0E0B
def Ev.PMB_FAULT : Nat := 0x0E0C
def Ev.AVS_LIMIT : Nat := 0x0E0D
def Ev.BOOT_DONE : Nat := 0x0F01
def Ev.BOOT_FALLBACK : Nat := 0x0F02
def Ev.CERT_BAD : Nat := 0x0F03
def Ev.REPAIR_BAD : Nat := 0x0F04
def Ev.KEY_CHANGE : Nat := 0x0F05
def Ev.ROLLBACK : Nat := 0x0F06
def Ev.TASK_STATE : Nat := 0x0F07
def Ev.TASK_FAULT : Nat := 0x0F08

/-! Status codes. -/

def St.OK : Nat := 0x00
def St.BAD_FIELD : Nat := 0x01
def St.CHECK_FAIL : Nat := 0x02
def St.SEQ_GAP : Nat := 0x03
def St.TICK_PAST : Nat := 0x04
def St.TICK_FAR : Nat := 0x05
def St.SCHED_FULL : Nat := 0x06
def St.DOMAIN_OFF : Nat := 0x07
def St.SUPERSEDED : Nat := 0x08
def St.LOCK_TIMEOUT : Nat := 0x09
def St.LANE_DARK : Nat := 0x0A
def St.LANE_IN_USE : Nat := 0x0B
def St.LANE_RETIRED : Nat := 0x0C
def St.ENG_CLEARED : Nat := 0x0D
def St.CHAN_OWNED : Nat := 0x0E
def St.SYN_CAL_FAIL : Nat := 0x0F
def St.ADAPT_ON : Nat := 0x10
def St.SWAP_BUSY : Nat := 0x11
def St.CLASS_CONFLICT : Nat := 0x12
def St.MODE_CONFLICT : Nat := 0x13
def St.NOT_OWNER : Nat := 0x14
def St.WRONG_STATE : Nat := 0x15
def St.CONV_BUSY : Nat := 0x16
def St.CLIENT_EXISTS : Nat := 0x17
def St.NO_CLIENT : Nat := 0x18
def St.NO_SLOTS : Nat := 0x19
def St.NO_DESKEW : Nat := 0x1A
def St.CAL_BUSY : Nat := 0x1B
def St.TIME_DIFF : Nat := 0x1C
def St.HALY_OFF : Nat := 0x1D
def St.HALY_FULL : Nat := 0x1E
def St.TOO_LONG : Nat := 0x1F
def St.NO_PATH : Nat := 0x20
def St.TRIM_ABORTED : Nat := 0x21
def St.NOT_ACTIVE : Nat := 0x40
def St.NOT_STANDBY : Nat := 0x41
def St.LOCK_HELD : Nat := 0x42
def St.PAIR_UNSYNCED : Nat := 0x43
def St.LOCK_WINDOW : Nat := 0x44
def St.TAKEOVER_FAIL : Nat := 0x45
def St.PAIR_BUSY : Nat := 0x46
def St.SHRD_DOWN : Nat := 0x47
def St.MEM_BUSY : Nat := 0x50
def St.EDAC_FULL : Nat := 0x58
def St.I2C_NAK : Nat := 0x59
def St.I2C_TIMEOUT : Nat := 0x5A
def St.I2C_STUCK : Nat := 0x5B
def St.RAMP_BUSY : Nat := 0x5C
def St.REFUSED : Nat := 0x60
def St.REFUSED_WAKE : Nat := 0x61
def St.DELAY_LIMIT : Nat := 0x62
def St.PMB_NAK : Nat := 0x63
def St.PMB_TIMEOUT : Nat := 0x64
def St.REEF_HELD : Nat := 0x65
def St.SIG_FAIL : Nat := 0x70
def St.VERSION_OLD : Nat := 0x71
def St.KEY_ABSENT : Nat := 0x72
def St.SERIAL_MISMATCH : Nat := 0x73
def St.SLOT_RUNNING : Nat := 0x74
def St.FUSE_FAIL : Nat := 0x75
def St.LOCKED : Nat := 0x76
def St.SLOT_OLD : Nat := 0x77
def St.CAP_BUSY : Nat := 0x78
def St.CAP_EMPTY : Nat := 0x79

/-! Opcodes. -/

def Op.AUDIT : Nat := 0x01
def Op.RING_RESYNC : Nat := 0x02
def Op.NOP : Nat := 0x03
def Op.TIME_SWITCH : Nat := 0x10
def Op.TIME_STEP : Nat := 0x11
def Op.TX_ENABLE : Nat := 0x20
def Op.TX_STEP : Nat := 0x21
def Op.TX_DISABLE : Nat := 0x22
def Op.SYN_CAL : Nat := 0x23
def Op.FFE_SWAP : Nat := 0x28
def Op.FFE_MODE : Nat := 0x29
def Op.SLIP : Nat := 0x30
def Op.ACQ_RESTART : Nat := 0x31
def Op.LANE_RETIRE : Nat := 0x32
def Op.LANE_RESTORE : Nat := 0x33
def Op.CLIENT_ADD : Nat := 0x38
def Op.CLIENT_MODIFY : Nat := 0x39
def Op.CLIENT_DELETE : Nat := 0x3A
def Op.SL_RETRAIN : Nat := 0x3B
def Op.PROT_SET : Nat := 0x40
def Op.PROT_REQ : Nat := 0x41
def Op.HALY_SEND : Nat := 0x48
def Op.TRIM_RUN : Nat := 0x50
def Op.JRN_READ : Nat := 0x51
def Op.PAIR_TAKEOVER : Nat := 0x60
def Op.PAIR_RELEASE : Nat := 0x61
def Op.PAIR_AUDIT : Nat := 0x62
def Op.PAIR_RESYNC : Nat := 0x63
def Op.SHRD_LOOP : Nat := 0x64
def Op.FLT_CLEAR : Nat := 0x68
def Op.MEM_TEST : Nat := 0x69
def Op.EDAC_QUEUE : Nat := 0x70
def Op.EDAC_RAMP : Nat := 0x71
def Op.LAST_RAMP : Nat := 0x72
def Op.LAST_RAMP_RELEASE : Nat := 0x73
def Op.ENG_I2C : Nat := 0x74
def Op.PWR_REQ : Nat := 0x78
def Op.REEF_REQ : Nat := 0x79
def Op.PMB_XFER : Nat := 0x7A
def Op.PWR_STOP : Nat := 0x7B
def Op.ATTEST : Nat := 0x80
def Op.CERT_READ : Nat := 0x81
def Op.IMAGE_WRITE : Nat := 0x82
def Op.IMAGE_COMMIT : Nat := 0x83
def Op.ROLLBACK_ADVANCE : Nat := 0x84
def Op.KEY_UPDATE : Nat := 0x85
def Op.TASK_LOAD : Nat := 0x86
def Op.TASK_SET : Nat := 0x87
def Op.PAT_SET : Nat := 0x88
def Op.LOOP_SET : Nat := 0x89
def Op.CAP_START : Nat := 0x8A
def Op.CAP_READ : Nat := 0x8B

end Sys2Proof.Machine
end

