-- ==== Sys2Proof/Machine/State.lean ====
section
/-!
DEFINITION. The state of the block, the reasons a step can stop, and the state after reset.
-/

namespace Sys2Proof.Machine

/-- A command accepted and waiting for its tick (R49 to R56): the command, its submission ring, the tick edge at which it
applies, whether it carries EFFECTIVE_TICK 0, and whether an overrun has deferred it. -/
structure StagedCmd where
  cmd : Instr
  ring : Nat
  due : Nat
  zero : Bool
  deferred : Bool
  deriving DecidableEq, Repr

/-- Why the block stops with a fault. -/
inductive Fault where
  /-- The tick edge would carry a number that TICK_COUNT's 64 bits cannot hold.  Raised by TICK only; safe: the manual gives
  no behaviour beyond 2^64 ticks. -/
  | tickWrap
  deriving DecidableEq, Repr

/-- Why the block refuses a command. -/
inductive Refusal where
  /-- The command has no meaning yet.  Raised by the dispatch only; safe. -/
  | notModelled (mnemonic : String)
  deriving DecidableEq, Repr

/-- The state of the block.  `regs` holds every BAR0 register that differs from its reset value, by byte offset; the other
fields hold what the manual gives the device beside its registers.  `freeCtr` is the model's own: it counts the free
values drawn (log entry 1). -/
structure State where
  pending : List Instr := []
  regs : Tab Word := []
  freeCtr : Nat := 0
  staged : List StagedCmd := []
  time : TimeSt := {}
  host : HostSt := {}
  eng : EngSt := {}
  tx : TxSt := {}
  flt : FltSt := {}
  frame : FrameSt := {}
  acq : AcqSt := {}
  rx : RxSt := {}
  trim : TrimSt := {}
  jrn : JrnSt := {}
  map : MapSt := {}
  haly : HalySt := {}
  pwr : PwrSt := {}
  mem : MemSt := {}
  pair : PairSt := {}
  sec : SecSt := {}
  obs : ObsSt := {}
  deriving DecidableEq, Repr

/-- The state after a power-on reset: every register at its reset value (R13, R46, R552), every queue empty. -/
def State.reset : State := {}

end Sys2Proof.Machine
end

