-- ==== Sys2Proof/Machine/Ops.lean ====
section
/-!
DEFINITION. The named operations over the state that every chapter uses: register words and fields, counters, free values,
power domains, events, completions and the global error log.
-/

namespace Sys2Proof.Machine

/-! ## Registers -/

/-- The word a register holds. -/
def State.reg (s : State) (a : Nat) : Word := Tab.get resetWord s.regs a

/-- The state with a register's word replaced. -/
def State.setReg (s : State) (a : Nat) (w : Word) : State := { s with regs := Tab.set resetWord s.regs a w }

/-- A field's value. -/
def State.f (s : State) (a : Nat) (x : Fld) : Nat := x.of (s.reg a)

/-- A one-bit field, as a truth value. -/
def State.b (s : State) (a : Nat) (x : Fld) : Bool := decide (x.of (s.reg a) ≠ 0)

/-- A field read as a two's complement number. -/
def State.i (s : State) (a : Nat) (x : Fld) : Int := signedOf x.w (s.f a x)

/-- The state with one field replaced. -/
def State.setF (s : State) (a : Nat) (x : Fld) (v : Nat) : State := s.setReg a (x.put (s.reg a) v)

/-- The state with one one-bit field replaced. -/
def State.setB (s : State) (a : Nat) (x : Fld) (v : Bool) : State := s.setF a x (if v then 1 else 0)

/-- The state with a signed field replaced. -/
def State.setI (s : State) (a : Nat) (x : Fld) (v : Int) : State := s.setF a x (patternOf x.w v)

/-- A counter field raised by `n`, stopping at its largest value. -/
def State.incF (s : State) (a : Nat) (x : Fld) (n : Nat) : State := s.setF a x (satAdd x.w (s.f a x) n)

/-- Several fields of one register replaced in turn. -/
def State.setFs (s : State) (a : Nat) (l : List (Fld × Nat)) : State :=
  s.setReg a (l.foldl (fun w p => p.1.put w p.2) (s.reg a))

/-- TICK_COUNT. -/
abbrev State.tick (s : State) : Nat := s.time.tick

/-! ## Free values (log entry 1) -/

/-- A free value below `n` (for `n` above 0), and the state that has used it. -/
def State.draw (s : State) (n : Nat) : Nat × State := (Config.freeNat s.freeCtr % n, { s with freeCtr := s.freeCtr + 1 })

/-- A free signed value and the state that has used it. -/
def State.drawInt (s : State) : Int × State := (Config.freeInt s.freeCtr, { s with freeCtr := s.freeCtr + 1 })

/-- `n` free signed values. -/
def State.drawInts : Nat → State → List Int × State
  | 0, s => ([], s)
  | n + 1, s =>
    let (v, s) := s.drawInt
    let (l, s) := State.drawInts n s
    (v :: l, s)

/-- A field set to a free value. -/
def State.freeF (s : State) (a : Nat) (x : Fld) : State :=
  let (v, s) := s.draw (2 ^ x.w)
  s.setF a x v

/-! ## Power domains (R464, R518, R547) -/

def domAON : Nat := 0
def domCTRL : Nat := 1
def domPCIE : Nat := 2
def domMAP : Nat := 3
def domGDDR : Nat := 4
def domSHRD : Nat := 5
def domHALY : Nat := 6
def domOct (o : Nat) : Nat := 7 + o
def domSG (g : Nat) : Nat := 23 + g
def domYFEC (y : Nat) : Nat := 39 + y

/-- PWR_DOM_STAT.STATE of a domain: 0 = On, 1 = Retention, 2 = Off (R547). -/
def State.domState (s : State) (d : Nat) : Nat := s.f (R.PWR_DOM_STAT d) F.PWR_DOM_STAT_STATE

/-- The domain is On. -/
def State.isOn (s : State) (d : Nat) : Bool := decide (s.domState d = 0)

/-- PWR_DOM_STAT.TRANS: 0 = NONE, 1 = ASKING, 2 = DELAYED, 3 = ENTERING, 4 = EXITING (R548). -/
def State.domTrans (s : State) (d : Nat) : Nat := s.f (R.PWR_DOM_STAT d) F.PWR_DOM_STAT_TRANS

/-- A domain carries clients: it is On, and no entry has been accepted (R42, R520). -/
def State.usable (s : State) (d : Nat) : Bool := s.isOn d && s.domTrans d != 3

/-- Clients pass through an octet: its domain, and the frame and error-correction domain of its die. -/
def State.octUsable (s : State) (o : Nat) : Bool := s.usable (domOct o) && s.usable (domYFEC (o / 4))

/-- Clients pass through a slot group. -/
def State.sgUsable (s : State) (g : Nat) : Bool := s.usable (domSG g) && s.usable (domYFEC (g / 4))

/-- The octet's domain is On. -/
def State.octOn (s : State) (o : Nat) : Bool := s.isOn (domOct o)

/-- The slot group's domain is On. -/
def State.sgOn (s : State) (g : Nat) : Bool := s.isOn (domSG g)

/-- The frame and error-correction domain that serves an octet is On (R9). -/
def State.yfecOn (s : State) (o : Nat) : Bool := s.isOn (domYFEC (o / 4))

/-- The domains in which a BAR0 offset lies (R464); none for reserved ranges. -/
def domainsAt (a : Nat) : List Nat :=
  let b := a / 0x10000
  let x := a % 0x10000
  if b = 0 ∨ b = 1 ∨ b = 4 ∨ b = 5 ∨ b = 6 ∨ b = 12 then [domAON]
  else if b = 2 then [domPCIE]
  else if b = 8 then (if x < 0x100 then [domAON] else [domSHRD])
  else if b = 9 then [domMAP]
  else if b = 10 then (if x < 0x8000 then [domAON] else [domGDDR])
  else if b = 11 then [domCTRL]
  else if 0x10 ≤ b ∧ b < 0x20 then
    (if 0x4000 ≤ x ∧ x < 0x5000 then [domOct (b - 0x10), domYFEC ((b - 0x10) / 4)] else [domOct (b - 0x10)])
  else if 0x20 ≤ b ∧ b < 0x30 then [domSG (b - 0x20)]
  else if 0x30 ≤ b ∧ b < 0x38 then [domMAP]
  else if 0x38 = b ∧ x < 0x8000 then [domHALY]
  else []

/-- The domain that keeps an offset from being accessed: the first of its domains that is not On (R465). -/
def State.blockedBy (s : State) (a : Nat) : Option Nat := (domainsAt a).find? fun d => !s.isOn d

/-! ## Events (R390, R391) -/

/-- OBJ and LANE where an event names none (R390). -/
def noObj : Nat := 0xFFFF
def noLane : Nat := 0xFF

/-- An event is produced. -/
def State.eventAt (s : State) (cause code obj lane : Nat) (clear : Bool) (args : List Nat) : State :=
  { s with host.evQ := s.host.evQ ++ [⟨code, obj, lane, clear, cause, args, s.tick⟩] }

/-- An event whose cause occurred in the present tick. -/
def State.event (s : State) (code obj lane : Nat) (args : List Nat) : State := s.eventAt s.tick code obj lane false args

/-- The same, with FLAGS.CLEAR. -/
def State.eventC (s : State) (code obj lane : Nat) (clear : Bool) (args : List Nat) : State :=
  s.eventAt s.tick code obj lane clear args

/-! ## Rings and completions -/

/-- A ring's context and state. -/
def State.ring (s : State) (r : Nat) : Ring := Tab.get (fun _ => {}) s.host.rings r

/-- The state with a ring replaced. -/
def State.setRing (s : State) (r : Nat) (x : Ring) : State :=
  { s with host.rings := Tab.set (fun _ => {}) s.host.rings r x }

/-- The completion of a host command is produced (R383, R384): it stops counting as outstanding.  After a Function Level
Reset the completion of a command accepted before it is discarded (R371). -/
def State.completeAt (s : State) (c : Cmd) (opcode status eff : Nat) (res : List (Nat × Nat × Nat)) : State :=
  let s := { s with
    host.outstanding := s.host.outstanding - 1, host.lastStatus := status }
  if c.epoch = s.host.epoch then
    let q := s.ring c.ring
    let s := if q.typ = 1 then s.setRing c.ring { q with outst := q.outst - 1 } else s
    { s with host.compQ := s.host.compQ ++ [⟨c.ring, opcode, status, c.hseq, eff, res, c.epoch, s.tick⟩] }
  else s

/-- A command completes OK; its EFF_TICK is the present tick (R388). -/
def State.ok (s : State) (c : Cmd) (opcode : Nat) (res : List (Nat × Nat × Nat)) : State :=
  s.completeAt c opcode St.OK s.tick res

/-- A command is refused: it is not executed (R388). -/
def State.refuse (s : State) (c : Cmd) (opcode status : Nat) : State := s.completeAt c opcode status 0 []

/-- A command whose origin may be the device itself completes; the device's own requests complete silently. -/
def State.completeO (s : State) (c : Option Cmd) (opcode status eff : Nat) (res : List (Nat × Nat × Nat)) : State :=
  match c with
  | some c => s.completeAt c opcode status eff res
  | none => s

/-! ## The pair (R410 to R425) -/

/-- This device holds PAIR_LOCK (R411). -/
def State.holdsLock (s : State) : Bool := s.b R.PAIR_STAT F.PAIR_STAT_HOLDER

/-- Bytes 0 to 123 of the descriptor that spells a command (R381), as a CMD record carries them (R421); reserved bytes are 0. -/
def descBytes (i : Instr) : List Byte :=
  match opcodeOf i, originOf i with
  | some op, some c =>
    ((argBytes i).foldl (fun b x => (b.take x.1 ++ leBytes x.2.1 x.2.2 ++ b.drop (x.1 + x.2.1)))
      (leBytes 1 op ++ leBytes 1 (if op = 0x38 ∨ op = 0x74 then 1 else 0) ++ leBytes 2 c.hseq ++ leBytes 4 0 ++ leBytes 8 c.eff
        ++ List.replicate 108 0)).take 124
  | _, _ => []

/-- A mirrored command that has taken effect goes into the MIRROR of this tick, and into the history of its client (R421, R424). -/
def State.mirrorOf (s : State) (i : Instr) (client : Nat) (delete : Bool) : State :=
  if s.host.lastStatus = St.OK then
    let b := descBytes i
    { s with
      pair.cmdOut := s.pair.cmdOut ++ [b],
      pair.cliCmds := if delete then s.pair.cliCmds.filter fun e => e.1 != client else s.pair.cliCmds ++ [(client, b)] }
  else s

/-- A command of R424 runs on the holder only (R425). -/
def State.ifHolder (s : State) (c : Cmd) (op : Nat) (i : Instr) (client : Nat) (g : State → State) : State :=
  if s.holdsLock then (g s).mirrorOf i client (decide (op = Op.CLIENT_DELETE)) else s.refuse c op St.NOT_ACTIVE

/-! ## Check-engine stream channels (R433, R435) -/

/-- A stream channel has computed a frame; a failed check counts as a mismatch. -/
def State.chkFrame (s : State) (ch : Nat) (good : Bool) : State :=
  let s := s.incF (R.CHK_CNT ch) F.CHK_CNT_FRAMES 1
  if good then s else s.incF (R.CHK_CNT ch) F.CHK_CNT_MISMATCH 1

/-! ## The global error log (R612, R613) -/

def logRESERVED : Nat := 1
def logLOCKED : Nat := 2
def logDOMAIN_OFF : Nat := 3
def logHALF_READ : Nat := 4
def logREFUSED : Nat := 5
def logVALUE : Nat := 6
def logUNMAPPED : Nat := 7
def logSIZE : Nat := 8

/-- A discarded or refused access enters the log; a full log only counts it (R612). -/
def State.logEntry (s : State) (e : LogEntry) : State :=
  let s := { s with host.logTotal := satAdd 32 s.host.logTotal 1 }
  if s.host.log.length < 64 then { s with host.log := s.host.log ++ [e] }
  else { s with host.logDrop := satAdd 16 s.host.logDrop 1 }

/-- The size code of an access of `n` bytes: the nearest size not below its byte count (R613). -/
def sizeCode (n : Nat) : Nat := if n ≤ 1 then 0 else if n ≤ 2 then 1 else if n ≤ 4 then 2 else 3

/-- A write to BAR0 is logged with a cause other than DOMAIN_OFF. -/
def State.logW (s : State) (a cause size : Nat) (fw : Bool) (v : Word) : State :=
  s.logEntry ⟨a, cause, true, fw, size, 63, 0, s.tick, v⟩

/-- A read of BAR0 is logged with a cause other than DOMAIN_OFF. -/
def State.logR (s : State) (a cause size : Nat) : State := s.logEntry ⟨a, cause, false, false, size, 63, 0, s.tick, 0⟩

/-- An access to a block whose domain is not On: logged, with at most one OFF_ACCESS event a tick (R465). -/
def State.offAccess (s : State) (a d size : Nat) (wr fw : Bool) (v : Word) : State :=
  let s := s.logEntry ⟨a, logDOMAIN_OFF, wr, fw, size, d, 0, s.tick, v⟩
  if s.host.offPosted then s else { s.event Ev.OFF_ACCESS noObj noLane [a, d] with host.offPosted := true }

/-- A status-like number of a truth value. -/
def bit (x : Bool) : Nat := if x then 1 else 0

/-- Bit `k` of a number. -/
def bitOf (n k : Nat) : Bool := (n / 2 ^ k) % 2 = 1

/-- A number with bit `k` set or cleared. -/
def withBit (n k : Nat) (v : Bool) : Nat :=
  if bitOf n k then (if v then n else n - 2 ^ k) else (if v then n + 2 ^ k else n)

/-- The bits set in the `w` lowest places of a number, ascending. -/
def bitsOf (w n : Nat) : List Nat := (List.range w).filter (bitOf n ·)

/-- An update made once for each element of a list, in order. -/
def State.each {α : Type} (s : State) (l : List α) (g : α → State → State) : State := l.foldl (fun s x => g x s) s

end Sys2Proof.Machine
end

