-- ==== Sys2Proof/Machine/Perf.lean ====
section
/-!
DEFINITION. What other chapters use of the instruments of chapter 17: the pattern registers of a lane (R600, R601), the event counters
(R587, R588) and the histogram units (R589).
-/

namespace Sys2Proof.Machine

/-! ## Pattern and loop registers (R597, R600) -/

/-- The base of a lane's pattern registers by type: 0 line, 1 slot, 2 Shroud, 3 timing port. -/
def patBase (t i l : Nat) : Nat :=
  if t = 0 then R.PAT_CTL_O i l else if t = 1 then R.PAT_CTL_G i l else if t = 2 then R.PAT_CTL_S l else R.PAT_CTL_T i

/-- A lane has a generator or a loop set (R586). -/
def State.patOn (s : State) (t i l : Nat) : Bool :=
  let w := s.reg (patBase t i l)
  decide (F.PAT_CTL_GEN.of w ≠ 0) || decide (F.PAT_CTL_LOOP.of w ≠ 0)

/-! ## Event counters (R587, R588) -/

/-- The gate of the event counters is open: always, or from the tick of PERF_WIN_START up to that of PERF_WIN_STOP. -/
def State.perfOpen (s : State) : Bool :=
  s.isOn domCTRL && (s.f R.PERF_CTL F.PERF_CTL_GATE == 0
    || (decide (s.f R.PERF_WIN_START F.PERF_WIN_START_TICK ≤ s.tick % 2 ^ 48)
      && decide (s.tick % 2 ^ 48 < s.f R.PERF_WIN_STOP F.PERF_WIN_STOP_TICK)))

/-- The counters that count an event: PERF_SEL differs from its reset value on each. -/
def State.perfUnits (s : State) (ev : Nat) : List Nat :=
  (s.regs.filter fun (e : Nat × Word) => decide (R.PERF_SEL 0 ≤ e.1) && decide (e.1 < R.PERF_SEL 256)
    && F.PERF_SEL_EN.of e.2 == 1 && F.PERF_SEL_EVENT.of e.2 == ev).map fun e => (e.1 - R.PERF_SEL 0) / 8

/-- An event occurs `n` times: every counter that names it counts, while the gate is open. -/
def State.perf (s : State) (ev n : Nat) : State :=
  if s.perfOpen then s.each (s.perfUnits ev) fun k s => s.incF (R.PERF_CNT k) F.PERF_CNT_CNT n else s

/-- An event that occurs a number of times that the manual does not give: free, below a bound (log entry 1). -/
def State.perfFree (s : State) (ev bound : Nat) : State :=
  if s.perfOpen && !(s.perfUnits ev).isEmpty then
    let (n, s) := s.draw bound
    s.perf ev n
  else s

/-- The event number of a client's errored or replaced data: two groups of 256 clients. -/
def perfClient (g c : Nat) : Nat := 256 * (g + c / 256) + c % 256

/-! ## Histograms (R589) -/

/-- The bin of a sample. -/
def histBin (base w x : Nat) : Nat := if x < base then 0 else min 63 ((x - base) / w)

/-- A sample enters a unit. -/
def State.histAdd (s : State) (u x : Nat) : State :=
  let c := R.HIST_CTL u
  if !s.b c F.HIST_CTL_EN || s.b c F.HIST_CTL_FREEZE then s
  else
    let b := histBin (s.f (R.HIST_CFG u) F.HIST_CFG_BASE) (s.f (R.HIST_CFG u) F.HIST_CFG_BIN_W) x
    let top := 2 ^ 64 - 1
    let full := (List.range 64).any fun k => s.f (R.HIST_BIN u k) F.HIST_BIN_CNT == top
    let s := s.incF (R.HIST_BIN u b) F.HIST_BIN_CNT 1
    let s := if !full && s.f (R.HIST_BIN u b) F.HIST_BIN_CNT == top then s.event Ev.HIST_SAT u noLane [b] else s
    let s := s.incF (R.HIST_SUM u) F.HIST_SUM_SUM x
    let v := min x (2 ^ 24 - 1)
    s.setFs (R.HIST_STAT u) [(F.HIST_STAT_MIN, min v (s.f (R.HIST_STAT u) F.HIST_STAT_MIN)),
      (F.HIST_STAT_MAX, max v (s.f (R.HIST_STAT u) F.HIST_STAT_MAX))]

/-- The units that measure a source with an argument. -/
def State.histUnits (s : State) (src : Nat) (arg : Option Nat) : List Nat :=
  (List.range 16).filter fun u => s.b (R.HIST_CTL u) F.HIST_CTL_EN && s.f (R.HIST_CTL u) F.HIST_CTL_SRC == src
    && (match arg with | some a => s.f (R.HIST_CTL u) F.HIST_CTL_ARG == a | none => true)

/-- A time as a sample of a unit: in 0.1 ns, or in 1 us (SCALE). -/
def State.runSample (s : State) (u ns : Nat) : Nat := if s.b (R.HIST_CFG u) F.HIST_CFG_SCALE then ns / 1000 else 10 * ns

/-- The time from the acceptance of a descriptor to the write of its completion (SRC 2 and 3): the ticks of the two are known, and
where in them each falls is free (log entry 1), so it is within one tick of the difference.  A descriptor that was not accepted gives no sample. -/
def State.histCommand (s : State) (ring hseq : Nat) : State :=
  let k := 65536 * ring + hseq
  match s.host.accAt.find? fun (e : Nat × Nat) => e.1 == k with
  | none => s
  | some (_, a) =>
    let s := { s with host.accAt := Tab.erase s.host.accAt k }
    let us := s.histUnits 2 (some ring) ++ s.histUnits 3 none
    if us.isEmpty then s
    else
      let d := 10000 * (s.tick - a)
      let (x, s) := s.draw (10000 + min d 10000)
      s.each us fun u s => s.histAdd u (s.runSample u (d - 10000 + x))

end Sys2Proof.Machine
end

