-- ==== Sys2Proof/Machine/Records.lean ====
section
/-!
DEFINITION. The records that the device writes to host memory (R370, R387 to R396): entries, headers, free space, interrupts,
the events, and records of telemetry and message rings.
-/

namespace Sys2Proof.Machine

/-- A list of bytes with those from `off` on replaced. -/
def putBytes (b : List Byte) (off : Nat) (x : List Byte) : List Byte := b.take off ++ x ++ b.drop (off + x.length)

/-- A list of bytes with an `n`-byte number placed at `off`, least significant byte first. -/
def putLE (b : List Byte) (off n v : Nat) : List Byte := putBytes b off (leBytes n v)

/-- A record entry of 64 bytes with numbers placed at (offset, length, value); the others are 0. -/
def entryOf (l : List (Nat × Nat × Nat)) : List Byte :=
  l.foldl (fun b x => putLE b x.1 x.2.1 x.2.2) (List.replicate 64 0)

/-- Entry 0 with the header of R387. -/
def withHeader (e : List Byte) (dseq kind entries tick : Nat) : List Byte :=
  putLE (putLE (putLE (putLE e 0 4 dseq) 4 2 kind) 6 2 entries) 8 8 tick

/-- An entry with the CRC-32C over bytes 0 to 59 in bytes 60 to 63. -/
def withCrc (e : List Byte) : List Byte := putLE e 60 4 (crc32c (e.take 60))

/-- The device sequence number after `d` (R396). -/
def nextDseq (d : Nat) : Nat := if d = 0xFFFFFFFF then 1 else d + 1

/-- Entries of a ring. -/
def Ring.size (q : Ring) : Nat := 2 ^ q.log2

/-- Entries that a ring holds. -/
def Ring.held (q : Ring) : Nat := (q.tail + q.size - q.head) % q.size

/-- Free entries of a device-written ring: 2^n - 1 less the unread ones and, in a CQ, the reservations (R386). -/
def Ring.free (q : Ring) : Nat := q.size - 1 - q.held - (if q.typ = 2 then q.resv else 0)

/-- One posted write to host memory. -/
def State.dma (s : State) (addr : Nat) (data : List Byte) : State :=
  { s with host.dmaOut := s.host.dmaOut ++ [⟨addr, data⟩] }

/-- The host-memory address of entry `i` of a ring. -/
def Ring.entryAddr (q : Ring) (i : Nat) : Nat := q.base + 64 * (i % q.size)

/-- The entries of a record are written from the ring's TAIL on, entry 0 last (R370).  The header of entry 0 is given its
DSEQ here. -/
def State.writeEntries (s : State) (r kind tick : Nat) (es : List (List Byte)) (crc : Bool) : State :=
  let q := s.ring r
  let d := nextDseq q.lastDseq
  let e0 := withHeader (es.headD []) d kind es.length tick
  let e0 := if crc then withCrc e0 else e0
  let s := if crc then s.chkFrame 1 true else s
  let s := (List.range es.length).tail.foldl (fun s j => s.dma (q.entryAddr (q.tail + j)) (es.getD j [])) s
  let s := s.dma (q.entryAddr q.tail) e0
  s.setRing r { q with
    tail := (q.tail + es.length) % q.size
    lastDseq := d
    unread := q.unread ++ [(es.length, s.tick)] }

/-- Ring records can be written to host memory: the link is up and the device is in D0 (R372, R608). -/
def State.canWrite (s : State) : Bool := s.host.linkUp && !s.host.d3

/-- A record that is dropped takes its DSEQ (R394). -/
def State.takeDseq (s : State) (r : Nat) : State :=
  let q := s.ring r
  s.setRing r { q with lastDseq := nextDseq q.lastDseq }

/-- The link-down count of dropped records (R372). -/
def State.countDown (s : State) : State :=
  if s.canWrite then s else { s with host.downDrops := s.host.downDrops + 1 }

/-- A telemetry or message record is written, or dropped whole with its DSEQ, a count and a REC_DROP event (R394). -/
def State.writeRecord (s : State) (r kind tick : Nat) (es : List (List Byte)) : State :=
  let q := s.ring r
  if s.canWrite && q.state == 1 && decide (es.length ≤ q.free) then s.writeEntries r kind tick es false
  else
    let s := ((s.takeDseq r).countDown.incF R.RING_CNT2 F.RING_CNT2_REC_DROP 1).perf 0xB03 1
    s.event Ev.REC_DROP r noLane [nextDseq q.lastDseq, es.length]

/-- The body of an event entry (R390). -/
def eventEntry (e : EvRec) : List Byte :=
  entryOf [(16, 2, e.code), (18, 2, e.obj), (20, 1, e.lane), (21, 1, if e.clear then 1 else 0), (24, 8, e.cause),
    (32, 8, e.args.getD 0 0), (40, 8, e.args.getD 1 0), (48, 8, e.args.getD 2 0)]

/-- An event is written to one event ring, preceded by EVT_LOST after drops, or dropped (R394). -/
def State.writeEvent (s : State) (e : EvRec) (r : Nat) : State :=
  let q := s.ring r
  let need := if q.lost.isSome then 2 else 1
  if s.canWrite && q.state == 1 && decide (need ≤ q.free) then
    let s := match q.lost with
      | some (n, a, z) =>
        let s := s.writeEntries r 2 s.tick
          [eventEntry ⟨Ev.EVT_LOST, r, noLane, false, s.tick, [n, a, z], s.tick⟩] true
        s.setRing r { s.ring r with lost := none }
      | none => s
    (s.writeEntries r 2 e.tick [eventEntry e] true).perf 0xB02 1
  else
    let d := nextDseq q.lastDseq
    let s := (s.takeDseq r).countDown.incF R.RING_CNT2 F.RING_CNT2_EVT_DROP 1
    s.setRing r { s.ring r with
      lost := match q.lost with
        | some (n, a, _) => some (n + 1, a, d)
        | none => some (1, d, d) }

/-- The event rings that subscribe to a category, in ascending order (R392). -/
def State.subscribers (s : State) (cat : Nat) : List Nat :=
  (s.host.rings.filter fun x => x.2.typ == 3 && bitOf x.2.ctxC.toNat cat).map (·.1)

/-- An event is written to every ring that subscribes to its category, or counted where none does (R392). -/
def State.deliverEvent (s : State) (e : EvRec) : State :=
  match s.subscribers (e.code / 256) with
  | [] => s.incF R.RING_CNT2 F.RING_CNT2_EVT_DROP 1
  | rs => s.each rs fun r s => s.writeEvent e r

/-- A completion entry (R388). -/
def compEntry (c : CompRec) : List Byte :=
  entryOf ([(16, 1, c.opcode), (17, 1, c.status), (18, 2, c.hseq), (20, 2, c.ring), (24, 8, c.eff)] ++ c.res)

/-- A completion of a customer task's command goes into the task's inbox, which keeps the latest 64 (R571; log entry 68). -/
def State.inboxAdd (s : State) (c : CompRec) : State :=
  let t := c.ring - 65536
  let l := Tab.get (fun _ => []) s.sec.inbox t ++ [compEntry c]
  { s with sec.inbox := Tab.set (fun _ => []) s.sec.inbox t (l.drop (l.length - 64)) }

/-- A completion is written to the completion ring of its submission ring, and its reservation is released (R386, R389).  A
completion whose ring is gone, or whose completion ring is halted, goes nowhere. -/
def State.deliverCompletion (s : State) (c : CompRec) : State :=
  let cq := (s.ring c.ring).cq
  let q := s.ring cq
  if (s.ring c.ring).typ = 1 ∧ q.typ = 2 ∧ q.state = 1 then
    let s := s.setRing cq { q with resv := q.resv - 1 }
    ((s.writeEntries cq 1 c.tick [compEntry c] true).perf 0xB01 1).histCommand c.ring c.hseq
  else if 65536 ≤ c.ring then s.inboxAdd c
  else s

/-- The interrupt condition of a device-written ring (R393). -/
def State.intReady (s : State) (r : Nat) : Bool :=
  let q := s.ring r
  match q.unread with
  | [] => false
  | (_, t) :: _ =>
    decide (2 ≤ q.typ) && q.intEn && !q.signalled
      && (decide (q.modCount ≤ q.unread.length) || decide (t + q.modTicks ≤ s.tick))

/-- Entries freed by a head doorbell: whole records leave the unread list, the first of the others may be part read. -/
def freeEntries : Nat → List (Nat × Nat) → List (Nat × Nat)
  | _, [] => []
  | k, (n, t) :: l => if n ≤ k then freeEntries (k - n) l else (n - k, t) :: l

/-- An event RING_HALT with its arguments (R406). -/
def State.halt (s : State) (r cause : Nat) : State :=
  let q := s.ring r
  let s := s.setRing r { q with state := 2, cause := cause }
  s.event Ev.RING_HALT r noLane [cause, q.head, q.expHseq]

end Sys2Proof.Machine
end

