-- ==== Sys2Proof/Machine/TimeOps.lean ====
section
/-!
DEFINITION. The time base (chapter 2): counters, output timescale, offset, timestamps and the staging of commands.
-/

namespace Sys2Proof.Machine

/-- Counter units (2^-40 ns) in a nanosecond, a second, and a tick of 10,000 ns. -/
def unitNs : Nat := 2 ^ 40
def unitSec : Nat := 1000000000 * unitNs
def unitTick : Nat := 10000 * unitNs

/-- A counter wraps after 2^48 seconds (R79). -/
def cntMod : Nat := 2 ^ 48 * unitSec

/-- Units of OUT_OFFSET in one counter unit (R69: one tick at one ppb of slew is 2^35 of them). -/
def offUnit : Nat := 3125

/-- The counter of domain `d`. -/
def State.cnt (s : State) (d : Nat) : Nat := if d = 0 then s.time.cntA else s.time.cntB

/-- The counter of a domain replaced. -/
def State.setCnt (s : State) (d v : Nat) : State :=
  if d = 0 then { s with time.cntA := v % cntMod } else { s with time.cntB := v % cntMod }

/-- A counter moved by a signed number of counter units; it wraps. -/
def State.moveCnt (s : State) (d : Nat) (v : Int) : State :=
  s.setCnt d (((s.cnt d : Int) + v) % (cntMod : Int)).toNat

/-- DOM_INCR of a domain: what one 625 MHz cycle adds (R59). -/
def State.incr (s : State) (d : Nat) : Nat := s.f (R.DOM_INCR d) F.DOM_INCR_INCR

/-- What one 625 MHz cycle adds to a counter now: nothing while the counters hold (R60, R62). -/
def State.stepNow (s : State) (d : Nat) : Nat := if s.time.holdover then 0 else s.incr d

/-- A domain's counter `cyc` cycles after the tick edge. -/
def State.cntAt (s : State) (d cyc : Nat) : Nat := (s.cnt d + cyc * s.stepNow d) % cntMod

/-- The output timescale in offset units, `cyc` cycles after the tick edge (R43). -/
def State.outAt (s : State) (cyc : Nat) : Int :=
  ((s.cnt s.time.active + cyc * s.stepNow s.time.active) * offUnit : Nat) + s.time.off

/-- |OUT_OFFSET| may not exceed 1 ms (R64, R68). -/
def offLimit : Nat := 1000000 * unitNs * offUnit

/-- OUT_OFFSET as TS_OFFSET shows it, in 2^-16 ns, rounded down. -/
def offShown (off : Int) : Int := off / ((offUnit * 2 ^ 24 : Nat) : Int)

/-- A counter value as a timestamp: fraction, nanoseconds, seconds, in 96 bits from the low end (R79, R320). -/
def ts96 (c : Nat) : Nat :=
  (c / 2 ^ 24) % 2 ^ 16 + 2 ^ 16 * ((c / unitNs) % 1000000000) + 2 ^ 48 * ((c / unitSec) % 2 ^ 48)

/-- The _NS word of a counter value: fraction and nanoseconds (R79). -/
def nsWord (c : Nat) : Word := BitVec.ofNat 64 ((c / 2 ^ 24) % 2 ^ 16 + 2 ^ 16 * ((c / unitNs) % 1000000000))

/-- The _SEC word of a counter value (R79). -/
def secWord (c : Nat) : Word := BitVec.ofNat 64 ((c / unitSec) % 2 ^ 48)

/-- Cycles from the present edge to the first at which the output timescale reaches a number of offset units; none where
the active counter does not advance. -/
def State.cyclesTo (s : State) (target : Int) : Option Nat :=
  let need := target - s.outAt 0
  let g := s.incr s.time.active * offUnit
  if need ≤ 0 then some 0 else if g = 0 then none else some ((need.toNat + g - 1) / g)

/-- TICK_IDX: the tick within the second (R44). -/
def State.tickIdx (s : State) : Nat := s.tick % 100000

/-- A command is staged (R49, R50). -/
def State.stage (s : State) (x : StagedCmd) : State := { s with staged := s.staged ++ [x] }

/-- Commands with a non-zero EFFECTIVE_TICK that are pending (R50). -/
def State.scheduled (s : State) : Nat := (s.staged.filter fun x => !x.zero).length

/-- The slew of one tick (R69): OUT_OFFSET moves toward zero by SLEW_PPB parts per billion of a tick, and stops there. -/
def State.slew (s : State) : State :=
  let m : Int := (s.f R.TS_CTL F.TS_CTL_SLEW_PPB * 2 ^ 35 : Nat)
  let off := s.time.off
  if off = 0 then s
  else
    let off' := if off < 0 then (if -off ≤ m then 0 else off + m) else (if off ≤ m then 0 else off - m)
    { s with time.off := off', time.slewDone := s.time.slewDone || decide (off' = 0) }

/-- DOM_ADJ takes effect (R64): the domain's counter moves, and for the active domain OUT_OFFSET moves the other way. -/
def State.domAdj (s : State) (d : Nat) (adj : Int) : State :=
  let m := adj * (2 ^ 24 : Nat)
  let s' := s.moveCnt d m
  if d = s.time.active then { s' with time.off := s.time.off - m * offUnit } else s'

/-- An adjustment of the active domain keeps OUT_OFFSET within its limit (R64). -/
def State.domAdjOk (s : State) (d : Nat) (adj : Int) : Bool :=
  decide (d ≠ s.time.active) || decide ((s.time.off - adj * (2 ^ 24 : Nat) * offUnit).natAbs ≤ offLimit)

/-- The seconds of a domain are set, its nanoseconds unchanged (R63). -/
def State.domSetSec (s : State) (d sec : Nat) : State := s.setCnt d (sec * unitSec + s.cnt d % unitSec)

/-- A trigger unit's programmed time, in 2^-16 ns (R77, R82). -/
def State.trigTime (s : State) (k : Nat) : Nat :=
  s.f (R.TRIG_TIME_SEC k) F.TRIG_SEC_SEC * 1000000000 * 2 ^ 16 + s.f (R.TRIG_TIME_NS k) F.TRIG_NS_NS * 2 ^ 16
    + s.f (R.TRIG_TIME_NS k) F.TRIG_NS_FRAC

/-- A trigger unit's programmed time replaced. -/
def State.setTrigTime (s : State) (k t : Nat) : State :=
  let ns := t / 2 ^ 16
  (s.setReg (R.TRIG_TIME_NS k) (BitVec.ofNat 64 (t % 2 ^ 16 + 2 ^ 16 * (ns % 1000000000)))).setReg (R.TRIG_TIME_SEC k)
    (BitVec.ofNat 64 ((ns / 1000000000) % 2 ^ 48))

/-- The time that a trigger unit compares, in 2^-16 ns, `cyc` cycles after the tick edge: domain A, domain B or the output
timescale (R73, R82). -/
def State.trigNow (s : State) (k cyc : Nat) : Int :=
  let d := s.f (R.TRIG_CTL k) F.TRIG_CTL_DOM
  if d < 2 then ((s.cntAt d cyc / 2 ^ 24 : Nat) : Int) else offShown (s.outAt cyc)

/-- A reference input shows edges. -/
def State.refOk (s : State) (d : Nat) : Bool := if d = 0 then s.time.refA else s.time.refB

/-- The reference in use moves through the phase-aligning switch, with a REF_SWITCH event (R61). -/
def State.refSwitch (s : State) (d : Nat) : State :=
  if s.time.refUse = d then s else { s with time.refUse := d }.event Ev.REF_SWITCH noObj noLane []

/-! ## The control clock (R528) -/

/-- TICK_BUDGET: the normal budgets, or one quarter of them on the oscillator. -/
def State.budgets (s : State) (pll : Bool) : State :=
  let b := fun k => Config.tickBudget k / (if pll then 1 else 4) % 65536
  s.setFs R.TICK_BUDGET [(F.TICK_BUDGET_CMD_NS, b 0), (F.TICK_BUDGET_TASK_NS, b 1), (F.TICK_BUDGET_TRIM_NS, b 2),
    (F.TICK_BUDGET_TELEM_NS, b 3)]

/-- The control cluster moves to the system PLL, or falls back to the oscillator. -/
def State.coreClk (s : State) (pll : Bool) : State :=
  if s.b R.PWR_STAT F.PWR_STAT_CORE_CLK = pll then s
  else ((s.setB R.PWR_STAT F.PWR_STAT_CORE_CLK pll).budgets pll).event Ev.CORE_CLK noObj noLane [bit pll]

end Sys2Proof.Machine
end

