-- ==== Sys2Proof/Machine/FltOps.lean ====
section
/-!
DEFINITION. Fault managers (R446 to R451): arming, the classification of a fault, the retry window and the hour count.  What a
permanent fault or a retry does stands with the unit concerned.
-/

namespace Sys2Proof.Machine

/-- The kinds of manager: 0 = receive line lane, 1 = slot PHY (named by its start lane), 2 = octet transmit (R476). -/
def State.fltUnit (s : State) (k u l : Nat) : FltUnit :=
  if k = 0 then Tab.get (fun _ => {}) s.flt.lane (9 * u + l)
  else if k = 1 then Tab.get (fun _ => {}) s.flt.sl (16 * u + l)
  else Tab.get (fun _ => {}) s.flt.oct u

/-- The state with a manager replaced. -/
def State.setFlt (s : State) (k u l : Nat) (x : FltUnit) : State :=
  if k = 0 then { s with flt.lane := Tab.set (fun _ => {}) s.flt.lane (9 * u + l) x }
  else if k = 1 then { s with flt.sl := Tab.set (fun _ => {}) s.flt.sl (16 * u + l) x }
  else { s with flt.oct := Tab.set (fun _ => {}) s.flt.oct u x }

/-- The status register of a manager (R479, R480). -/
def fltReg (k u l : Nat) : Nat := if k = 0 then R.FLT_LANE u l else if k = 1 then R.FLT_SL u l else R.FLT_OCT_STAT u

/-- The control register of a manager's block. -/
def fltCtl (k u : Nat) : Nat := if k = 1 then R.FLT_CTL_G u else R.FLT_CTL_O u

/-- FLT STATE of a manager: 0 = OK, 1 = RETRYING, 2 = OUTAGE, 3 = PERMANENT (R480). -/
def State.fltState (s : State) (k u l : Nat) : Nat := s.f (fltReg k u l) F.FLT_LANE_STATE

/-- FLT STATE replaced. -/
def State.setFltState (s : State) (k u l v : Nat) : State := s.setF (fltReg k u l) F.FLT_LANE_STATE v

/-- The manager's block enables it. -/
def State.fltEn (s : State) (k u : Nat) : Bool := s.b (fltCtl k u) F.FLT_CTL_O_EN

/-- Retries in the last 100,000 ticks (R448). -/
def fltWindow (now : Nat) (x : FltUnit) : List Nat := x.retries.filter fun t => decide (now < t + 100000)

/-- The hour is the bucket in progress and the 59 before it (R448). -/
def fltHours (now : Nat) (x : FltUnit) : List (Nat × Nat) := x.hours.filter fun b => decide (now / 6000000 < b.1 + 60)

/-- Faults in the hour. -/
def fltHourCount (now : Nat) (x : FltUnit) : Nat := (fltHours now x).foldl (fun n b => n + b.2) 0

/-- A fault is added to the bucket in progress. -/
def fltAddHour (now : Nat) (l : List (Nat × Nat)) : List (Nat × Nat) :=
  match l with
  | (b, n) :: t => if b = now / 6000000 then (b, n + 1) :: t else (now / 6000000, 1) :: l
  | [] => [(now / 6000000, 1)]

/-- RETRIES and HOUR_CNT follow the windows. -/
def State.fltRefresh (s : State) (k u l : Nat) : State :=
  let x := s.fltUnit k u l
  let x := { x with retries := fltWindow s.tick x, hours := fltHours s.tick x }
  (s.setFlt k u l x).setFs (fltReg k u l) [(F.FLT_LANE_RETRIES, min 3 x.retries.length),
    (F.FLT_LANE_HOUR_CNT, min 255 (fltHourCount s.tick x))]

/-- A manager is armed where its block enables it (R446). -/
def State.fltArm (s : State) (k u l : Nat) : State :=
  if s.fltEn k u && !(decide (k < 2) && s.patOn k u l) then s.setFlt k u l { s.fltUnit k u l with armed := true } else s

/-- A manager is disarmed: it counts nothing, and a retry in progress is forgotten (R446). -/
def State.fltDisarm (s : State) (k u l : Nat) : State :=
  let s := s.setFlt k u l { s.fltUnit k u l with armed := false, limit := none, los := none }
  if s.fltState k u l = 3 then s else s.setFltState k u l 0

/-- The retry in progress completes (R449). -/
def State.fltRetryDone (s : State) (k u l : Nat) : State :=
  let s := s.setFlt k u l { s.fltUnit k u l with limit := none }
  if s.fltState k u l = 1 then s.setFltState k u l 0 else s

/-- LANE of a manager's events. -/
def fltLane (k l : Nat) : Nat := if k = 2 then noLane else l

/-- A fault occurs (R447, R448).  The answer is 0 where the manager counts nothing, 1 for a transient fault, whose retry must
complete within `lim` ticks (0: it is complete at once), and 2 for a permanent one. -/
def State.fltFault (s : State) (k u l kind lim : Nat) : State × Nat :=
  let x := s.fltUnit k u l
  if !x.armed || s.fltState k u l == 2 || s.fltState k u l == 3 then (s, 0)
  else
    let win := fltWindow s.tick x
    let cnt := fltHourCount s.tick x
    let x := { x with retries := win, hours := fltAddHour s.tick (fltHours s.tick x), limit := none }
    let s := s.setFs (fltReg k u l) [(F.FLT_LANE_KIND, kind), (F.FLT_LANE_TICK, s.tick % 2 ^ 48)]
    let cause := if 3 ≤ win.length then 1
      else if s.f (fltCtl k u) F.FLT_CTL_O_RATE_MAX < cnt + 1 then 2 else 0
    if cause = 0 then
      let x := { x with retries := s.tick :: win, limit := if lim = 0 then none else some (s.tick + lim) }
      let s := (s.setFlt k u l x).setFltState k u l (if lim = 0 then 0 else 1)
      ((s.fltRefresh k u l).event Ev.FLT_TRANSIENT u (fltLane k l) [kind, win.length + 1], 1)
    else
      let s := (s.setFlt k u l x).setFltState k u l 3
      ((s.fltRefresh k u l).event Ev.FLT_PERMANENT u (fltLane k l) [cause, kind], 2)

/-- The retry in progress has missed its limit (R449). -/
def State.fltLate (s : State) (k u l : Nat) : Bool :=
  match (s.fltUnit k u l).limit with
  | some t => decide (t ≤ s.tick)
  | none => false

/-- RAW_LOS has been held for LOS_MAX ticks since it was last counted (R447). -/
def State.fltLosLong (s : State) (k u l : Nat) : Bool :=
  match (s.fltUnit k u l).los with
  | some t => decide (t + s.f (fltCtl k u) F.FLT_CTL_O_LOS_MAX ≤ s.tick)
  | none => false

/-- FLT_CLEAR empties the windows; it ends PERMANENT on a slot PHY and on an octet's transmitter, and never on a line lane that
is retired (R450, R476). -/
def State.fltClear (s : State) (k u l : Nat) : State :=
  let s := s.setFlt k u l { s.fltUnit k u l with retries := [], hours := [] }
  let s := s.fltRefresh k u l
  if s.fltState k u l = 3 ∧ k ≠ 0 then s.setFltState k u l 0 else s

end Sys2Proof.Machine
end

