-- ==== Sys2Proof/Machine/EngOps.lean ====
section
/-!
DEFINITION. Engine DAC channels (R483 to R498): queues, owners, spans, ramp codes, clears and preloaded ramps.
-/

namespace Sys2Proof.Machine

/-- An engine DAC channel. -/
def State.ch (s : State) (c : Nat) : EdacCh := Tab.get (fun _ => {}) s.eng.ch c

/-- The state with a channel replaced. -/
def State.setCh (s : State) (c : Nat) (x : EdacCh) : State := { s with eng.ch := Tab.set (fun _ => {}) s.eng.ch c x }

/-- Channels of a lane: BIAS, MOD and TRIM of line lane 9 o + l (R9). -/
def biasCh (o l : Nat) : Nat := 3 * (9 * o + l)
def modCh (o l : Nat) : Nat := 3 * (9 * o + l) + 1
def trimCh (o l : Nat) : Nat := 3 * (9 * o + l) + 2

/-- The octet and the clear group of a channel (R492). -/
def chOct (c : Nat) : Nat := c / 27
def chGroup (c : Nat) : Nat := c / 108

/-- A code as the number it stands for in a span: two's complement in span 2 (R483). -/
def codeVal (span v : Nat) : Int := if span = 2 then signedOf 16 v else (v % 65536 : Nat)

/-- Code `i` of a ramp of `n` steps from `a` to `b`: a + round((b - a) i / n), halves away from zero (R106). -/
def rampVal (a b : Int) (i n : Nat) : Int := a + roundDiv ((b - a) * i) n

/-- The same on the 16-bit codes of a span. -/
def rampCode (span a b i n : Nat) : Nat := patternOf 16 (rampVal (codeVal span a) (codeVal span b) i n)

/-- A clear group's clear is in force through its pin or its FORCE_CLR bit (R492). -/
def State.groupClear (s : State) (k : Nat) : Bool := bitOf s.eng.clrPin k || bitOf (s.f R.EDAC_CTL F.EDAC_CTL_FORCE_CLR) k

/-- An octet's fault clear is in force: ENG_FAULT_N asserted and its FAULT_CLR bit set (R492). -/
def State.faultClear (s : State) (o : Nat) : Bool :=
  bitOf (s.f R.IN_LEVEL F.IN_LEVEL_LEVEL) o && bitOf (s.f R.EDAC_CTL F.EDAC_CTL_FAULT_CLR) o

/-- A clear is in force on an octet's channels; a hard stop acts as one (R542). -/
def State.octClear (s : State) (o : Nat) : Bool := s.groupClear (o / 4) || s.faultClear o || decide (s.pwr.stop = .hard)

/-- A clear is in force on a channel (R492). -/
def State.chClear (s : State) (c : Nat) : Bool := s.octClear (chOct c)

/-- A running preloaded ramp names the channel. -/
def State.inRamp (s : State) (c : Nat) : Bool :=
  s.eng.ramps.any fun x => match x.2 with
    | some q => q.chans.any fun y => y.1 == c
    | none => false

/-- The lane whose launch ramp engine owns a channel: BIAS and MOD channels with LAUNCH_OWN set (R105). -/
def State.launchOwns (s : State) (c : Nat) : Bool :=
  decide (c % 3 ≠ 2) && s.b (R.TX_LANE_CTL (c / 27) (c / 3 % 9)) F.TX_LANE_CTL_LAUNCH_OWN

/-- LR_STAT.STATE: 0 = IDLE, 1 = RUN, 2 = DONE (R515). -/
def State.lrState (s : State) : Nat := s.f R.LR_STAT F.LR_STAT_STATE

/-- OWNER of a channel (R486, R493, R496, R498). -/
def State.owner (s : State) (c : Nat) : Nat :=
  if s.eng.resetHold || decide (s.lrState ≠ 0) || (s.ch c).held || s.chClear c then 3
  else if s.inRamp c then 2 else if s.launchOwns c then 1 else 0

/-- A code is applied to a channel at the present edge; during a span change it waits in the queue (R488). -/
def State.applyCode (s : State) (c v : Nat) : State :=
  let x := s.ch c
  if x.spanPend then s.setCh c { x with queue := x.queue ++ [v] } else s.setCh c { x with code := v, atClear := false, lastApply := if x.code = v then x.lastApply else some s.tick }

/-- The clear code of a channel (R495). -/
def State.clearCode (s : State) (c : Nat) : Nat := s.f (R.EDAC_CLR c) F.EDAC_CLR_CODE

/-- A channel is driven to its clear code with its queue flushed (R493). -/
def State.driveClear (s : State) (c : Nat) : State :=
  s.setCh c { s.ch c with queue := [], code := s.clearCode c, atClear := true, held := true, lastApply := some s.tick }

/-- A channel that is driven at its clear code follows the register that holds it (R493, R496; log entry 109). -/
def State.followClear (s : State) (c : Nat) : State :=
  let x := s.ch c
  if x.atClear ∧ x.code ≠ s.clearCode c then s.setCh c { x with code := s.clearCode c, lastApply := some s.tick } else s

/-- A channel leaves every preloaded ramp and the last ramp (R491, R498). -/
def State.dropFromRamps (s : State) (c : Nat) : State :=
  { s with
    eng.ramps := s.eng.ramps.map fun x => (x.1, x.2.map fun q => { q with chans := q.chans.filter fun y => y.1 != c })
    eng.lrFrom := s.eng.lrFrom.filter fun y => y.1 != c }

/-- A clear takes a channel (R491, R493). -/
def State.clearCh (s : State) (c : Nat) : State := (s.driveClear c).dropFromRamps c

/-- The channels of an octet. -/
def octChans (o : Nat) : List Nat := (List.range 27).map (27 * o + ·)

/-- Queue pops at a tick edge (R485): every channel remembers the code it had, and one with a queue, outside a span change,
applies the head. -/
def State.popCh (s : State) (c : Nat) : State :=
  let x := { s.ch c with prev := (s.ch c).code }
  match x.queue with
  | [] => s.setCh c x
  | v :: q =>
    if x.spanPend then s.setCh c x
    else s.setCh c { x with queue := q, code := v, atClear := false, lastApply := if x.code = v then x.lastApply else some s.tick }

/-- The countdown of a span change (R488). -/
def State.spanTick (s : State) (c : Nat) : State :=
  let x := s.ch c
  if x.spanPend then s.setCh c { x with spanLeft := x.spanLeft - 1 } else s

/-- Every channel that differs from its resting state. -/
def State.chans (s : State) : List Nat := s.eng.ch.map (·.1)

/-- EDAC_QUEUE_POP at a tick edge, with the countdown of span changes. -/
def State.popAll (s : State) : State := s.each s.chans fun c s => (s.spanTick c).popCh c

/-- CLEAR_OWNER_RETURN at a tick edge: a channel that no clear covers returns to its owner (R493, R496). -/
def State.ownerReturn (s : State) : State :=
  let s := { s with eng.resetHold := false }
  s.each s.chans fun c s => let x := s.ch c; if x.held && !s.chClear c then s.setCh c { x with held := false } else s

/-- A SPAN write lands (R488): the output goes to 0 V for two edges. -/
def State.spanStart (s : State) (c : Nat) : State :=
  s.setCh c { s.ch c with code := 0, spanLeft := 2, spanPend := true, lastApply := some s.tick }

/-- A ramp slot. -/
def State.ramp (s : State) (k : Nat) : Option RampRun := Tab.get (fun _ => none) s.eng.ramps k

/-- The state with a ramp slot replaced. -/
def State.setRamp (s : State) (k : Nat) (x : Option RampRun) : State :=
  { s with eng.ramps := Tab.set (fun _ => none) s.eng.ramps k x }

/-- Entries of a ramp slot: channels and targets (R490). -/
def State.rampEntries (s : State) (k : Nat) : List (Nat × Nat) :=
  (List.range (s.f (R.EDAC_RAMP_CTL k) F.EDAC_RAMP_CTL_COUNT)).map fun j =>
    (s.f (R.EDAC_RAMP_ENT k j) F.EDAC_RAMP_ENT_CH, s.f (R.EDAC_RAMP_ENT k j) F.EDAC_RAMP_ENT_TARGET)

/-- Why a ramp cannot start (R491): CHAN_OWNED for OWNER 1, ENG_CLEARED for OWNER 3, RAMP_BUSY for the others. -/
def State.rampRefusal (s : State) (k : Nat) : Option Nat :=
  let es := (s.rampEntries k).map (·.1)
  if es.any fun c => s.owner c == 1 then some St.CHAN_OWNED
  else if es.any fun c => s.owner c == 3 then some St.ENG_CLEARED
  else if (s.ramp k).isSome || es.any (fun c => s.inRamp c || (s.ch c).spanPend) then some St.RAMP_BUSY
  else none

/-- The codes of a ramp's step `i`. -/
def State.rampApply (s : State) (q : RampRun) (i : Nat) : State :=
  s.each q.chans fun y s => s.applyCode y.1 (rampCode (s.ch y.1).span y.2.1 y.2.2 i q.ticks)

/-- A preloaded ramp starts at the present edge (R490): its queues are flushed, and its first code is applied.  It runs from
the codes applied before this edge. -/
def State.rampStart (s : State) (k : Nat) (cmd : Option Cmd) : State :=
  let chans := (s.rampEntries k).map fun e => (e.1, (s.ch e.1).prev, e.2)
  let q : RampRun := ⟨s.tick, s.f (R.EDAC_RAMP_CTL k) F.EDAC_RAMP_CTL_TICKS, 1, chans, cmd⟩
  let s := s.each chans fun y s => s.setCh y.1 { s.ch y.1 with queue := [] }
  (s.rampApply q 1).setRamp k (some q)

/-- Preloaded ramps step at a tick edge. -/
def State.rampStep (s : State) (k : Nat) : State :=
  match s.ramp k with
  | some q =>
    if q.step < q.ticks then (s.rampApply q (q.step + 1)).setRamp k (some { q with step := q.step + 1 }) else s
  | none => s

/-- All slots step. -/
def State.rampsStep (s : State) : State := s.each (s.eng.ramps.map (·.1)) fun k s => s.rampStep k

end Sys2Proof.Machine
end

