-- ==== Sys2Proof/Machine/HalyOps.lean ====
section
/-!
DEFINITION. The Halyard modems (chapter 9): local conditions, path health, message format, the transmit queue and the firmware
backlog, and the cutting of a transmission.
-/

namespace Sys2Proof.Machine

/-- An octet's modem. -/
def State.hal (s : State) (o : Nat) : HalyOct := Tab.get (fun _ => {}) s.haly.oct o

/-- The state with an octet's modem replaced. -/
def State.setHal (s : State) (o : Nat) (x : HalyOct) : State :=
  { s with haly.oct := Tab.set (fun _ => {}) s.haly.oct o x }

/-- The octet is in standard mode (R194). -/
def State.stdMode (s : State) (o : Nat) : Bool := s.b (R.FRM_CTL o) F.FRM_CTL_MODE

/-- A modem serves its octet (R303). -/
def State.halServes (s : State) (o : Nat) : Bool := s.isOn domHALY && s.octOn o && s.b (R.HALY_CTL o) F.HALY_CTL_EN

/-- Shared mode (R327). -/
def State.halShared (s : State) (o : Nat) : Bool := s.b (R.HALY_SHARE o) F.HALY_SHARE_SHARED

/-- TX_LANE_STAT.STATE of a lane (R117). -/
def State.txState (s : State) (o l : Nat) : Nat := s.f (R.TX_LANE_STAT o l) F.TX_LANE_STAT_STATE

/-- A transmit lane is LIT or in RAMP_STEP. -/
def State.txLit (s : State) (o l : Nat) : Bool := s.txState o l == 3 || s.txState o l == 4

/-- CONV_STAT.TX_STATE and RX_STATE (R238). -/
def State.convTx (s : State) (o : Nat) : Nat := s.f (R.CONV_STAT o) F.CONV_STAT_TX_STATE
def State.convRx (s : State) (o : Nat) : Nat := s.f (R.CONV_STAT o) F.CONV_STAT_RX_STATE
def State.convTxLane (s : State) (o : Nat) : Nat := s.f (R.CONV_STAT o) F.CONV_STAT_TX_LANE
def State.convRxLane (s : State) (o : Nat) : Nat := s.f (R.CONV_STAT o) F.CONV_STAT_RX_LANE

/-- LC carries a bridged lane: BRIDGING, RETIRING or CONVERTED (R223). -/
def State.txBridged (s : State) (o : Nat) : Bool := s.convTx o == 2 || s.convTx o == 3 || s.convTx o == 4

/-- The transmit lane that carries the slots of octet lane `p`: LC once that lane is bridged and going or gone (R223). -/
def State.txCarrier (s : State) (o p : Nat) : Nat :=
  if (s.convTx o == 3 || s.convTx o == 4) && s.convTxLane o == p then 8 else p

/-- A transmit lane is retired (R236). -/
def State.txRetired (s : State) (o l : Nat) : Bool := bitOf (s.f (R.RETIRE_STAT o) F.RETIRE_STAT_TX_RETIRED) l

/-- A receive lane is retired. -/
def State.rxRetired (s : State) (o l : Nat) : Bool := bitOf (s.f (R.RETIRE_STAT o) F.RETIRE_STAT_RX_RETIRED) l

/-- A path meets its local conditions (R319): 0 = SUB, 1 = REL. -/
def State.halLocal (s : State) (o p : Nat) : Bool :=
  if p = 0 then
    s.halServes o && s.txLit o 8 && !s.patOn 0 o 8 && (s.stdMode o || (s.b (R.TONE_CTL o) F.TONE_CTL_TONE_EN && !s.txBridged o))
  else
    let c := s.txCarrier o 0
    s.halServes o && !s.stdMode o && s.txLit o c && !s.txRetired o c && !s.halShared o

/-- Flags of HALY_STAT by path. -/
def fUP (p : Nat) : Fld := if p = 0 then F.HALY_STAT_SUB_UP else F.HALY_STAT_REL_UP
def fHEARD (p : Nat) : Fld := if p = 0 then F.HALY_STAT_SUB_HEARD else F.HALY_STAT_REL_HEARD
def fFAR (p : Nat) : Fld := if p = 0 then F.HALY_STAT_FAR_SUB_HEARD else F.HALY_STAT_FAR_REL_HEARD

/-- A path is UP (R321). -/
def State.halUp (s : State) (o p : Nat) : Bool := s.b (R.HALY_STAT o) (fUP p)

/-- The _UP flag of a path follows its conditions; a change posts HALY_PATH (R321). -/
def State.halRefresh (s : State) (o p : Nat) : State :=
  let up := s.halLocal o p && s.b (R.HALY_STAT o) (fFAR p)
  if up = s.halUp o p then s else (s.setB (R.HALY_STAT o) (fUP p) up).eventC Ev.HALY_PATH o noLane (!up) []

/-- Both paths of an octet. -/
def State.halRefresh2 (s : State) (o : Nat) : State := (s.halRefresh o 0).halRefresh o 1

/-- RX_STATE and TX_STATE of HALY_STAT (R337). -/
def State.halRx (s : State) (o : Nat) : Nat := s.f (R.HALY_STAT o) F.HALY_STAT_RX_STATE
def State.halTx (s : State) (o : Nat) : Nat := s.f (R.HALY_STAT o) F.HALY_STAT_TX_STATE
def State.setHalRx (s : State) (o v : Nat) : State :=
  { s with haly := if v = 0 then (s.setHal o { s.hal o with idle := true }).haly else s.haly }.setF (R.HALY_STAT o) F.HALY_STAT_RX_STATE v
def State.setHalTx (s : State) (o v : Nat) : State := s.setF (R.HALY_STAT o) F.HALY_STAT_TX_STATE v

/-! ## Message format (R306, R308, R309) -/

/-- Symbols of a message of `len` payload bytes on SUB (R306). -/
def halSymbols (len : Nat) : Nat := 96 + 2 * (102 + 8 * len)

/-- The 64 preamble bits of a message on SUB (R306). -/
def halPreamble : List Bool := List.replicate 64 true

/-- The parity of the bits of `v` that a mask names, over a window of seven. -/
def convParity (mask v : Nat) : Bool := (List.range 7).foldl (fun x k => xor x (bitOf mask k && bitOf v k)) false

/-- The rate-1/2 encoder of constraint length 7 (R306): `r` holds the last six input bits, the latest in bit 5; the output of generator
171 octal comes first.  DEDUCED (log entry 136): a generator's first octal digit is the tap of the latest bit. -/
def convEncode : Nat → List Bool → List Bool
  | _, [] => []
  | r, b :: l =>
    let w := 64 * bit b + r
    convParity 121 w :: convParity 91 w :: convEncode (w / 2) l

/-- The coded part of a message before its encoder: header, payload, CRC-32 and six zero tail bits (R306, R308). -/
def halCoded (hdr : Nat) (payload : List Byte) : List Bool :=
  let body := leBytes 8 hdr ++ payload
  (body ++ leBytes 4 (crc32 body)).flatMap (fun b => natBits 8 b.toNat) ++ List.replicate 6 false

/-- The bits that a message puts on SUB, one each symbol (R306). -/
def halSubBits (hdr : Nat) (payload : List Byte) : List Bool :=
  halPreamble ++ natBits 32 0x5E39A4C7 ++ convEncode 0 (halCoded hdr payload)

/-- The subcarrier's phases under differential BPSK: a 1 inverts the phase at the start of its symbol (R305). -/
def halPhases : Bool → List Bool → List Bool
  | _, [] => []
  | ph, b :: l => xor ph b :: halPhases (xor ph b) l

/-- Bits 0 to 47 of a header. -/
def halHeader48 (typ len alive src dst : Nat) : Nat :=
  typ + 2 ^ 8 * len + 2 ^ 19 * alive + 2 ^ 35 * src + 2 ^ 38 * dst

/-- The header check over bits 0 to 47 (R309, R434). -/
def halHcrc (h48 : Nat) : Nat := crc16 0xFFFF (leBytes 6 h48)

/-- A whole header. -/
def halHeader (typ len alive src dst : Nat) : Nat :=
  let h := halHeader48 typ len alive src dst
  h + 2 ^ 48 * halHcrc h

/-- Fields of a header. -/
def hdrType (h : Nat) : Nat := h % 256
def hdrLen (h : Nat) : Nat := h / 2 ^ 8 % 2 ^ 11
def hdrAlive (h : Nat) : Nat := h / 2 ^ 19 % 2 ^ 16
def hdrSrc (h : Nat) : Nat := h / 2 ^ 35 % 2 ^ 3
def hdrDst (h : Nat) : Nat := h / 2 ^ 38 % 2 ^ 4

/-- A header carries a reserved encoding (R308, R309): a reserved value of LEN or DST. DEDUCED (log entry 112): the reserved bits
42 to 47 are ignored. -/
def hdrReserved (h : Nat) : Bool :=
  decide (1024 < hdrLen h) || (decide (8 ≤ hdrDst h) && decide (hdrDst h < 15))

/-- The header check passes. -/
def hdrOk (h : Nat) : Bool := decide (h / 2 ^ 48 % 2 ^ 16 = halHcrc (h % 2 ^ 48))

/-- The bytes of a message on REL (R326). -/
def relBytes (hdr : Nat) (payload : List Byte) : List Byte :=
  let body := leBytes 8 hdr ++ payload
  leBytes 4 0x5E39A4C7 ++ body ++ leBytes 4 (crc32 body)

/-! ## Queue and backlog (R323) -/

/-- A message placed behind those of its class and of lower class numbers. -/
def halInsert (m : HalyMsg) : List HalyMsg → List HalyMsg
  | [] => [m]
  | x :: l => if x.cls ≤ m.cls then x :: halInsert m l else m :: x :: l

/-- A message placed before those of its own class. -/
def halPushFront (m : HalyMsg) : List HalyMsg → List HalyMsg
  | [] => [m]
  | x :: l => if x.cls < m.cls then x :: halPushFront m l else m :: x :: l

/-- Messages that take queue entries: those waiting and the one in flight. -/
def HalyOct.depth (h : HalyOct) : Nat := h.queue.length + (if h.flight.isSome then 1 else 0)

/-- The backlog moves into the queue as entries free (R323). -/
def HalyOct.refill (h : HalyOct) : HalyOct :=
  match h.backlog with
  | [] => h
  | m :: l => if h.depth < 64 then { h with queue := halInsert m h.queue, backlog := l } else h

/-- The first message of the highest class number, removed. -/
def dropClass (c : Nat) : List HalyMsg → List HalyMsg
  | [] => []
  | x :: l => if x.cls = c then l else x :: dropClass c l

/-- A firmware message enters the queue or the backlog; a full backlog drops one (R323).  The backlog is kept in class order,
arrival order within a class. -/
def HalyOct.enqueueFw (h : HalyOct) (m : HalyMsg) : HalyOct × Bool :=
  if h.depth < 64 then ({ h with queue := halInsert m h.queue }, false)
  else if h.backlog.length < 64 then ({ h with backlog := halInsert m h.backlog }, false)
  else
    let top := h.backlog.foldl (fun c x => max c x.cls) 0
    if top < m.cls then (h, true)
    else if top = 1 then (h, true)
    else ({ h with backlog := halInsert m (dropClass top h.backlog) }, true)

/-- A waiting beacon of the same path is replaced by a later one (R323). -/
def HalyOct.dropBeacon (h : HalyOct) (choice : Nat) : HalyOct :=
  { h with
    queue := h.queue.filter fun m => !(m.choice == choice)
    backlog := h.backlog.filter fun m => !(m.choice == choice) }

/-- The destination of a firmware message: the partner in shared mode, all stations for a beacon and point to point (R328,
log entry 20). -/
def State.halDst (s : State) (o choice : Nat) : Nat :=
  if s.halShared o && decide (choice < 4) then s.f (R.HALY_SHARE o) F.HALY_SHARE_PARTNER else 15

/-- Firmware queues a message (R323). -/
def State.halSendFw (s : State) (o typ cls choice : Nat) (payload : List Byte) : State :=
  if s.halServes o then
    let m : HalyMsg := ⟨typ, payload, cls, none, s.halDst o choice, choice, 1 + s.f (R.HALY_CTL o) F.HALY_CTL_REPEAT, [], 0,
      0, 0, 0, none, s.tick, none⟩
    let h := s.hal o
    let h := if 4 ≤ choice then h.dropBeacon choice else h
    let (h, drop) := h.enqueueFw m
    let s := s.setHal o h
    if drop then s.incF (R.HALY_TX_CNT o) F.HALY_TX_CNT_FW_DROP_CNT 1 else s
  else s

/-- A firmware message on the path that HALY_CTL.TX_PATH names (R322). -/
def State.halFw (s : State) (o typ cls : Nat) (payload : List Byte) : State :=
  s.halSendFw o typ cls (s.f (R.HALY_CTL o) F.HALY_CTL_TX_PATH) payload

/-- A conversion message (R311): TYPE, lane, CODE and FC.  A RETIRE waits for the modem (R228). -/
def State.halConv (s : State) (o typ lane code fc : Nat) : State :=
  if typ = 0x15 ∧ s.halServes o = false then s.setHal o { s.hal o with retire := (s.hal o).retire ++ [lane] }
  else s.halFw o typ 1 (leBytes 2 (s.f (R.FRM_CTL o) F.FRM_CTL_TAG_TX) ++ leBytes 1 lane ++ leBytes 1 code ++ leBytes 6 fc
    ++ leBytes 6 0)

/-- The subcarrier has gone: the transmitter is idle, a gated receiver returns to IDLE, and a shared slot is over (R307, R313). -/
def State.halIdle (s : State) (o : Nat) : State :=
  let s := s.setHalTx o 0
  let s := if s.halRx o = 4 then s.setHalRx o 0 else s
  s.setHal o { s.hal o with inSlot := false }

/-- The subcarrier is removed at once, or begins its ramp down (R324). -/
def State.halQuiet (s : State) (o : Nat) (abrupt : Bool) : State := if abrupt then s.halIdle o else s.setHalTx o 3

/-- The transmission in flight on SUB is cut (R324): the message returns to the head of its class.  An abrupt cut removes the
subcarrier at once, the others ramp it down. -/
def State.halCut (s : State) (o : Nat) (abrupt : Bool) : State :=
  match (s.hal o).flight with
  | some (m, 0) =>
    let h := s.hal o
    let s := s.setHal o { h with flight := none, queue := halPushFront { m with todo := 0 :: m.todo } h.queue }
    (s.incF (R.HALY_TX_CNT o) F.HALY_TX_CNT_TX_CUT 1).halQuiet o abrupt
  | _ => if s.halTx o = 0 then s else s.halQuiet o abrupt

/-- Queued messages are dropped, a transmission being cut first (R324), and queued HOST messages complete with DOMAIN_OFF (R334); a RETIRE waits on (R228). -/
def State.halDropAll (s : State) (o : Nat) : State :=
  let s := s.halCut o false
  let h := s.hal o
  let ms := (match h.flight with | some (m, _) => [m] | none => []) ++ h.queue
  let s := s.each ms fun m s => s.completeO m.cmd Op.HALY_SEND St.DOMAIN_OFF 0 []
  let lanes := ((ms ++ h.backlog).filter fun m => m.typ == 0x15).map fun m => ofLeBytes ((m.payload.drop 2).take 1)
  s.setHal o { s.hal o with
    queue := [], backlog := [], flight := none, relOut := [], relNew := false, retire := (s.hal o).retire ++ lanes }

/-- The modem stops serving (R303, R313): the receiver goes to IDLE. -/
def State.halStop (s : State) (o : Nat) : State :=
  let s := s.setHalRx o 0
  (s.setHal o { s.hal o with inSlot := false }).halRefresh2 o

/-- A beacon joins the last sixteen of its path, newest first; one sent again after a cut counts once. -/
def noteBeacon (e : Nat × Nat × Nat) (l : List (Nat × Nat × Nat)) : List (Nat × Nat × Nat) :=
  (e :: l.filter fun x => x.1 != e.1).take 16

/-! ## Messages on REL (R326) -/

/-- Whether the relay bytes begin with the sync word. -/
def relSync (l : List (Byte × Nat × Nat × Nat)) : Bool := ((l.take 4).map (·.1)) == leBytes 4 0x5E39A4C7

/-- The relay bytes from the first possible start of a message on. -/
def relSeek : List (Byte × Nat × Nat × Nat) → List (Byte × Nat × Nat × Nat)
  | [] => []
  | x :: l => if 3 ≤ l.length ∧ relSync (x :: l) = false then relSeek l else x :: l

/-- One message is taken from the relay bytes where they hold one: a sync word that no good header follows is passed over, and a reserved
encoding is discarded (R309); a complete message is checked and waits to be handled (R326, log entry 136). -/
def State.relOne (s : State) (o : Nat) : State :=
  let l := relSeek (s.hal o).relIn
  let num := fun a n => ofLeBytes (((l.drop a).take n).map (·.1))
  let hdr := num 4 8
  let n := hdrLen hdr
  let keep := fun (s : State) (r : List (Byte × Nat × Nat × Nat)) => s.setHal o { s.hal o with relIn := r }
  if l.length < 12 then keep s l
  else if hdrOk hdr = false then keep (s.chkFrame 6 false) (l.drop 4)
  else if hdrReserved hdr = true then keep ((s.chkFrame 6 true).incF (R.HALY_CNT2 o) F.HALY_CNT2_DISCARD_CNT 1) (l.drop 12)
  else if l.length < 16 + n then keep s l
  else
    let body := ((l.drop 4).take (8 + n)).map (·.1)
    let good := decide (num (12 + n) 4 = crc32 body)
    let s := (keep s (l.drop (16 + n))).chkFrame 6 true |>.chkFrame 5 good
    match l with
    | (_, pos, a, b) :: _ =>
      if good then s.setHal o { s.hal o with relGot := (s.hal o).relGot ++ [(hdr, pos, a, b, body.drop 8)] }
      else s.incF (R.HALY_CNT o) F.HALY_CNT_CRC_FAIL 1
    | [] => s

/-- The relay field of overhead codeword 4 (R325, R326): its bytes join those received, and the messages that they complete are taken: at most
eight, the shortest message having 16 bytes.  `cyc` is the cycle in which the codeword starts at the lane's land (R317). -/
def State.relField (s : State) (o : Nat) (bs : List Byte) (cyc : Nat) : State :=
  if s.halServes o && !s.stdMode o && !s.halShared o then
    let a := ts96 (s.cntAt 0 cyc)
    let b := ts96 (s.cntAt 1 cyc)
    let s := s.setHal o { s.hal o with relIn := (s.hal o).relIn ++ bs.zipIdx.map fun e => (e.1, e.2, a, b) }
    (List.range 16).foldl (fun s _ => s.relOne o) s
  else s

/-- A truncated reception (R314). -/
def State.halTrunc (s : State) (o : Nat) : State :=
  let h := (s.hal o).rxHdr
  (s.incF (R.HALY_CNT2 o) F.HALY_CNT2_TRUNC_CNT 1).event Ev.HALY_TRUNC o noLane [hdrSrc h, hdrType h, hdrAlive h]

end Sys2Proof.Machine
end

