-- ==== Sys2Proof/Machine/TxOps.lean ====
section
/-!
DEFINITION. The line transmitters (chapter 3): octet synthesisers, loop timing, launch ramps and the lane state machine.
-/

namespace Sys2Proof.Machine

/-- A transmit lane's hidden state. -/
def State.txl (s : State) (o l : Nat) : TxLane := Tab.get (fun _ => {}) s.tx.lane (9 * o + l)

/-- The state with a transmit lane replaced. -/
def State.setTxl (s : State) (o l : Nat) (x : TxLane) : State :=
  { s with tx.lane := Tab.set (fun _ => {}) s.tx.lane (9 * o + l) x }

/-- An octet's transmitter. -/
def State.txo (s : State) (o : Nat) : TxOct := Tab.get (fun _ => {}) s.tx.oct o

/-- The state with an octet's transmitter replaced. -/
def State.setTxo (s : State) (o : Nat) (x : TxOct) : State := { s with tx.oct := Tab.set (fun _ => {}) s.tx.oct o x }

/-- The octet's line lanes. -/
def lanes9 : List Nat := List.range 9

/-- The octet temperature in 0.01 °C: sensor 0 to 3 of its Yard die (R500). -/
def State.octTemp (s : State) (o : Nat) : Int := s.i (R.THERM_SENS (8 * (1 + o / 4) + o % 4)) F.THERM_SENS_TEMP

/-! ## Synthesisers (R91 to R95) -/

/-- The state of synthesiser `y` (R115). -/
def State.syn (s : State) (o y : Nat) : Nat :=
  s.f (R.TX_SYN_STAT o) (if y = 0 then F.TX_SYN_STAT_STATE_A else F.TX_SYN_STAT_STATE_B)

/-- RUN_VALID and RUN_SYN follow the states. -/
def State.synFlags (s : State) (o : Nat) : State :=
  let a := s.syn o 0 == 5
  let b := s.syn o 1 == 5
  s.setFs (R.TX_SYN_STAT o) [(F.TX_SYN_STAT_RUN_VALID, bit (a || b)), (F.TX_SYN_STAT_RUN_SYN, bit (b && !a))]

/-- A synthesiser enters a state at the present tick. -/
def State.setSyn (s : State) (o y v : Nat) : State :=
  let s := s.setF (R.TX_SYN_STAT o) (if y = 0 then F.TX_SYN_STAT_STATE_A else F.TX_SYN_STAT_STATE_B) v
  let x := s.txo o
  (s.setTxo o (if y = 0 then { x with entA := s.tick } else { x with entB := s.tick })).synFlags o

/-- The tick at which a synthesiser entered its state. -/
def State.synEnt (s : State) (o y : Nat) : Nat := if y = 0 then (s.txo o).entA else (s.txo o).entB

/-- A synthesiser is in RUN. -/
def State.synRun (s : State) (o : Nat) : Bool := s.b (R.TX_SYN_STAT o) F.TX_SYN_STAT_RUN_VALID

/-- A calibration, relock or alignment is in progress (R92). -/
def State.synBusy (s : State) (o : Nat) : Bool :=
  let p := fun v => v == 2 || v == 3 || v == 4
  p (s.syn o 0) || p (s.syn o 1) || (s.txo o).runNext != 0

/-- The synthesiser on which a calibration runs (R91), or none where it is in FAIL (R92). -/
def State.synTarget (s : State) (o : Nat) : Option Nat :=
  if s.syn o 0 = 5 then (if s.syn o 1 = 6 then none else some 1)
  else if s.syn o 1 = 5 then (if s.syn o 0 = 6 then none else some 0)
  else
    let p := s.f (R.TX_SYN_CTL o) F.TX_SYN_CTL_PREF
    if s.syn o p ≠ 6 then some p else if s.syn o (1 - p) ≠ 6 then some (1 - p) else none

/-- A calibration starts, unless one is in progress; the answer says whether one runs or is merged with. -/
def State.synCal (s : State) (o : Nat) : State × Bool :=
  if s.synBusy o then (s, true)
  else match s.synTarget o with
    | some y =>
      let s := s.setSyn o y 3
      (s.setTxo o { s.txo o with calSyn := y + 1 }, true)
    | none => (s, false)

/-- The SYN_CAL commands that wait complete (R92, R401). -/
def State.synDone (s : State) (o st : Nat) (hand : Bool) : State :=
  let x := s.txo o
  let y := x.calSyn - 1
  let s := s.setTxo o { x with waiting := [], calSyn := 0 }
  s.each x.waiting fun c s => s.completeAt c Op.SYN_CAL st c.eff [(32, 1, y), (33, 1, bit hand),
    (34, 2, s.f (R.TX_SYN_CAL o y) F.TX_SYN_CAL_CAL_TEMP), (40, 8, s.tick)]

/-- A synthesiser goes to FAIL (R93). -/
def State.synFail (s : State) (o y ev : Nat) : State :=
  let s := (s.setSyn o y 6).incF (R.TX_SYN_STAT o) F.TX_SYN_STAT_CAL_FAIL_CNT 1
  (s.event ev o noLane []).synDone o St.SYN_CAL_FAIL false

/-- Synthesisers in FAIL go to IDLE (R93, R449). -/
def State.synUnfail (s : State) (o : Nat) : State :=
  s.each [0, 1] fun y s => if s.syn o y = 6 then s.setSyn o y 1 else s

/-- Synthesiser `y` enters RUN at the next tick edge. -/
def State.synSoon (s : State) (o y : Nat) (hand : Bool) : State :=
  s.setTxo o { s.txo o with runNext := y + 1, handover := hand }

/-- The tick edge at which a synthesiser enters RUN (R93): a handover idles the other one, any other start sets the frame phase
(R89).  The octet's fault manager is armed by the first RUN and its retry completes (R446, R449). -/
def State.synEdge (s : State) (o : Nat) : State :=
  let x := s.txo o
  if x.runNext = 0 then s
  else
    let y := x.runNext - 1
    let hand := x.handover && s.syn o (1 - y) == 5
    let s := s.setTxo o { x with
      runNext := 0, handover := false, lossTick := none, ran := true, phase := (if hand then x.phase else 0) }
    let s := s.setSyn o y 5
    let s := if hand then
        ((s.setSyn o (1 - y) 1).incF (R.TX_SYN_STAT o) F.TX_SYN_STAT_HANDOVER_CNT 1).event Ev.HANDOVER o noLane []
      else s.setI (R.LOOP_STAT o) F.LOOP_STAT_PHASE_ERR 0
    let s := if x.ran then s else s.fltArm 2 o 0
    (s.fltRetryDone 2 o 0).synDone o St.OK hand

/-- The octet temperature lies within PLL_DT of a synthesiser's CAL_TEMP. -/
def State.synWarm (s : State) (o y : Nat) : Bool :=
  decide ((s.octTemp o - s.i (R.TX_SYN_CAL o y) F.TX_SYN_CAL_CAL_TEMP).natAbs ≤ 50 * s.f (R.TX_SYN_CTL o) F.TX_SYN_CTL_PLL_DT)

/-- The octet domain has left On: both synthesisers are DOWN (R93). -/
def State.synDown (s : State) (o : Nat) : State :=
  let x := s.txo o
  let was := if s.syn o 0 = 5 then 1 else if s.syn o 1 = 5 then 2 else 0
  let s := s.setTxo o { x with wasRun := was, runNext := 0, handover := false, lossTick := none, calNext := false, ran := false }
  (s.setSyn o 0 0).setSyn o 1 0

/-- The octet domain has entered On (R93): from Off both are IDLE with no calibration; from Retention the one that ran relocks
where its calibration still holds. -/
def State.synUp (s : State) (o : Nat) (fromOff : Bool) : State :=
  s.each [0, 1] fun y s =>
    if fromOff then
      let x := s.txo o
      (s.setSyn o y 1).setTxo o (if y = 0 then { x with validA := false } else { x with validB := false })
    else
      let warm := s.synWarm o y
      if (s.txo o).wasRun = y + 1 ∧ warm = true then s.setSyn o y 2
      else
        let s := s.setSyn o y 1
        let x := s.txo o
        s.setTxo o (if y = 0 then { x with validA := x.validA && warm } else { x with validB := x.validB && warm })

/-! ## Loop timing (R97 to R100) -/

/-- The source that LOOP_CTL.SRC names reports loss of signal or of lock (R97, R316). -/
def State.loopLost (s : State) (o : Nat) : Bool :=
  if s.b (R.LOOP_CTL o) F.LOOP_CTL_SRC then !s.b (R.HALY_STAT o) F.HALY_STAT_SUB_HEARD
  else !(List.range 8).any fun l => s.f (R.ACQ_LANE_STAT o l) F.ACQ_LANE_STAT_STATE == 6

/-- The offset that the source measures, in 0.01 ppb: the modem's FOFS, or the data lanes' figure, which no register shows
(free, log entry 1). -/
def State.loopMeasured (s : State) (o : Nat) : Int × State :=
  if s.b (R.LOOP_CTL o) F.LOOP_CTL_SRC then (s.i (R.HALY_RX_LVL o) F.HALY_RX_LVL_FOFS, s) else s.drawInt

/-- The steer moves by no more than STEER_SLEW and stays within STEER_MAX (R97). -/
def steerMove (slew mx : Nat) (cur goal : Int) : Int :=
  clampInt (-(mx : Int)) mx (cur + clampInt (-(slew : Int)) slew (goal - cur))

/-- The phase limit in units of the accumulator, 10^-11 symbol. -/
def State.loopLimit (s : State) (o : Nat) : Int := (s.f (R.LOOP_CTL o) F.LOOP_CTL_PHASE_LIM * 10 ^ 11 : Nat)

/-- Symbols of a frame (R89). -/
def frameSymbols : Nat := 2332800

/-- One tick of loop timing (R97, R98, R100).  A positive steer makes the transmitter fast and moves the frame start earlier.  A steer that
would carry the phase to the limit or beyond stops there within the tick, so that no frame starts outside it.
After a holdover the steer first pulls the frame start back, without the clamp (R62).  With EN clear, HOLD reads 0 (log entry 127). -/
def State.loopTick (s : State) (o : Nat) : State :=
  let r := R.LOOP_STAT o
  let cur := s.i r F.LOOP_STAT_STEER
  let slew := s.f (R.LOOP_CTL o) F.LOOP_CTL_STEER_SLEW
  if (s.txo o).pull then
    let mx := 10000 * s.f (R.LOOP_CTL o) F.LOOP_CTL_STEER_MAX
    let ph := (s.txo o).phase
    let st := steerMove slew mx cur (ph / (frameSymbols : Int))
    let ph' := ph - st * frameSymbols
    let ph' := if ph'.natAbs < frameSymbols then 0 else ph'
    let s := s.setTxo o { s.txo o with phase := ph', pull := decide (ph' ≠ 0) }
    (s.setI r F.LOOP_STAT_STEER st).setI r F.LOOP_STAT_PHASE_ERR (clampInt (-(2 ^ 23)) (2 ^ 23 - 1) (roundDiv (16 * ph') (10 ^ 11)))
  else if s.b (R.LOOP_CTL o) F.LOOP_CTL_EN then
    let lost := s.loopLost o
    let (goal, s) := if lost then (cur, s) else s.loopMeasured o
    let mx := 10000 * s.f (R.LOOP_CTL o) F.LOOP_CTL_STEER_MAX
    let want := if lost then cur else steerMove slew mx cur goal
    let s := s.setB r F.LOOP_STAT_HOLD lost
    if s.stdMode o then s.setI r F.LOOP_STAT_STEER want
    else
      let ph := (s.txo o).phase
      let lim := s.loopLimit o
      let full := ph - want * frameSymbols
      let clamp := decide (lim ≤ (full.natAbs : Int)) && decide (ph.natAbs < full.natAbs)
      let st := if clamp then 0 else want
      let ph' := if !clamp then full else if lim ≤ (ph.natAbs : Int) then ph else if 0 ≤ full then lim else -lim
      let was := s.b r F.LOOP_STAT_CLAMP
      let now := if clamp then true else was && decide (ph' = ph)
      let s := s.setTxo o { s.txo o with phase := ph' }
      let s := ((s.setI r F.LOOP_STAT_STEER st).setI r F.LOOP_STAT_PHASE_ERR (roundDiv (16 * ph') (10 ^ 11))).setB r
        F.LOOP_STAT_CLAMP now
      if now && !was then s.event Ev.LOOP_CLAMP o noLane [] else s
  else (s.setI r F.LOOP_STAT_STEER (steerMove slew (10 ^ 9) cur 0)).setB r F.LOOP_STAT_HOLD false

/-! ## Lanes (R103 to R111) -/

/-- The lane's state is set; the paths of the Halyard channel follow it (R319). -/
def State.setTxState (s : State) (o l v : Nat) : State :=
  (s.setF (R.TX_LANE_STAT o l) F.TX_LANE_STAT_STATE v).halRefresh2 o

/-- Codes of a launch entry: BIAS, MOD and swing (R103). -/
def State.launchCodes (s : State) (o l k : Nat) : List Nat :=
  let r := R.LAUNCH o l k
  if k = 0 then [0, 0, 0] else [s.f r F.LAUNCH_BIAS, s.f r F.LAUNCH_MOD, s.f r F.LAUNCH_SWING]

/-- Code `i` of the ramp in progress: BIAS, MOD and swing (R106). -/
def State.laneCode (s : State) (o l i : Nat) : Nat × Nat × Nat :=
  let x := s.txl o l
  let a := fun j => x.fromCodes.getD j 0
  let b := fun j => x.toCodes.getD j 0
  (rampCode (s.ch (biasCh o l)).span (a 0) (b 0) i x.len, rampCode (s.ch (modCh o l)).span (a 1) (b 1) i x.len,
    (rampVal (a 2) (b 2) i x.len).toNat)

/-- The code of the next tick is queued one tick ahead (R106). -/
def State.laneQueueNext (s : State) (o l i : Nat) : State :=
  if i < (s.txl o l).len then
    let (b, m, _) := s.laneCode o l (i + 1)
    let s := s.setCh (biasCh o l) { s.ch (biasCh o l) with queue := (s.ch (biasCh o l)).queue ++ [b] }
    s.setCh (modCh o l) { s.ch (modCh o l) with queue := (s.ch (modCh o l)).queue ++ [m] }
  else s

/-- The swing code in force at the tick before (R106). -/
def State.swingBefore (s : State) (o l : Nat) : Nat :=
  let x := s.txl o l
  if x.swingAt = some s.tick then x.swingPrev else x.swing

/-- A ramp in progress is given up: the codes that it has queued one tick ahead are dropped. -/
def State.rampQuit (s : State) (o l : Nat) : State :=
  let st := s.txState o l
  if st = 2 ∨ st = 4 ∨ st = 5 then
    let s := s.setCh (biasCh o l) { s.ch (biasCh o l) with queue := [] }
    s.setCh (modCh o l) { s.ch (modCh o l) with queue := [] }
  else s

/-- A swing code of a ramp applies. -/
def State.setSwing (s : State) (o l w : Nat) : State :=
  s.setTxl o l { s.txl o l with swing := w, swingPrev := s.swingBefore o l, swingAt := some s.tick }

/-- A launch ramp to entry `k` starts at the present edge (R106): from the codes applied at the tick before. -/
def State.rampGo (s : State) (o l k st : Nat) : State :=
  let s := s.rampQuit o l
  let x := s.txl o l
  let n := s.f (R.TX_LANE_CTL o l) F.TX_LANE_CTL_RAMP_TICKS
  let x := { x with
    fromCodes := [(s.ch (biasCh o l)).prev, (s.ch (modCh o l)).prev, s.swingBefore o l], toCodes := s.launchCodes o l k,
    start := s.tick, len := n, muted := false, doneTick := s.tick + n - 1 }
  let s := s.setTxl o l x
  let (b, m, w) := s.laneCode o l 1
  let s := (s.applyCode (biasCh o l) b).applyCode (modCh o l) m
  let s := (s.setSwing o l w).laneQueueNext o l 1
  let s := s.setFs (R.TX_LANE_STAT o l) [(F.TX_LANE_STAT_TARGET_STEP, k), (F.TX_LANE_STAT_RAMP_LEFT, n - 1)]
  let s := if l = 8 ∧ st = 5 then s.halCut o false else s
  s.setTxState o l st

/-- A tick edge of a lane: a ramp applies its next code (R106), and a dark lane is muted (R88). -/
def State.laneTick (s : State) (o l : Nat) : State :=
  let st := s.txState o l
  let x := s.txl o l
  if st = 2 ∨ st = 4 ∨ st = 5 then
    let i := s.tick - x.start + 1
    if i ≤ x.len then
      let (_, _, w) := s.laneCode o l i
      let s := (s.setSwing o l w).laneQueueNext o l i
      s.setF (R.TX_LANE_STAT o l) F.TX_LANE_STAT_RAMP_LEFT (x.len - i)
    else s
  else if st = 0 ∨ st = 6 then (if x.muted then s else s.setTxl o l { x with muted := true })
  else s

/-- The opcode of a launch operation. -/
def LaunchOp.code : LaunchOp → Nat
  | .enable => Op.TX_ENABLE
  | .step => Op.TX_STEP
  | .disable => Op.TX_DISABLE

/-- A launch request completes (R112, R401). -/
def State.launchDone (s : State) (o l : Nat) (r : LaunchReq) (st eff : Nat) : State :=
  s.completeO r.cmd r.op.code st eff [(32, 8, (s.txl o l).doneTick), (40, 1, s.txState o l),
    (41, 1, s.f (R.TX_LANE_STAT o l) F.TX_LANE_STAT_CUR_STEP)]

/-- The lane's current and pending requests complete with a status. -/
def State.launchDrop (s : State) (o l st : Nat) : State :=
  let x := s.txl o l
  let s := s.setTxl o l { x with cur := none, pend := none }
  let s := s.setFs (R.TX_LANE_STAT o l) [(F.TX_LANE_STAT_PENDING, 0), (F.TX_LANE_STAT_PEND_STEP, 0),
    (F.TX_LANE_STAT_PEND_DISABLE, 0)]
  let s := match x.cur with | some r => s.launchDone o l r st r.eff | none => s
  match x.pend with | some r => s.launchDone o l r st 0 | none => s

/-- ORIGIN of a LAUNCH record (R358); no notice for the domain's own ramps. -/
def Origin.code : Origin → Nat
  | .planner => 1
  | .host => 2
  | .reef => 3
  | .domain => 0

/-- The LAUNCH notice of a request (R358). -/
def State.launchNotice (s : State) (o l k : Nat) (g : Origin) : State :=
  if g.code = 0 then s
  else s.halFw o 0x30 3 (leBytes 2 (s.f (R.FRM_CTL o) F.FRM_CTL_TAG_TX) ++ leBytes 1 l
    ++ leBytes 1 (s.f (R.TX_LANE_STAT o l) F.TX_LANE_STAT_CUR_STEP) ++ leBytes 1 k
    ++ leBytes 1 ((s.launchCodes o l k).getD 2 0) ++ leBytes 6 s.tick
    ++ leBytes 2 (s.f (R.TX_LANE_CTL o l) F.TX_LANE_CTL_RAMP_TICKS) ++ leBytes 1 g.code ++ leBytes 1 0)

/-- A clear holds the lane's BIAS or MOD channel (OWNER 3). -/
def State.laneCleared (s : State) (o l : Nat) : Bool := s.owner (biasCh o l) == 3 || s.owner (modCh o l) == 3

/-- The lane's current request is set. -/
def State.setCur (s : State) (o l : Nat) (r : LaunchReq) : State := s.setTxl o l { s.txl o l with cur := some r }

/-- The lane's request path takes a request at the present edge (R107). -/
def State.launchTake (s : State) (o l : Nat) (r : LaunchReq) : State :=
  let st := s.txState o l
  let done := fun (s : State) (q : LaunchReq) (v : Nat) => s.launchDone o l q v (if v = St.OK then q.eff else 0)
  if st = 6 then done s r St.LANE_RETIRED
  else if st = 0 then
    match r.op with
    | .disable => done (s.setTxl o l { s.txl o l with doneTick := s.tick }) r St.OK
    | .step => done s r (if s.laneCleared o l then St.ENG_CLEARED else St.LANE_DARK)
    | .enable =>
      if s.laneCleared o l then done s r St.ENG_CLEARED
      else
        let s := (s.launchNotice o l r.step r.origin).setCur o l r
        if s.synRun o then s.rampGo o l r.step 2
        else
          let s := (s.setTxl o l { s.txl o l with start := s.tick }).setF (R.TX_LANE_STAT o l) F.TX_LANE_STAT_TARGET_STEP r.step
          ((s.setTxState o l 1).synCal o).1
  else if st = 1 then
    let old := (s.txl o l).cur
    match r.op with
    | .disable =>
      let s := (s.setTxl o l { s.txl o l with cur := none, doneTick := s.tick }).setTxState o l 0
      let s := match old with | some q => done s q St.SUPERSEDED | none => s
      done s r St.OK
    | _ =>
      let s := match old with | some q => done s q St.SUPERSEDED | none => s
      ((s.launchNotice o l r.step r.origin).setCur o l r).setF (R.TX_LANE_STAT o l) F.TX_LANE_STAT_TARGET_STEP r.step
  else if st = 3 then
    match r.op with
    | .disable => ((s.launchNotice o l 0 r.origin).setCur o l r).rampGo o l 0 5
    | _ => ((s.launchNotice o l r.step r.origin).setCur o l r).rampGo o l r.step 4
  else
    let old := (s.txl o l).pend
    let s := s.setTxl o l { s.txl o l with pend := some r }
    let s := s.setFs (R.TX_LANE_STAT o l) [(F.TX_LANE_STAT_PENDING, 1),
      (F.TX_LANE_STAT_PEND_STEP, if r.op = .disable then 0 else r.step), (F.TX_LANE_STAT_PEND_DISABLE, bit (r.op = .disable))]
    match old with | some q => done s q St.SUPERSEDED | none => s

/-- A request that the device itself makes now. -/
def State.launchSelf (s : State) (o l : Nat) (op : LaunchOp) (k : Nat) (g : Origin) : State :=
  s.launchTake o l ⟨op, k, none, g, s.tick⟩

/-- A pending request is handled at the tick edge after the ramp it waited for (R107). -/
def State.launchPending (s : State) (o l : Nat) : State :=
  let st := s.txState o l
  match (s.txl o l).pend with
  | some r =>
    if st = 0 ∨ st = 3 ∨ st = 6 then
      let s := s.setTxl o l { s.txl o l with pend := none }
      (s.setFs (R.TX_LANE_STAT o l) [(F.TX_LANE_STAT_PENDING, 0), (F.TX_LANE_STAT_PEND_STEP, 0),
        (F.TX_LANE_STAT_PEND_DISABLE, 0)]).launchTake o l r
    else s
  | none => s

/-- A synthesiser in RUN starts the waiting lane's ramp at this edge (R96), and ramps back a lane with a recorded step (R110,
R449). -/
def State.laneStart (s : State) (o l : Nat) : State :=
  if !s.synRun o then s
  else if s.txState o l = 1 then s.rampGo o l (s.f (R.TX_LANE_STAT o l) F.TX_LANE_STAT_TARGET_STEP) 2
  else if s.txState o l = 0 then
    match (if (s.txo o).entering then none else (s.txl o l).resume) with
    | some k =>
      let s := s.setTxl o l { s.txl o l with resume := none }
      if s.laneCleared o l then s.setTxl o l { s.txl o l with resumePost := false } else s.launchSelf o l .enable k .domain
    | none => s
  else s

/-- A ramp ends (R107): the lane becomes LIT, DARK or RETIRED, and its request completes OK; a lane lit again after Retention says so
(R110, R527). -/
def State.rampEnd (s : State) (o l : Nat) : State :=
  let st := s.txState o l
  let x := s.txl o l
  if (st = 2 ∨ st = 4 ∨ st = 5) ∧ x.start + x.len ≤ s.tick + 1 then
    let s := s.setFs (R.TX_LANE_STAT o l) [(F.TX_LANE_STAT_CUR_STEP, s.f (R.TX_LANE_STAT o l) F.TX_LANE_STAT_TARGET_STEP),
      (F.TX_LANE_STAT_RAMP_LEFT, 0)]
    let s := s.setTxl o l { x with cur := none, retire := false, resumePost := x.resumePost && x.resume.isSome }
    let s := s.setTxState o l (if st = 5 then (if x.retire then 6 else 0) else 3)
    let s := if st = 2 ∧ x.resumePost = true then s.event Ev.LANE_RESUMED o l [] else s
    match x.cur with | some r => s.launchDone o l r St.OK r.eff | none => s
  else s

/-- A clear or the last ramp takes the lane (R107): its ramp engine stops and its requests complete with ENG_CLEARED. -/
def State.laneKill (s : State) (o l : Nat) : State :=
  if s.txState o l = 6 then s
  else
    let lit := s.txState o l ≠ 0
    let goal := if (s.txl o l).retire then 6 else 0
    let s := if l = 8 ∧ lit then s.halCut o true else s
    let s := s.setTxl o l { s.txl o l with swing := 0, fromCodes := [], toCodes := [], len := 0, muted := true, retire := false }
    let s := s.setFs (R.TX_LANE_STAT o l) [(F.TX_LANE_STAT_CUR_STEP, 0), (F.TX_LANE_STAT_TARGET_STEP, 0),
      (F.TX_LANE_STAT_RAMP_LEFT, 0)]
    (s.setTxState o l goal).launchDrop o l St.ENG_CLEARED

/-- A ramp down that no launch request asks for: the lane goes down from its present codes. -/
def State.laneDown (s : State) (o l : Nat) : State :=
  let st := s.txState o l
  if st = 2 ∨ st = 3 ∨ st = 4 then s.rampGo o l 0 5 else if st = 1 then s.setTxState o l 0 else s

/-- Retirement of a transmit lane (R107): its requests complete with LANE_RETIRED, and it ramps down if lit. -/
def State.laneRetire (s : State) (o l : Nat) : State :=
  let st := s.txState o l
  if st = 6 then s
  else
    let s := (s.launchDrop o l St.LANE_RETIRED).setTxl o l
      { s.txl o l with cur := none, pend := none, resume := none, reefStep := none, retire := true }
    if st = 2 ∨ st = 3 ∨ st = 4 then s.laneDown o l
    else if st = 5 then s
    else (s.setTxl o l { s.txl o l with retire := false }).setTxState o l 6

/-- The step a lane resumes to after Retention (R107). -/
def State.laneResumeStep (s : State) (o l : Nat) : Option Nat :=
  let st := s.txState o l
  let r := R.TX_LANE_STAT o l
  if st = 3 then some (s.f r F.TX_LANE_STAT_CUR_STEP)
  else if st = 1 ∨ st = 2 ∨ st = 4 then some (s.f r F.TX_LANE_STAT_TARGET_STEP) else none

/-- The octet domain's entry to Retention or Off is accepted (R92, R107). -/
def State.txEntering (s : State) (o : Nat) (ret : Bool) : State :=
  let s := (s.synDone o St.DOMAIN_OFF false).setTxo o { s.txo o with waiting := [], entering := true }
  s.each lanes9 fun l s =>
    if s.txState o l = 6 then s
    else
      let k := if ret then s.laneResumeStep o l else none
      let s := s.launchDrop o l St.DOMAIN_OFF
      (s.setTxl o l { s.txl o l with resume := k, resumePost := k.isSome }).laneDown o l

/-- Every lane of the octet is dark; a retired lane counts as DARK (R88, R111). -/
def State.octDark (s : State) (o : Nat) : Bool := lanes9.all fun l => s.txState o l == 0 || s.txState o l == 6

/-- A transmit lane carries slots of some client in the page in force or in the one announced (R112). -/
def State.laneInUse (s : State) (o l : Nat) : Bool :=
  let x : FrameOct := Tab.get (fun _ => {}) s.frame.oct o
  let held := fun (p : CalPage) => p.slots.any fun e => e.2.isSome && s.txCarrier o (e.1 / (if s.stdMode o then 8 else 16)) == l
  held x.txPage || (match x.txNext with | some (p, _) => held p | none => false)

end Sys2Proof.Machine
end

