-- ==== Sys2Proof/Machine/TrimOps.lean ====
section
/-!
DEFINITION. Trim requests and abandonment (R341 to R348) and the ageing journal's entries (R360).
-/

namespace Sys2Proof.Machine

/-- A trim unit: 0 to 15 octets, 16 to 31 slot groups, 32 and 33 the converters (R363). -/
def State.tu (s : State) (u : Nat) : TrimUnit := Tab.get (fun _ => {}) s.trim.unit u

/-- The state with a trim unit replaced. -/
def State.setTu (s : State) (u : Nat) (x : TrimUnit) : State :=
  { s with trim.unit := Tab.set (fun _ => {}) s.trim.unit u x }

/-- STATE of a unit is shown: 0 = IDLE, 1 = RUN, 2 = PENDING (R365, R367); the converters have no such field. -/
def State.setTrimState (s : State) (u v : Nat) : State :=
  if u < 16 then s.setF (R.TRIM_STAT u) F.TRIM_STAT_STATE v
  else if u < 32 then s.setF (R.SG_TRIM_STAT (u - 16)) F.SG_TRIM_STAT_STATE v else s

/-- A receive lane's acquisition state (R239). -/
def State.acqState (s : State) (o l : Nat) : Nat := s.f (R.ACQ_LANE_STAT o l) F.ACQ_LANE_STAT_STATE

/-- A receive lane is in LOCK. -/
def State.rxLock (s : State) (o l : Nat) : Bool := s.acqState o l == 6

/-- The state of a slot lane's PHY: 4 = UP (R270). -/
def State.slState (s : State) (g i : Nat) : Nat := s.f (R.SL_STAT g i) F.SL_STAT_STATE

/-- A run of the unit has a lane to work on (R343). -/
def State.trimLanes (s : State) (u : Nat) : Bool :=
  if u < 16 then s.octOn u && lanes9.any fun l => s.rxLock u l || s.txState u l == 3
  else if u < 32 then s.sgOn (u - 16) && (List.range 16).any fun i => s.slState (u - 16) i == 4
  else true

/-- The spacing of R342 lets a run start at the given tick. -/
def TrimUnit.spaced (x : TrimUnit) (t : Nat) : Bool :=
  match x.last with
  | some p => decide (p + 10000 ≤ t)
  | none => true

/-- A trim run is requested (R341 to R343): it merges with a run pending or in progress; one that cannot start is refused.  A
request inside the spacing of R342 shows PENDING. -/
def State.trimRequest (s : State) (u : Nat) (cmd : Option Cmd) : State :=
  let x := s.tu u
  let w := x.waiting ++ cmd.toList
  if x.start.isSome || x.admitted.isSome then s.setTu u { x with waiting := w }
  else if !s.trimLanes u then s.completeO cmd Op.TRIM_RUN St.WRONG_STATE 0 []
  else
    let s := s.setTu u { x with admitted := some s.tick, waiting := w }
    if x.spaced (s.tick + 1) then s else s.setTrimState u 2

/-- The commands that wait on a unit complete (R363, R401). -/
def State.trimComplete (s : State) (u st cause start : Nat) : State :=
  let x := s.tu u
  let s := s.setTu u { x with waiting := [] }
  s.each x.waiting fun c s => s.completeAt c Op.TRIM_RUN st c.eff [(32, 1, cause), (33, 1, x.caps), (40, 8, start)]

/-- An octet's run is abandoned (R348): 1 = DOMAIN, 2 = CONV, 3 = MODE. -/
def State.trimAbandon (s : State) (o cause : Nat) : State :=
  match (s.tu o).start with
  | some t =>
    let s := (s.trimComplete o St.TRIM_ABORTED cause t).setTu o { (s.tu o) with start := none, row := 0, seedWait := 0, waiting := [] }
    s.setFs (R.TRIM_STAT o) [(F.TRIM_STAT_STATE, 0), (F.TRIM_STAT_LAST_ABORT, 1), (F.TRIM_STAT_CAUSE, cause)]
  | none => s

/-- A lane drops out of the octet's run (R348). -/
def State.trimLose (s : State) (o l : Nat) : State :=
  if (s.tu o).start.isSome then
    (s.setTu o { s.tu o with lost := withBit (s.tu o).lost l true }).setFs (R.TRIM_Q o l) [(F.TRIM_Q_LOST, 1),
      (F.TRIM_Q_VALID, 0)]
  else s

/-- A run after a retirement, with RETIRE_RUN set (R341). -/
def State.trimRetire (s : State) (o : Nat) : State :=
  if s.b (R.TRIM_CTL o) F.TRIM_CTL_RETIRE_RUN then s.trimRequest o none else s

/-- The start-up run of an octet or a slot group (R341). -/
def State.trimStartup (s : State) (u : Nat) : State :=
  if (s.tu u).startup then (s.setTu u { s.tu u with startup := false }).trimRequest u none else s

/-! ## Margin history (R355) -/

/-- What the planner keeps for a line lane. -/
def State.pl (s : State) (o l : Nat) : PlanLane := Tab.get (fun _ => {}) s.trim.plan (9 * o + l)

/-- The state with a line lane's planning data replaced. -/
def State.setPl (s : State) (o l : Nat) (x : PlanLane) : State :=
  { s with trim.plan := Tab.set (fun _ => {}) s.trim.plan (9 * o + l) x }

/-- A discontinuity of a lane's margin: earlier points no longer count (R355). -/
def State.planDisc (s : State) (o l : Nat) : State := s.setPl o l { s.pl o l with disc := s.tick, hist := [] }

/-- A discontinuity of every lane of an octet direction. -/
def State.planDiscAll (s : State) (o : Nat) : State := s.each lanes9 fun l s => s.planDisc o l

/-! ## Ageing journal (R360, R361) -/

/-- A journal entry of 256 bytes: type, SEQ, tick and the bytes from 16 on. -/
def jrnEntry (typ seq tick : Nat) (body : List Byte) : List Byte :=
  let b := leBytes 2 0x5A17 ++ leBytes 1 typ ++ leBytes 1 1 ++ leBytes 4 seq ++ leBytes 6 tick ++ leBytes 2 0
    ++ (body ++ List.replicate (236 - body.length) 0).take 236
  b ++ leBytes 4 (crc32c b)

/-- The entry that a full region gives up for a new one: the oldest of no type that is never lost (R361); `n` is the room, 196,608 entries. -/
def jrnRoom (n : Nat) (l : List (List Byte)) : List (List Byte) :=
  if l.length < n then l
  else match l.find? fun e => !([2, 3, 4].contains (ofLeBytes ((e.drop 2).take 1))) with
    | some e => l.erase e
    | none => l

/-- An entry is written: to the working copy while GDDR is On, and toward the flash (R360 to R362). -/
def State.jrnAdd (s : State) (typ : Nat) (body : List Byte) : State :=
  let e := jrnEntry typ (s.f R.JRN_STAT F.JRN_STAT_SEQ) s.tick body
  let s := s.incF R.JRN_STAT F.JRN_STAT_SEQ 1
  let s := { s with
    jrn.flashQ := s.jrn.flashQ ++ [e], pair.ageOut := s.pair.ageOut ++ [e] }
  if s.isOn domGDDR && s.b R.JRN_STAT F.JRN_STAT_READY then
    let s := { s with jrn.own := s.jrn.own ++ [e] }
    if typ = 1 then s.incF R.JRN_STAT F.JRN_STAT_ENTRIES 1 else s
  else s

/-- An event entry of type 2, 4 or 5 (R360). -/
def State.jrnEvent (s : State) (typ o l dir action value b : Nat) : State :=
  s.jrnAdd typ (leBytes 1 o ++ leBytes 1 l ++ leBytes 1 dir ++ leBytes 1 action ++ leBytes 4 value ++ leBytes 8 b)

end Sys2Proof.Machine
end

