-- ==== Sys2Proof/Machine/RxOps.lean ====
section
/-!
DEFINITION. Line receive signal processing (chapter 4): powered chains, the sample path, staged swaps, the background loops and the monitor
chain.  A figure of a lane whose samples the commands do not give is a free value (log entry 1).
-/

namespace Sys2Proof.Machine

/-- A receive lane's hidden state. -/
def State.rxl (s : State) (o l : Nat) : RxLane := Tab.get (fun _ => {}) s.rx.lane (9 * o + l)

/-- The state with a receive lane replaced. -/
def State.setRxl (s : State) (o l : Nat) (x : RxLane) : State :=
  { s with rx.lane := Tab.set (fun _ => {}) s.rx.lane (9 * o + l) x }

/-- The staged swaps of an octet. -/
def State.swaps (s : State) (o : Nat) : List Swap := Tab.get (fun _ => []) s.rx.swaps o

/-- The state with an octet's staged swaps replaced. -/
def State.setSwaps (s : State) (o : Nat) (x : List Swap) : State :=
  { s with rx.swaps := Tab.set (fun _ => []) s.rx.swaps o x }

/-- RAW_LOS of a receive lane (R122). -/
def State.rawLos (s : State) (o l : Nat) : Bool := s.b (R.RX_AFE_STAT o l) F.RX_AFE_STAT_RAW_LOS

/-- The receive chain of a lane is powered: AFE and ADC (R120). -/
def State.rxOn (s : State) (o l : Nat) : Bool := s.octOn o && !s.rxRetired o l

/-- LC runs the full receive chain: from the start of a conversion, the tick after its decision, that has not failed (R120, R222). -/
def State.lcData (s : State) (o : Nat) : Bool :=
  let x : AcqOct := Tab.get (fun _ => {}) s.acq.oct o
  !s.stdMode o && 1 ≤ s.convRx o && s.convRx o ≤ 4 && x.convDue.isNone

/-- FFE and trellis decoder of a lane are powered (R120). -/
def State.ffeOn (s : State) (o l : Nat) : Bool := s.rxOn o l && (decide (l < 8) || s.lcData o)

/-- FFE_CTL.ADAPT: 0 = host, 1 = adaptation, 2 = freeze. -/
def State.adapt (s : State) (o l : Nat) : Nat := s.f (R.FFE_CTL o l) F.FFE_CTL_ADAPT

/-- A command that waits for its tick will swap a bank of the lane (R134). -/
def State.cmdSwaps (s : State) (o l : Nat) (i : Instr) : Bool :=
  match i with
  | .ffeSwap _ p mask => p.toNat == o && bitOf mask.toNat l
  | .ffeMode _ p _ => p.toNat == o && s.ffeOn o l
  | _ => false

/-- A command that waits for its tick will change the octet's phase mode. -/
def cmdModes (o : Nat) (i : Instr) : Bool :=
  match i with
  | .ffeMode _ p _ => p.toNat == o
  | _ => false

/-- A staged swap covers the lane: one that waits for its boundary, or the command of one that waits for its tick (R134). -/
def State.swapStaged (s : State) (o l : Nat) : Bool :=
  (s.swaps o).any (fun w => bitOf w.mask l) || s.staged.any fun c => s.cmdSwaps o l c.cmd

/-- SWAP_STAGED and MODE_STAGED follow the staged swaps (R134, R151). -/
def State.swapFlags (s : State) (o : Nat) : State :=
  let s := s.each lanes9 fun l s => s.setB (R.FFE_STAT o l) F.FFE_STAT_SWAP_STAGED (s.swapStaged o l)
  s.setB (R.RX_OCT_STAT o) F.RX_OCT_STAT_MODE_STAGED
    ((s.swaps o).any (fun w => w.mode.isSome) || s.staged.any fun c => cmdModes o c.cmd)

/-- A swap is staged. -/
def State.stageSwap (s : State) (o : Nat) (w : Swap) : State := (s.setSwaps o (s.swaps o ++ [w])).swapFlags o

/-- The main-cursor tap (R130). -/
def State.mainTap (s : State) (o : Nat) : Nat := if s.b (R.RX_OCT_STAT o) F.RX_OCT_STAT_PHASE_MODE then 24 else 3

/-! ## The sample path (R119 to R143) -/

/-- The level targets of a lane. -/
def State.levels (s : State) (o l : Nat) : List Int :=
  [F.TRL_LVL_LV0, F.TRL_LVL_LV1, F.TRL_LVL_LV2, F.TRL_LVL_LV3].map fun x => s.i (R.TRL_LVL o l) x

/-- The coefficients of a bank. -/
def State.bankOf (s : State) (o l b : Nat) : List Int := (List.range 48).map fun i => s.i (R.FFE_COEF o l b (i / 4)) ⟨16 * (i % 4), 12⟩

/-- The set-up that a lane's registers ask for (R121 to R131, R141). -/
def State.forceNow (s : State) (o l : Nat) : RxForce where
  seen := true
  gain := s.f (R.RX_AFE_CTL o l) F.RX_AFE_CTL_GAIN
  adc := (List.range 64).map fun k => s.reg (R.ADC_CAL o l k)
  coef := s.bankOf o l (s.f (R.FFE_STAT o l) F.FFE_STAT_ACTIVE_BANK)
  win := tapWindow (s.b (R.RX_OCT_STAT o) F.RX_OCT_STAT_PHASE_MODE) (s.rxl o l).len
  main := s.mainTap o
  lv := s.levels o l
  h1 := s.i (R.TRL_CH o l) F.TRL_CH_H1
  h2 := s.i (R.TRL_CH o l) F.TRL_CH_H2

/-- The set-up in force on a lane: the one that landed last (R127). -/
def State.force (s : State) (o l : Nat) : RxForce := if (s.rxl o l).force.seen then (s.rxl o l).force else s.forceNow o l

/-- The set-up of the registers lands on a lane (R127). -/
def State.forceLand (s : State) (o l : Nat) : State := s.setRxl o l { s.rxl o l with force := s.forceNow o l }

/-- A monitor chain. -/
def State.mon (s : State) (o l : Nat) : MonSt := Tab.get (fun _ => {}) s.rx.mon (9 * o + l)

/-- The state with a monitor chain replaced. -/
def State.setMon (s : State) (o l : Nat) (x : MonSt) : State := { s with rx.mon := Tab.set (fun _ => {}) s.rx.mon (9 * o + l) x }

/-- The monitor chains that watch a lane (R154). -/
def State.watchers (s : State) (o l : Nat) : List Nat := lanes9.filter fun m => s.f (R.MON_CTL o m) F.MON_CTL_SRC == l

/-- Samples at the land of a lane pass its front end and equaliser (R121 to R131); the counters and RMS follow. -/
def State.rxIn (s : State) (o l : Nat) (v : List Int) : State :=
  if v.isEmpty then s
  else
    let f := s.force o l
    let thr := s.f (R.RX_AFE_CTL o l) F.RX_AFE_CTL_RAW_LOS_THR
    let eq := s.ffeOn o l
    let x := v.foldl (fun x v => dspSample f thr eq x v) (s.rxl o l)
    let s := s.setRxl o l { x with clips := 0, sats := 0, got := true }
    let s := (s.incF (R.RX_AFE_STAT o l) F.RX_AFE_STAT_CLIP_CNT x.clips).perf (0x900 + 16 * o + 4) x.clips
    let s := (s.incF (R.FFE_STAT o l) F.FFE_STAT_SAT_CNT x.sats).perf (0x900 + 16 * o + 3) x.sats
    match x.rms with
    | some v => s.setF (R.RX_AFE_STAT o l) F.RX_AFE_STAT_RMS v
    | none => s

/-- Decided outputs join a lane's adaptation sums; each comes with the decision that adaptation takes (R136, R141). -/
def RxLane.decide (f : RxForce) (x : RxLane) (l : List (FfeOut × Nat)) : RxLane :=
  l.foldl (fun x p => { x with
    acc := x.acc.add f p.1 p.2 (x.last.getD 0 0) (x.last.getD 1 0), last := (p.2 :: x.last).take 2 }) x

/-- Outputs with their decisions join the adaptation sums and every monitor chain that watches the lane.  Until LOCK, and with ERR_SRC =
1, adaptation takes the slicer's decisions (R136, R207). -/
def State.rxDecided (s : State) (o l : Nat) (ys : List FfeOut) (dec : List Nat) : State :=
  let f := s.force o l
  let slicer := !s.rxLock o l || s.b (R.FFE_CTL o l) F.FFE_CTL_ERR_SRC
  let ads := if slicer then ys.map fun y => f.slice y.y else dec
  let qs := (ys.zip dec).map fun p => monQuant f p.1 p.2
  let std := s.stdMode o
  let s := s.setRxl o l ((s.rxl o l).decide f (ys.zip ads))
  s.each (s.watchers o l) fun m s => s.setMon o m (qs.foldl (fun x q => x.feed std s.tickIdx q) (s.mon o m))

/-- Samples that come in outside decoded codewords: the slicer decides, and the trellis starts anew after them. -/
def State.rxLine (s : State) (o l : Nat) (v : List Int) : State :=
  if !s.rxOn o l || v.isEmpty then s
  else
    let s := s.rxIn o l v
    let ys := (s.rxl o l).ys
    let f := s.force o l
    let s := s.setRxl o l { s.rxl o l with ys := [], entry := [] }
    s.rxDecided o l ys (ys.map fun y => f.slice y.y)

/-- Symbols of a codeword, and the further ones that its traceback needs (R139). -/
def codeSymbols : Nat := 2880
def traceback : Nat := 96

/-- What the trellis has decided of a Forist codeword whose outputs, with the traceback's, have come in (R139, R140).  Outputs before them
belong to the trim window: the slicer decides them. -/
def State.trellisForist (s : State) (o l cw : Nat) : State :=
  let f := s.force o l
  let x := s.rxl o l
  let pre := x.ys.length - (codeSymbols + traceback)
  let before := x.ys.take pre
  let ys := (x.ys.drop pre).take codeSymbols
  let tail := x.ys.drop (pre + codeSymbols)
  let (dec, soft, e) := trCodeword f x.entry (ys.map (·.y)) (tail.map (·.y)) (cw == 807)
  let s := s.setRxl o l { x with ys := tail, entry := e, soft := soft }
  (s.rxDecided o l before (before.map fun y => f.slice y.y)).rxDecided o l ys dec

/-- What the standard-mode trellis has decided of the outputs that have come in (R143). -/
def State.trellisStd (s : State) (o l : Nat) : State :=
  let f := s.force o l
  let x := s.rxl o l
  let n := x.ys.length - traceback
  let (dec, soft, e) := trStandard f x.entry (x.ys.map (·.y))
  (s.setRxl o l { x with ys := x.ys.drop n, entry := e, soft := soft }).rxDecided o l (x.ys.take n) dec

/-! ## Swaps (R131 to R138) -/

/-- A lane's bank takes a set of coefficients. -/
def State.setBank (s : State) (o l b : Nat) (c : List Int) : State :=
  s.each (List.range 48) fun i s => s.setI (R.FFE_COEF o l b (i / 4)) ⟨16 * (i % 4), 12⟩ (c.getD i 0)

/-- A lane's seed goes into its shadow bank with a swap (R132, R346). -/
def State.seedLoad (s : State) (o l : Nat) : State :=
  (s.setBank o l (1 - s.f (R.FFE_STAT o l) F.FFE_STAT_ACTIVE_BANK) (s.rxl o l).seed).stageSwap o ⟨2 ^ l, s.tick, none, none, false⟩

/-- The equaliser starts from its seed (R120, R206): the last trim result, where one is held and adaptation has the shadow bank. -/
def State.seedStart (s : State) (o l : Nat) : State :=
  if (s.rxl o l).seed.isEmpty || s.adapt o l != 1 || s.swapStaged o l then s else s.seedLoad o l

/-- A swap lands on a lane (R131, R133): the banks exchange roles, a LEN change lands, and with adaptation the new active bank is
copied into the shadow. -/
def State.swapLane (s : State) (o l : Nat) : State :=
  let r := R.FFE_STAT o l
  let new := 1 - s.f r F.FFE_STAT_ACTIVE_BANK
  let s := (s.setF r F.FFE_STAT_ACTIVE_BANK new).incF r F.FFE_STAT_SWAP_CNT 1
  let len := s.f (R.FFE_CTL o l) F.FFE_CTL_LEN
  let s := if len = (s.rxl o l).len then s else (s.setRxl o l { s.rxl o l with len := len }).planDisc o l
  if s.adapt o l = 1 then
    s.each (List.range 12) fun j s => s.setReg (R.FFE_COEF o l (1 - new) j) (s.reg (R.FFE_COEF o l new j))
  else s

/-- The codeword boundary at which a change lands for a lane that stands at symbol `pos` of its frame (R128): the index, and
whether it lies in the next frame.  A boundary at the edge itself is taken as the first after it (log entry 122). -/
def landIndex (pos : Nat) : Nat × Bool :=
  if pos ≤ 5760 then (0, false)
  else
    let k := (pos - 5760 + 2879) / 2880
    if k < 808 then (k, false) else (0, true)

/-- What the completion of a swap reports for a lane (R401): bits 9:0 the codeword index, bit 14 the next frame, 0xFFFE before
LOCK, 0xFFFF not swapped.  `fc` is the frame count that the completion carries.  In standard mode a change lands at an RS(544,514)
codeword boundary (R128), which no frame numbers: its index is free, a part of `std` (log entry 122). -/
def State.landCode (s : State) (o mask fc : Nat) (pos : List Nat) (std l : Nat) : Nat :=
  let x : FrameLane := Tab.get (fun _ => {}) s.frame.lane (9 * o + l)
  if !bitOf mask l then 0xFFFF
  else if !s.rxLock o l then 0xFFFE
  else if s.stdMode o then std / 1024 ^ l % 1024
  else
    let (k, nxt) := landIndex (pos.getD l 0)
    let ahead := x.rxFc != fc
    k + (if nxt != ahead then 2 ^ 14 else 0)

/-- The frame count that a swap's completion carries: that of the first swapped lane in LOCK. -/
def State.landFc (s : State) (o mask : Nat) : Nat :=
  match lanes9.find? fun l => bitOf mask l && s.rxLock o l with
  | some l => let x : FrameLane := Tab.get (fun _ => {}) s.frame.lane (9 * o + l); x.rxFc
  | none => 0

/-- The staged changes whose tick has come land together (R127, R138): swaps, and the phase mode, which leaves no seed of the old main
tap (log entry 125), and on every powered lane whatever else its registers have taken; FFE_SWAP and FFE_MODE complete. -/
def State.rxLand (s : State) (o : Nat) (pos : List Nat) : State :=
  let now := (s.swaps o).filter fun w => decide (w.due ≤ s.tick)
  let s := s.setSwaps o ((s.swaps o).filter fun w => !decide (w.due ≤ s.tick))
  let (std, s) := if s.stdMode o && !now.isEmpty then s.draw (1024 ^ 9) else (0, s)
  let s := s.each now fun w s =>
    let s := match w.mode with
      | some m =>
        let s := (s.setF (R.RX_OCT_STAT o) F.RX_OCT_STAT_PHASE_MODE m).trimAbandon o 3
        s.each lanes9 fun l s => s.setRxl o l { s.rxl o l with seed := [] }
      | none => s
    let s := s.each (lanes9.filter (bitOf w.mask ·)) fun l s => s.swapLane o l
    let fc := s.landFc o w.mask
    match w.cmd with
    | some c => s.completeAt c (if w.mode.isSome then Op.FFE_MODE else Op.FFE_SWAP) St.OK c.eff
        ((32, 6, fc) :: lanes9.map fun l => (38 + 2 * l, 2, s.landCode o w.mask fc pos std l))
    | none => s
  let s := s.each (lanes9.filter fun l => s.rxOn o l) fun l s => s.forceLand o l
  s.swapFlags o

/-- The swaps of an octet are dropped with DOMAIN_OFF: its domain has left On. -/
def State.swapsDrop (s : State) (o : Nat) : State :=
  let old := s.swaps o
  let s := s.setSwaps o []
  s.each old fun w s => s.completeO w.cmd (if w.mode.isSome then Op.FFE_MODE else Op.FFE_SWAP) St.DOMAIN_OFF 0 []

/-! ## Background loops (R125, R126, R141) -/

/-- A signed field moves by -1, 0 or 1, drawn freely, within its range. -/
def moveField (x : Fld) (w : Word) (d : Nat) : Word :=
  let lim : Int := 2 ^ (x.w - 1)
  let v := signedOf x.w (x.of w) + ((d % 3 : Nat) : Int) - 1
  x.put w (patternOf x.w (clampInt (-lim) (lim - 1) v))

/-- A signed field stands at an end of its range. -/
def atEnd (x : Fld) (w : Word) : Bool :=
  let v := signedOf x.w (x.of w)
  decide (v = -(2 ^ (x.w - 1))) || decide (v = 2 ^ (x.w - 1) - 1)

/-- A correction field of a lane stands at an end of its range (R126). -/
def State.adcAtEnd (s : State) (o l : Nat) : Bool := (List.range 64).any fun k =>
  let w := s.reg (R.ADC_CAL o l k)
  atEnd F.ADC_CAL_OFS w || atEnd F.ADC_CAL_GAIN w || atEnd F.ADC_CAL_SKEW w

/-- RANGE shows whether a field stands at an end of its range, and ADC_RANGE is posted when it sets (R126). -/
def State.adcRange (s : State) (o l : Nat) : State :=
  let r := R.ADC_BG_STAT o l
  let hit := s.adcAtEnd o l
  let was := s.b r F.ADC_BG_STAT_RANGE
  let s := s.setB r F.ADC_BG_STAT_RANGE hit
  if hit && !was then s.event Ev.ADC_RANGE o l [] else s

/-- Each field moves by at most one unit (R125): by what the loop makes of the received data, which the manual does not give (free). -/
def State.adcMove (s : State) (o l : Nat) : State :=
  s.each (List.range 64) fun k s =>
    let (d, s) := s.draw 27
    let r := R.ADC_CAL o l k
    let w := moveField F.ADC_CAL_OFS (s.reg r) d
    let w := moveField F.ADC_CAL_GAIN w (d / 3)
    s.setReg r (moveField F.ADC_CAL_SKEW w (d / 9))

/-- CONVERGED and SPUR (R126): the loop has converged 2,000 ticks after a trim result at the latest, and a converged loop keeps the spurs
50 dB down; before, both are free. -/
def State.adcConverge (s : State) (o l : Nat) : State :=
  let r := R.ADC_BG_STAT o l
  let n := (s.rxl o l).bgTicks.map (· + 1)
  let s := s.setRxl o l { s.rxl o l with bgTicks := n.map (min 2000) }
  let s := if n.any fun n => decide (2000 ≤ n) then s.setF r F.ADC_BG_STAT_CONVERGED 1 else s.freeF r F.ADC_BG_STAT_CONVERGED
  if s.b r F.ADC_BG_STAT_CONVERGED then
    let (d, s) := s.draw 524
    s.setF r F.ADC_BG_STAT_SPUR (500 + d)
  else s.freeF r F.ADC_BG_STAT_SPUR

/-- One tick of the interleave loop on a lane (R125, R126); the tick in which a trim result is applied has no update. -/
def State.adcBg (s : State) (o l : Nat) : State :=
  if !s.rxOn o l then s
  else
    let trim := (s.rxl o l).adcTrim
    let s := if trim then s.setRxl o l { s.rxl o l with adcTrim := false } else s
    let s := if s.b (R.ADC_BG_CTL o l) F.ADC_BG_CTL_EN && !trim then (s.adcMove o l).adcConverge o l else s
    s.adcRange o l

/-- The interleave loops of an octet. -/
def State.adcTick (s : State) (o : Nat) : State := if s.octOn o then s.each lanes9 fun l s => s.adcBg o l else s

/-- Level targets stay strictly increasing. -/
def lvlOk (w : Word) : Bool :=
  let v := fun x : Fld => signedOf 12 (x.of w)
  decide (v F.TRL_LVL_LV0 < v F.TRL_LVL_LV1) && decide (v F.TRL_LVL_LV1 < v F.TRL_LVL_LV2)
    && decide (v F.TRL_LVL_LV2 < v F.TRL_LVL_LV3)

/-- A step of at most one unit from a value toward a goal, as `moveField` takes it. -/
def stepTo (v goal : Int) : Nat := (clampInt (-1) 1 (goal - v) + 1).toNat

/-- The step of a level target toward the mean of the outputs decided at that level (R141); a level without outputs stays. -/
def RxAcc.lvlStep (x : RxAcc) (lv : List Int) (v : Nat) : Nat :=
  let n := x.lvlN.getD v 0
  if n = 0 then 1 else stepTo (lv.getD v 0) (roundDiv (x.lvlSum.getD v 0) n)

/-- The step of H1 (`c` = c1) or H2 toward the correlation of the error with a previous decision, normalised by the decisions' power
(R141; log entry 125). -/
def RxAcc.chStep (x : RxAcc) (c h : Int) : Nat := if x.pw ≤ 0 then 1 else stepTo h (roundDiv (256 * c) x.pw.toNat)

/-- One tick of level and channel adaptation (R141), from the outputs of the tick that ended; where none have come, the moves are free. -/
def State.lvlAdapt (s : State) (o l : Nat) : State :=
  let x := (s.rxl o l).acc
  let (d, s) := if x.n = 0 then s.draw 729 else (0, s)
  let lv := s.levels o l
  let step := fun v => if x.n = 0 then d / 3 ^ v else x.lvlStep lv v
  let s := if s.b (R.TRL_CTL o l) F.TRL_CTL_LVL_ADAPT then
      let w := moveField F.TRL_LVL_LV0 (s.reg (R.TRL_LVL o l)) (step 0)
      let w := moveField F.TRL_LVL_LV1 w (step 1)
      let w := moveField F.TRL_LVL_LV2 w (step 2)
      let w := moveField F.TRL_LVL_LV3 w (step 3)
      if lvlOk w then s.setReg (R.TRL_LVL o l) w else s
    else s
  let s := if s.b (R.TRL_CTL o l) F.TRL_CTL_CH_ADAPT then
      let c := R.TRL_CH o l
      let w := moveField F.TRL_CH_H1 (s.reg c) (if x.n = 0 then d / 81 else x.chStep x.c1 (s.i c F.TRL_CH_H1))
      s.setReg c (moveField F.TRL_CH_H2 w (if x.n = 0 then d / 243 else x.chStep x.c2 (s.i c F.TRL_CH_H2)))
    else s
  s.setRxl o l { s.rxl o l with acc := { ({} : RxAcc) with taps := x.taps } }

/-! ## Monitor chain (R145 to R149) -/

/-- A change restarts the settling of a monitor chain (R148), from the outputs after those of this edge. -/
def State.monRestart (s : State) (o l : Nat) : State := s.setRxl o l { s.rxl o l with restart := true }

/-- The 7 outputs of each stream after this edge are to be flagged (R148). -/
def State.monSettle (s : State) (o l : Nat) : State :=
  if (s.rxl o l).restart then
    (s.setRxl o l { s.rxl o l with restart := false }).setFs (R.MON_STAT o l) [(F.MON_STAT_T_UNSET, 7), (F.MON_STAT_K_UNSET, 7)]
  else s

/-- Every chain that watches a lane restarts (R148). -/
def State.monRestartSrc (s : State) (o w : Nat) : State := s.each (s.watchers o w) fun l s => s.monRestart o l

/-- A signed figure, or a free value where there is none to state. -/
def State.setOr (s : State) (a : Nat) (x : Fld) (v : Option Int) : State :=
  match v with
  | some v => s.setI a x v
  | none => s.freeF a x

/-- IMB from the level spacings, in 0.1 % (R146). -/
def imbOf (a b c : Nat) : Nat :=
  min 65535 (roundDiv (3000 * ((max a (max b c) - min a (min b c) : Nat) : Int)) (a + b + c)).toNat

/-- A figure register set of one output is delivered on the tick stream (`k` false) or the 1 kHz stream (R146, R147, R156).  How the tone of
LC is measured is not given, so its figures are free. -/
def State.monOut (s : State) (o l : Nat) (k : Bool) : State :=
  let w := s.f (R.MON_CTL o l) F.MON_CTL_SRC
  let ra := if k then R.MON_K_A o l else R.MON_T_A o l
  let rb := if k then R.MON_K_B o l else R.MON_T_B o l
  let rs := if k then R.MON_K_SER o l else R.MON_T_SER o l
  let un := if k then F.MON_STAT_K_UNSET else F.MON_STAT_T_UNSET
  let left := s.f (R.MON_STAT o l) un
  let tone := decide (w = 8) && !s.stdMode o && !s.lcData o
  let x := if tone then {} else if k then (s.mon o l).k else (s.mon o l).t
  let sel := s.f (R.MON_CTL o l) F.MON_CTL_FIR_SEL
  let s := ((s.setOr ra F.MON_T_A_PWR (x.power sel)).setOr ra F.MON_T_A_NF (x.noise sel)).setOr ra F.MON_T_A_SNR (x.snr sel)
  let s := s.setFs ra [(F.MON_T_A_UNSETTLED, bit (decide (left ≠ 0))),
    (F.MON_T_A_NO_INPUT, bit (!s.rxOn o w || s.rawLos o w)), (F.MON_T_A_TONE, bit tone)]
  let s := if tone then (s.setReg rb 0).setF rs F.MON_T_SER_SER 0
    else
      let s := ((s.setOr rb F.MON_T_B_D1 (x.spacing sel 0)).setOr rb F.MON_T_B_D2 (x.spacing sel 1)).setOr rb F.MON_T_B_D3
        (x.spacing sel 2)
      let a := s.f rb F.MON_T_B_D1
      let b := s.f rb F.MON_T_B_D2
      let c := s.f rb F.MON_T_B_D3
      let s := if a + b + c = 0 then s.freeF rb F.MON_T_B_IMB else s.setF rb F.MON_T_B_IMB (imbOf a b c)
      s.setOr rs F.MON_T_SER_SER (x.ser sel)
  let s := s.setF rs F.MON_T_SER_TICK (s.tick % 2 ^ 16)
  let s := if k && !s.b ra F.MON_T_A_UNSETTLED && !s.b ra F.MON_T_A_NO_INPUT then
      let x := s.pl o w
      s.setPl o w { x with sum := x.sum + s.i ra F.MON_T_A_SNR, n := x.n + 1, ser := x.ser + s.f rs F.MON_T_SER_SER }
    else s
  s.setF (R.MON_STAT o l) un (left - 1)

/-- Threshold register, status bit and event of a unit: 0 = LOS, 1 = SNR_LOW, 2 = IMB_HIGH, 3 = NF_HIGH (R149). -/
def monThr (o l u : Nat) : Nat := R.MON_THR_LOS o l + 8 * u
def monBit (u : Nat) : Fld := ⟨u, 1⟩
def monEv (u : Nat) : Nat := Ev.LOS + u

/-- The figure that a unit watches. -/
def State.monFig (s : State) (o l u : Nat) : Int :=
  let k := s.b (monThr o l u) F.MON_THR_x_STREAM
  let ra := if k then R.MON_K_A o l else R.MON_T_A o l
  if u = 0 then s.i ra F.MON_T_A_PWR else if u = 1 then s.i ra F.MON_T_A_SNR
  else if u = 2 then s.f (if k then R.MON_K_B o l else R.MON_T_B o l) F.MON_T_B_IMB else s.i ra F.MON_T_A_NF

/-- The set and the clear condition of a unit on its latest output (R149). -/
def State.monCond (s : State) (o l u : Nat) : Bool × Bool :=
  let v := s.monFig o l u
  let t := s.i (monThr o l u) F.MON_THR_x_THR
  let h : Int := s.f (monThr o l u) F.MON_THR_x_HYST
  if u < 2 then (decide (v < t), decide (t + h ≤ v)) else (decide (t < v), decide (v ≤ t - h))

/-- A unit counts an output (R149): flagged outputs are not evaluated, and a disabled unit stays clear; one that clears because EN is
cleared posts no event (log entry 122). -/
def State.monCount (s : State) (o l u : Nat) (k : Bool) : State :=
  let x := s.rxl o l
  if !s.b (monThr o l u) F.MON_THR_x_EN then
    (s.setRxl o l { x with setN := x.setN.set u 0, clrN := x.clrN.set u 0 }).setF (R.MON_STAT o l) (monBit u) 0
  else if s.b (monThr o l u) F.MON_THR_x_STREAM != k then s
  else
    let ra := if k then R.MON_K_A o l else R.MON_T_A o l
    if s.b ra F.MON_T_A_UNSETTLED || s.b ra F.MON_T_A_NO_INPUT then s
    else
      let (a, c) := s.monCond o l u
      s.setRxl o l { x with
        setN := x.setN.set u (if a then min 255 (x.setN.getD u 0 + 1) else 0)
        clrN := x.clrN.set u (if c then min 255 (x.clrN.getD u 0 + 1) else 0)
        outTick := s.tick }

/-- A threshold unit asserts or clears once its count is reached (R149). -/
def State.monThreshold (s : State) (o l u : Nat) : State :=
  let x := s.rxl o l
  let r := monThr o l u
  let on := s.b (R.MON_STAT o l) (monBit u)
  let post := fun (s : State) (clr : Bool) =>
    s.eventAt x.outTick (monEv u) o l clr [s.f r F.MON_THR_x_STREAM, patternOf 64 (s.monFig o l u)]
  if !s.octOn o || !s.b r F.MON_THR_x_EN then s
  else if !on && decide (s.f r F.MON_THR_x_SET_N ≤ x.setN.getD u 0) then post (s.setF (R.MON_STAT o l) (monBit u) 1) false
  else if on && decide (s.f r F.MON_THR_x_CLR_N ≤ x.clrN.getD u 0) then post (s.setF (R.MON_STAT o l) (monBit u) 0) true
  else s

/-- What a lane keeps while its receive chain is powered down: the sample path starts anew (R120, R123). -/
def RxLane.off (x : RxLane) : RxLane :=
  { ({} : RxLane) with len := x.len, setN := x.setN, clrN := x.clrN, outTick := x.outTick, restart := x.restart, seed := x.seed }

/-- A receive chain powers up or down (R120); the chains that watch it restart when it powers up or leaves Retention (R148). -/
def State.rxPower (s : State) (o l : Nat) : State :=
  let on := s.rxOn o l
  if (s.rxl o l).powered = on then s
  else if on then (s.setRxl o l { s.rxl o l with powered := true }).monRestartSrc o l
  else s.setRxl o l (s.rxl o l).off

/-- The counters of a lane whose samples the commands do not give: free (log entry 1). -/
def State.rxUnknown (s : State) (o l : Nat) : State :=
  let s := s.freeF (R.RX_AFE_STAT o l) F.RX_AFE_STAT_RMS
  let (n, s) := s.draw (2 ^ 32)
  let s := (s.incF (R.RX_AFE_STAT o l) F.RX_AFE_STAT_CLIP_CNT n).perf (0x900 + 16 * o + 4) n
  if s.ffeOn o l then
    let (n, s) := s.draw (2 ^ 32)
    (s.incF (R.FFE_STAT o l) F.FFE_STAT_SAT_CNT n).perf (0x900 + 16 * o + 3) n
  else s

/-- The monitor outputs of a lane with their threshold counts (R145 to R149). -/
def State.monTick (s : State) (o l : Nat) : State :=
  let s := s.setMon o l ((s.mon o l).edge ((s.tickIdx + 99999) % 100000))
  let s := s.monOut o l false
  let s := s.each (List.range 4) fun u s => s.monCount o l u false
  let s := if s.tickIdx % 100 = 0 then
      let s := s.monOut o l true
      s.each (List.range 4) fun u s => s.monCount o l u true
    else s
  s.monSettle o l

/-- The receive chains of an octet at a tick edge: power, the counters where no samples were given, the loops of R141, and the monitor
outputs. -/
def State.rxTick (s : State) (o : Nat) : State :=
  let s := s.each lanes9 fun l s => s.rxPower o l
  if !s.octOn o then s
  else (s.swapFlags o).each lanes9 fun l s =>
    let s := if s.rxOn o l then
        let s := if (s.rxl o l).got then s.setRxl o l { s.rxl o l with got := false, rms := none } else s.rxUnknown o l
        if s.ffeOn o l then s.lvlAdapt o l else s
      else s
    s.monTick o l

end Sys2Proof.Machine
end

