-- ==== Sys2Proof/Machine/MapOps.lean ====
section
/-!
DEFINITION. The mapper (chapters 5, 7 and 8): calendar pages and their announcement, clients and their ends, the binding of tags,
and the deskew store's capacity.  The registers MAP_CLI_* and PROT_* are the home of a client's definition.
-/

namespace Sys2Proof.Machine

/-! ## Frame state -/

/-- Frame state of an octet. -/
def State.fo (s : State) (o : Nat) : FrameOct := Tab.get (fun _ => {}) s.frame.oct o

/-- The state with an octet's frame state replaced. -/
def State.setFo (s : State) (o : Nat) (x : FrameOct) : State :=
  { s with frame.oct := Tab.set (fun _ => {}) s.frame.oct o x }

/-- Frame state of a receive lane. -/
def State.fl (s : State) (o l : Nat) : FrameLane := Tab.get (fun _ => {}) s.frame.lane (9 * o + l)

/-- The state with a receive lane's frame state replaced. -/
def State.setFl (s : State) (o l : Nat) (x : FrameLane) : State :=
  { s with frame.lane := Tab.set (fun _ => {}) s.frame.lane (9 * o + l) x }

/-! ## Calendar pages (R177 to R179) -/

/-- The tag of a slot in a page. -/
def CalPage.tag (p : CalPage) (k : Nat) : Option Nat := Tab.get (fun _ => none) p.slots k

/-- The slots of a page that carry a tag, ascending. -/
def CalPage.slotsOf (p : CalPage) (t : Nat) : List Nat := (p.slots.filter fun e => e.2 == some t).map (·.1)

/-- A page with a tag put on slots. -/
def CalPage.give (p : CalPage) (t : Nat) (l : List Nat) : CalPage :=
  { p with slots := l.foldl (fun m k => Tab.set (fun _ => none) m k (some t)) p.slots }

/-- A page with every slot of a tag freed. -/
def CalPage.drop (p : CalPage) (t : Nat) : CalPage := { p with slots := p.slots.filter fun e => e.2 != some t }

/-- The page in force as the framer reads it: a poisoned entry has VALID = 0 until firmware rewrites it (R458). -/
def State.pageRead (s : State) (o : Nat) : CalPage :=
  let p := (s.fo o).txPage
  { p with slots := p.slots.filter fun e => !s.mem.badCal.any fun b => b.1 == 128 * o + e.1 }

/-- An announcement is in flight for a change of the present tick (R179). -/
def State.calBusy (s : State) (o : Nat) : Bool :=
  !s.stdMode o && match (s.fo o).txNext with
    | some (_, t) => decide (s.tick ≤ t + 1)
    | none => false

/-- The transmit page that a change of the present tick starts from. -/
def State.calBase (s : State) (o : Nat) : CalPage :=
  match (s.fo o).plan with
  | some p => p
  | none => match (s.fo o).txNext with
    | some (p, _) => p
    | none => (s.fo o).txPage

/-- The slots planned at the present tick replace those of the page being planned (R178); a standard-mode octet has no calendar,
and its placement holds at once (R193). -/
def State.calPut (s : State) (o : Nat) (slots : Tab (Option Nat)) : State :=
  let x := s.fo o
  if s.stdMode o then s.setFo o { x with txPage := { x.txPage with slots := slots } }
  else
    let seq := match x.plan with
      | some p => p.seq
      | none => ((s.calBase o).seq + 1) % 256
    s.setFo o { x with plan := some { seq := seq, slots := slots } }

/-- A change refused under R179 is counted. -/
def State.calBusyCount (s : State) (o : Nat) : State := s.incF (R.CAL_CNT o) F.CAL_CNT_BUSY_CNT 1

/-- The new page takes force on the transmit side (R178). -/
def State.calSwitchTx (s : State) (o : Nat) : State :=
  match (s.fo o).txNext with
  | some (p, t) =>
    if t + 2 ≤ s.tick then
      let s : State := { s.setFo o { s.fo o with txPage := p, txNext := none } with
        mem.badCal := s.mem.badCal.filter fun b => decide (b.1 / 128 ≠ o) }
      s.setFs (R.CAL_STAT o) [(F.CAL_STAT_TX_SEQ, p.seq), (F.CAL_STAT_TX_ANN, 0)]
    else s
  | none => s

/-- FC of the frame in which a change planned at the present tick takes force: F + 2 (R178). -/
def State.calFrame (s : State) (o : Nat) : Nat := ((s.fo o).fc + 2) % 2 ^ 48

/-- The Halyard copy of an announcement (R178, R311). -/
def State.calCopy (s : State) (o : Nat) (p : CalPage) (switchFc : Nat) : State :=
  s.halFw o 0x20 1 (leBytes 2 (s.f (R.FRM_CTL o) F.FRM_CTL_TAG_TX) ++ leBytes 1 p.seq ++ leBytes 1 1 ++ leBytes 2 switchFc
    ++ leBytes 2 0 ++ (List.range 128).flatMap fun k => leBytes 2 (calEntry (p.tag k)))

/-- The page planned for this tick is announced in the frame that starts in it (R178). -/
def State.calAnnounce (s : State) (o : Nat) : State :=
  match (s.fo o).plan with
  | some p =>
    let w := s.calFrame o % 2 ^ 16
    let s := s.setFo o { s.fo o with plan := none, txNext := some (p, s.tick) }
    let s := s.setFs (R.CAL_STAT o) [(F.CAL_STAT_TX_ANN, 1), (F.CAL_STAT_TX_SWITCH_FC, w)]
    if s.b (R.FRM_CTL o) F.FRM_CTL_CAL_HALY then s.calCopy o p w else s
  | none => s

/-- Slots of an octet and slots of one data lane in its mode (R29). -/
def State.laneSlots (s : State) (o : Nat) : Nat := if s.stdMode o then 8 else 16

/-- The slots of octet lane `p` are lost to the transmit direction: its carrier is retired (R231). -/
def State.txLaneLost (s : State) (o p : Nat) : Bool := s.txRetired o (s.txCarrier o p)

/-- The free slots of a page: those of retired lanes are never free (R253). -/
def State.freeSlots (s : State) (o : Nat) (p : CalPage) : List Nat :=
  let n := s.laneSlots o
  (List.range (8 * n)).filter fun k => (p.tag k).isNone && !s.txLaneLost o (k / n)

/-! ## Clients -/

/-- Fields of a client's definition (R273). -/
def State.cF (s : State) (c : Nat) (x : Fld) : Nat := s.f (R.MAP_CLI_DEF c) x
def State.eF (s : State) (c : Nat) (x : Fld) : Nat := s.f (R.MAP_CLI_END c) x
def State.defined (s : State) (c : Nat) : Bool := s.b (R.MAP_CLI_DEF c) F.MAP_CLI_DEF_DEFINED
def State.ends (s : State) (c : Nat) : Nat := s.cF c F.MAP_CLI_DEF_ENDS
def State.cls (s : State) (c : Nat) : Nat := s.cF c F.MAP_CLI_DEF_CLASS
def State.need (s : State) (c : Nat) : Nat := s.cF c F.MAP_CLI_DEF_SLOTS
def State.cbr (s : State) (c : Nat) : Bool := s.b (R.MAP_CLI_DEF c) F.MAP_CLI_DEF_KIND
def State.srcOct (s : State) (c : Nat) : Nat := s.eF c F.MAP_CLI_END_SRC
def State.snkOct (s : State) (c : Nat) : Nat := s.eF c F.MAP_CLI_END_SNK
def State.farTag (s : State) (c : Nat) : Nat := s.eF c F.MAP_CLI_END_FAR_TAG
def State.dual (s : State) (c : Nat) : Bool := s.b (R.PROT_END c) F.PROT_END_DUAL_SINK
def State.snk1 (s : State) (c : Nat) : Nat := s.f (R.PROT_END c) F.PROT_END_SNK1_OCT

/-- The kinds of end of an end pair: 0 = slot to line, 1 = line to slot, 2 = slot to slot, 3 = line to line (R273). -/
def lineSrcE (e : Nat) : Bool := e == 1 || e == 3
def lineSnkE (e : Nat) : Bool := e == 0 || e == 3
def slotSrcE (e : Nat) : Bool := e == 0 || e == 2
def slotSnkE (e : Nat) : Bool := e == 1 || e == 2

/-- The octets on which a client's sink copies lie. -/
def State.sinkOcts (s : State) (c : Nat) : List Nat :=
  if lineSnkE (s.ends c) then s.snkOct c :: (if s.dual c then [s.snk1 c] else []) else []

/-- A client is dropped or shed: it is defined and carries no traffic (R233, R538). -/
def State.dropped (s : State) (c : Nat) : Bool := s.b (R.MAP_CLI_STAT c) F.MAP_CLI_STAT_DROPPED
def State.shed (s : State) (c : Nat) : Bool := s.b (R.MAP_CLI_STAT c) F.MAP_CLI_STAT_SHED

/-- Hidden state of a client. -/
def State.cli (s : State) (c : Nat) : CliSt := Tab.get (fun _ => {}) s.map.cli c

/-- The state with a client's hidden state replaced. -/
def State.setCli (s : State) (c : Nat) (x : CliSt) : State := { s with map.cli := Tab.set (fun _ => {}) s.map.cli c x }

/-- The client's route set, ascending (R252, R274). -/
def State.routeOcts (s : State) (c r : Nat) : List Nat :=
  let o := if r = 0 then s.srcOct c else s.f (R.PROT_END c) F.PROT_END_ROUTE1_OCT
  let m := if r = 0 then s.eF c F.MAP_CLI_END_SIB_MASK else s.f (R.PROT_END c) F.PROT_END_ROUTE1_SIB
  (List.range 16).filter fun k => k == o || bitOf m k

/-- Slots of the receive page in force of an octet that carry a tag. -/
def State.rxSlots (s : State) (o t : Nat) : List Nat :=
  match (s.fo o).rxPage with
  | some p => p.slotsOf t
  | none => []

/-- The octets of a route set that carry the client's tag now: on a standard-mode octet the client itself (R191, log entry 32). -/
def State.tagOcts (s : State) (c r : Nat) : List Nat :=
  (s.routeOcts c r).filter fun o =>
    s.octOn o && s.yfecOn o && (if s.stdMode o then o == s.srcOct c && r == 0 else !(s.rxSlots o (s.farTag c)).isEmpty)

/-- Routes of a client: two for Class B. -/
def State.routes (s : State) (c : Nat) : List Nat := if s.cls c = 1 then [0, 1] else [0]

/-- The binding of one route (R252, R276): the lowest octet that carries the tag; TAG_SIZE where the slot count differs. -/
def State.bindRoute (s : State) (c r : Nat) : State :=
  let os := s.tagOcts c r
  let o := os.head?
  let bad := match o with
    | some k => !s.stdMode k && decide ((s.rxSlots k (s.farTag c)).length ≠ s.need c)
    | none => false
  let x := s.cli c
  let was := if r = 0 then x.bad0 else x.bad1
  let s := s.setCli c (if r = 0 then { x with bind0 := o, bad0 := bad } else { x with bind1 := o, bad1 := bad })
  if bad && !was then s.event Ev.TAG_SIZE c noLane [r] else s

/-- A line source end is bound anew, with NO_TAG, TAG_DUP and TAG_SIZE (R252), for each route in its own set (R276). -/
def State.bindEval (s : State) (c : Nat) : State :=
  if s.defined c && lineSrcE (s.ends c) then
    let s := s.each (s.routes c) fun r s => s.bindRoute c r
    let dup := fun r => (s.routes c).contains r && decide (1 < (s.tagOcts c r).length)
    let x := s.cli c
    let new := (dup 0 && !x.dup0) || (dup 1 && !x.dup1)
    let s := s.setCli c { x with dup0 := dup 0, dup1 := dup 1 }
    let none' := (s.routes c).all fun r => (s.tagOcts c r).isEmpty
    let s := s.setB (R.MAP_CLI_STAT c) F.MAP_CLI_STAT_NO_TAG none'
    if new then s.event Ev.TAG_DUP c noLane [] else s
  else s

/-- The octet a route is bound to. -/
def State.bound (s : State) (c r : Nat) : Option Nat := if r = 0 then (s.cli c).bind0 else (s.cli c).bind1

/-- A route of the client takes its tag from an octet. -/
def State.boundOn (s : State) (c o : Nat) : Bool := (s.routes c).any fun r => s.bound c r == some o

/-- Lanes of an octet that carry slots. -/
def State.lanesOf (s : State) (o : Nat) (slots : List Nat) : List Nat :=
  (List.range 8).filter fun p => slots.any fun k => k / s.laneSlots o == p

/-- The receive lane that carries the slots of octet lane `p`: LC once converted (R222). -/
def State.rxCarrier (s : State) (o p : Nat) : Nat := if s.convRx o == 4 && s.convRxLane o == p then 8 else p

/-- A route delivers the client: bound, sized right, every lane with its slots in LOCK and in service, and no slot stopped. -/
def State.routeOk (s : State) (c r : Nat) : Bool :=
  match s.bound c r with
  | some o =>
    let bad := if r = 0 then (s.cli c).bad0 else (s.cli c).bad1
    let ks := s.rxSlots o (s.farTag c)
    s.octUsable o && !bad
      && (if s.stdMode o then true
        else (s.lanesOf o ks).all (fun p => s.rxLock o (s.rxCarrier o p)) && ks.all fun k => !(s.fo o).stopped.contains k)
  | none => false

/-! ## Slot-lane PHYs (R240, R241) -/

/-- Where the PHY that holds lane `i` starts, in a layout of `n` lanes. -/
def phyStart (layout : Nat) : Nat → Nat
  | 0 => 0
  | i + 1 => if bitOf layout (i + 1) then i + 1 else phyStart layout i

/-- The width of the PHY that starts at lane `i` of `n` lanes. -/
def phyWidth (n layout i : Nat) : Nat :=
  match ((List.range n).filter fun k => decide (i < k) && bitOf layout k).head? with
  | some k => k - i
  | none => n - i

/-- The lanes of the PHY that holds a lane. -/
def phyLanes (n layout i : Nat) : List Nat :=
  let a := phyStart layout i
  (List.range (phyWidth n layout a)).map (a + ·)

/-- A layout meets R190 and the first two rules of R241. -/
def layoutOk (n layout : Nat) : Bool :=
  bitOf layout 0 && (List.range n).all fun i =>
    !bitOf layout i || (let w := phyWidth n layout i; (w == 1 || w == 2 || w == 4 || w == 8) && i % w == 0)

/-- The PHY of a slot lane. -/
def State.phy (s : State) (g i : Nat) : List Nat := phyLanes 16 (s.f (R.SG_LAYOUT g) F.SG_LAYOUT_START) i

/-- Ethernet lanes of a rate at a slot RATE (R27); none where the pair is not listed. -/
def ethLanes (eth rate : Nat) : Option Nat :=
  if rate = 0 then (if eth = 0 then some 1 else none)
  else if rate = 1 then (if eth = 1 then some 1 else if eth = 3 then some 4 else none)
  else if rate ≤ 4 then (if rate ≤ eth ∧ eth ≤ rate + 3 then some (2 ^ (eth - rate)) else none)
  else none

/-- Nominal rate of an Ethernet client in kb/s (R250). -/
def ethKb (eth : Nat) : Nat := [10, 25, 50, 100, 200, 400, 800, 1600].getD eth 0 * 1000000

/-- A constant bit rate that a slot RATE accepts (R240). -/
def cbrOk (rate kb : Nat) : Bool :=
  if rate = 0 then decide (9953280 ≤ kb) && decide (kb ≤ 12500000)
  else if rate = 1 then decide (12500000 < kb) && decide (kb ≤ 28100000)
  else if rate = 2 then decide (28100000 < kb) && decide (kb ≤ 56200000)
  else if rate = 3 then decide (56200000 < kb) && decide (kb ≤ 112500000)
  else if rate = 4 then decide (112500000 < kb) && decide (kb ≤ 212500000)
  else false

/-- Slots of a rate in kb/s (R29). -/
def slotCount (kb : Nat) : Nat := max 1 ((kb + 24999999) / 25000000)

/-! ## Choosing slots (R191, R253) -/

/-- Bits set in a slot mask. -/
def maskSlots (m : Nat) : List Nat := bitsOf 128 m

/-- The lanes of the standard-mode PHYs of an octet that fit an Ethernet rate: their start lanes and widths (R190, R191). -/
def State.stdPhys (s : State) (o eth : Nat) : List (Nat × Nat) :=
  let layout := s.f (R.FRM_CTL o) F.FRM_CTL_STD_LAYOUT
  ((List.range 8).filter fun l => bitOf layout l && 4 ≤ eth && phyWidth 8 layout l == 2 ^ (eth - 4)).map fun l =>
    (l, phyWidth 8 layout l)

/-- Slots of a standard-mode PHY. -/
def phySlots (p : Nat × Nat) : List Nat := (List.range (8 * p.2)).map (8 * p.1 + ·)

/-- The slots that a selection takes on an octet from those free in a page (R191, R253); none where it cannot. -/
def State.chooseSlots (s : State) (o n eth : Nat) (auto : Bool) (mask : Nat) (base : CalPage) : Option (List Nat) :=
  let free := s.freeSlots o base
  if s.stdMode o then
    let ok := (s.stdPhys o eth).filter fun p => (phySlots p).all free.contains && (auto || phySlots p == maskSlots mask)
    ok.head?.map phySlots
  else if auto then (if n ≤ free.length then some (free.take n) else none)
  else if (maskSlots mask).all free.contains then some (maskSlots mask) else none

/-- The slots for a client of the re-plan on an octet (R35, R192, R232): none where its class or kind may not lie there. -/
def State.roomOn (s : State) (k c : Nat) : Option (List Nat) :=
  if s.cls c == 0 && s.b (R.RX_OCT_STAT k) F.RX_OCT_STAT_PHASE_MODE then none
  else if s.stdMode k && (s.cbr c || s.cls c == 1 || s.dual c) then none
  else s.chooseSlots k (s.need c) (s.cF c F.MAP_CLI_DEF_ETH_RATE) true 0 (s.calBase k)

/-! ## The deskew store (R36, R281) -/

/-- Allocation units of a Class B client (R281). -/
def dskUnits (cbr : Bool) (kb : Nat) : Nat :=
  let num := if cbr then kb * 10001 * 5 * 64 else kb * 10001 * 257 * 5 * 64
  let den := if cbr then 10000 * 8 * 63 else 10000 * 256 * 8 * 63
  (num + 32000 * den + den * 2 ^ 20 - 1) / (den * 2 ^ 20)

/-- A client's nominal rate in kb/s. -/
def State.cliKb (s : State) (c : Nat) : Nat :=
  if s.cbr c then s.cF c F.MAP_CLI_DEF_CBR_RATE else ethKb (s.cF c F.MAP_CLI_DEF_ETH_RATE)

/-- The Class B clients. -/
def State.classB (s : State) : List Nat := s.map.defined.filter fun c => s.cls c == 1

/-- Rate and units in use. -/
def State.dskKb (s : State) : Nat := s.classB.foldl (fun n c => n + s.cliKb c) 0
def State.dskUsed (s : State) : Nat := s.classB.foldl (fun n c => n + dskUnits (s.cbr c) (s.cliKb c)) 0

/-- MAP_STAT and DSK_STAT follow the definitions (R273, R300). -/
def State.mapRefresh (s : State) : State :=
  let s := s.setF R.MAP_STAT F.MAP_STAT_CLIENTS s.map.defined.length
  s.setFs R.DSK_STAT [(F.DSK_STAT_RATE_USED, s.dskKb / 1000), (F.DSK_STAT_UNITS_USED, s.dskUsed),
    (F.DSK_STAT_CLIENTS, s.classB.length), (F.DSK_STAT_READY, s.f R.GD_STAT F.GD_STAT_READY)]

/-- The head slots of a client follow the page being planned (R175, R273, R300). -/
def State.headSlots (s : State) (c : Nat) : State :=
  let hd := fun o => ((s.calBase o).slotsOf c).headD 0
  let s := if lineSnkE (s.ends c) then s.setF (R.MAP_CLI_END c) F.MAP_CLI_END_HEAD_SLOT (hd (s.snkOct c)) else s
  if s.dual c then s.setF (R.PROT_END c) F.PROT_END_SNK1_HEAD (hd (s.snk1 c)) else s

/-- A client carries no traffic any more on its line sink octets: its slots are freed in the pages being planned. -/
def State.freeClient (s : State) (c : Nat) : State :=
  s.each (s.sinkOcts c) fun o s => s.calPut o ((s.calBase o).drop c).slots

end Sys2Proof.Machine
end

