-- ==== Sys2Proof/Machine/AcqOps.lean ====
section
/-!
DEFINITION. Acquisition, octet alignment and retirement on the receive side (R201 to R231): the state of each lane, what the fault
managers do to it, and the receive end of a conversion.
-/

namespace Sys2Proof.Machine

/-- Hidden acquisition state of a receive lane. -/
def State.aq (s : State) (o l : Nat) : AcqLane := Tab.get (fun _ => {}) s.acq.lane (9 * o + l)

/-- The state with a receive lane replaced. -/
def State.setAq (s : State) (o l : Nat) (x : AcqLane) : State :=
  { s with acq.lane := Tab.set (fun _ => {}) s.acq.lane (9 * o + l) x }

/-- Hidden conversion state of an octet. -/
def State.ao (s : State) (o : Nat) : AcqOct := Tab.get (fun _ => {}) s.acq.oct o

/-- The state with an octet replaced. -/
def State.setAo (s : State) (o : Nat) (x : AcqOct) : State := { s with acq.oct := Tab.set (fun _ => {}) s.acq.oct o x }

/-- CLK_MODE: per-lane clock recovery (R217). -/
def State.clkMode (s : State) (o : Nat) : Bool := s.b (R.ACQ_STAT o) F.ACQ_STAT_CLK_MODE

/-- TONE_LOCK (R202). -/
def State.toneLock (s : State) (o : Nat) : Bool := s.b (R.ACQ_STAT o) F.ACQ_STAT_TONE_LOCK

/-- LANE_STATE of a receive lane (R219). -/
def State.laneState (s : State) (o l : Nat) : Nat :=
  let cr := s.convRx o
  if l = 8 then
    if s.rxRetired o 8 then 8
    else if cr = 4 ∨ (cr = 3 ∧ s.rxLock o 8 = true) then 7
    else if s.toneLock o then 6
    else if s.rawLos o 8 ∨ !(s.aq o 8).everLock then 0 else 1
  else if s.rxRetired o l then (if cr = 4 ∧ s.convRxLane o = l then 4 else 5)
  else if cr = 3 ∧ s.convRxLane o = l then 3
  else if s.rxLock o l && (s.aq o l).service then 2
  else if s.rawLos o l || !(s.aq o l).everLock then 0 else 1

/-- LANE_STATE is shown on every lane. -/
def State.laneStates (s : State) (o : Nat) : State :=
  s.each lanes9 fun l s => s.setF (R.ACQ_LANE_STAT o l) F.ACQ_LANE_STAT_LANE_STATE (s.laneState o l)

/-- A lane of the octet is in service. -/
def State.anyService (s : State) (o : Nat) : Bool := lanes9.any fun l => (s.aq o l).service

/-- The octet stands aligned while a lane is in service (R215, log entry 40). -/
def State.alignKeep (s : State) (o : Nat) : State :=
  if s.anyService o then s else s.setF (R.ACQ_STAT o) F.ACQ_STAT_OCT_ALIGNED 0

/-- The first code of the phase sweep's part in its tick `n` (R203, R204): the sweep covers 64 codes from CODE - 32 on, eight in a tick. -/
def State.sweepCode (s : State) (o l n : Nat) : Nat := ((s.aq o l).sweep + 256 - 32 + 8 * n) % 256

/-- The phase sweep starts: it sets CODE directly (R203). -/
def State.sweepStart (s : State) (o l : Nat) : State :=
  let s := s.setAq o l { s.aq o l with sweep := s.f (R.RX_PI o l) F.RX_PI_CODE }
  s.setF (R.RX_PI o l) F.RX_PI_CODE (s.sweepCode o l 0)

/-- A receive lane enters an acquisition state (R206); what it had counted of a frame that is cut is dropped (R170, R186). -/
def State.setAcq (s : State) (o l v : Nat) : State :=
  let s := s.setFs (R.ACQ_LANE_STAT o l) [(F.ACQ_LANE_STAT_STATE, v), (F.ACQ_LANE_STAT_LOCK, bit (v = 6))]
  let x := s.aq o l
  let s := s.setAq o l { x with
    since := s.tick, verify := 0, miss := 0, slip := 0, pass := false, known := false, fine := false,
    everLock := x.everLock || v == 6, service := x.service && v == 6 }
  let s := s.setFl o l { s.fl o l with sym := 0, unc := 0, sub := [] }
  let s := s.alignKeep o
  let s := if v = 2 then s.sweepStart o l else s
  (if v = 4 then s.setFs (R.ACQ_LANE_STAT o l) [(F.ACQ_LANE_STAT_WINDOW, 0), (F.ACQ_LANE_STAT_FINE, 0),
      (F.ACQ_LANE_STAT_SEARCH_TICKS, 0)] else s).laneStates o

/-- DATA_LANES: the lanes that carry slots (R231). -/
def State.dataLanes (s : State) (o : Nat) : State :=
  s.setF (R.ACQ_STAT o) F.ACQ_STAT_DATA_LANES
    (((List.range 8).filter fun p => s.octOn o && !s.rxRetired o (s.rxCarrier o p)).length)

/-- A lane in WAIT_SIG with a signal goes on (R206, R208); LC before conversion waits for the tone. -/
def State.acqTry (s : State) (o l : Nat) : State :=
  if s.acqState o l ≠ 1 ∨ s.rawLos o l = true then s
  else if l = 8 ∧ !s.lcData o then s
  else if !s.clkMode o && !s.toneLock o then s
  else if (s.aq o l).kept then (s.setAq o l { s.aq o l with kept := false }).setAcq o l 4
  else if s.clkMode o then s.setAcq o l 7
  else s.setAcq o l 2

/-- A lane goes to WAIT_SIG, and on from there. -/
def State.acqWait (s : State) (o l : Nat) : State := (s.setAcq o l 1).acqTry o l

/-- A lane leaves OFF when its domain is On and it is not retired (R206). -/
def State.acqOn (s : State) (o : Nat) (kept : Bool) : State :=
  let s := s.each lanes9 fun l s =>
    if s.rxRetired o l then s.setAcq o l 9
    else
      let s := s.setAq o l { ({} : AcqLane) with kept := kept }
      s.acqWait o l
  s.dataLanes o

/-- The octet's domain leaves On (R206): every lane that is not retired goes to OFF, the octet is aligned anew later, and the
receive calendar is adopted anew (R182). -/
def State.acqOff (s : State) (o : Nat) : State :=
  let s := s.each lanes9 fun l s =>
    let s := if s.acqState o l = 9 then s else (s.setAq o l {}).setAcq o l 0
    (s.setFl o l {}).fltDisarm 0 o l
  let s := s.setFs (R.ACQ_STAT o) [(F.ACQ_STAT_TONE_LOCK, 0), (F.ACQ_STAT_OCT_ALIGNED, 0), (F.ACQ_STAT_DATA_LANES, 0)]
  let s := s.setFo o { s.fo o with
    rxPage := none, ann := none, carried := none, stopped := [], hist := [], lastJc := [] }
  s.setFs (R.CAL_STAT o) [(F.CAL_STAT_RX_VALID, 0), (F.CAL_STAT_RX_ANN, 0)]

/-! ## Retirement of receive lanes (R220 to R234) -/

/-- The change to per-lane clock recovery is staged (R225). -/
def State.clkStage (s : State) (o : Nat) : State := if s.clkMode o then s else s.setAo o { s.ao o with clkStaged := true }

/-- A retirement of the hour is counted (R360). -/
def State.countRetire (s : State) : State := { s with jrn.hourRetire := s.jrn.hourRetire + 1 }

/-- A conversion of the hour is counted (R360). -/
def State.countConv (s : State) : State := { s with jrn.hourConv := s.jrn.hourConv + 1 }

/-- A receive lane is retired (R206, R234): powered down, its manager disarmed, journalled with the LANE_STATE reached and the FC
of B for a conversion (R360), and a trim run requested. -/
def State.rxRetire (s : State) (o l b : Nat) : State :=
  if s.rxRetired o l then s
  else
    let s := s.setF (R.RETIRE_STAT o) F.RETIRE_STAT_RX_RETIRED
      (withBit (s.f (R.RETIRE_STAT o) F.RETIRE_STAT_RX_RETIRED) l true)
    let s := ((s.trimLose o l).setAcq o l 9).fltDisarm 0 o l
    let s := (s.jrnEvent 2 o l 0 (s.laneState o l) 0 b).countRetire
    (((s.trimRetire o).dataLanes o).laneStates o).planDiscAll o

/-- The LANE_RETIRE that waits at the receive end completes (R235, R401). -/
def State.rxCmdDone (s : State) (o l b : Nat) : State :=
  match (s.ao o).rxCmd with
  | some (c, reason) =>
    let s := s.setAo o { s.ao o with rxCmd := none }
    s.completeAt c Op.LANE_RETIRE St.OK c.eff [(32, 1, s.laneState o l), (33, 1, reason), (34, 1, s.convRx o), (40, 6, b)]
  | none => s

/-- A data lane is retired without a spare: RETIRE tells the far end (R231). -/
def State.rxLose (s : State) (o l : Nat) : State := (s.rxRetire o l 0).halConv o 0x15 l 0 0

/-- The receive end of a conversion fails (R222): lane and calendar follow R231, and CLK_MODE stays; LC stays locked to a tone that has not
ended. -/
def State.convFail (s : State) (o : Nat) : State :=
  let l := s.convRxLane o
  let s := s.setF (R.CONV_STAT o) F.CONV_STAT_RX_STATE 5
  let s := (s.rxLose o l).event Ev.CONV_FAIL o l []
  let s := if s.acqState o 8 = 9 ∨ s.toneLock o = true then s else s.setAcq o 8 1
  (s.laneStates o).rxCmdDone o l ((s.ao o).rxB.getD 0)

/-- LC is retired (R230): per-lane clock recovery first, then RETIRE for lane 8; a conversion in progress fails (R229). -/
def State.lcRetire (s : State) (o : Nat) : State :=
  let s := s.clkStage o
  let s := s.setF (R.ACQ_STAT o) F.ACQ_STAT_TONE_LOCK 0
  let s := (s.rxRetire o 8 0).halConv o 0x15 8 0 0
  if 1 ≤ s.convRx o ∧ s.convRx o ≤ 3 then s.convFail o
  else if s.convRx o = 4 then (s.setF (R.CONV_STAT o) F.CONV_STAT_RX_STATE 5).laneStates o else s

/-- A conversion is possible for a data lane (R220). -/
def State.convPossible (s : State) (o : Nat) : Bool :=
  !s.stdMode o && s.f (R.RETIRE_STAT o) F.RETIRE_STAT_RX_RETIRED == 0 && s.b (R.ACQ_CTL o) F.ACQ_CTL_CONV_EN && s.toneLock o
    && s.convRx o == 0

/-- A receive lane becomes a candidate for retirement (R220, R229): `reason` is that of CONV_REQ. -/
def State.rxCandidate (s : State) (o l reason : Nat) : State :=
  if s.rxRetired o l then s
  else if l = 8 then s.lcRetire o
  else if s.convPossible o then
    let s := s.setFs (R.CONV_STAT o) [(F.CONV_STAT_RX_STATE, 1), (F.CONV_STAT_RX_LANE, l)]
    s.setAo o { s.ao o with
      convReason := reason, rxB := none, convExp := 0, convTick := s.tick, convDue := some (s.tick + 1), doneOwed := false }
  else if (s.convRx o = 1 ∨ s.convRx o = 2 ∨ s.convRx o = 3) ∧ s.convRxLane o = l then s
  else s.rxLose o l

/-! ## Faults of receive lanes (R447 to R450) -/

/-- A fault on a receive lane: a lane in FAIL restarts at the next tick edge, a permanent one makes the lane a candidate. -/
def State.laneFault (s : State) (o l kind : Nat) : State :=
  let (s, k) := s.fltFault 0 o l kind 200
  let s := if k = 1 ∧ s.acqState o l = 6 then s.fltRetryDone 0 o l else s
  if k = 2 then s.rxCandidate o l 1
  else if k = 1 ∧ s.acqState o l = 8 then s.setAq o l { s.aq o l with restart := true } else s

/-- A lane fails to acquire (R206). -/
def State.acqFail (s : State) (o l : Nat) : State :=
  let s := ((s.setAcq o l 8).incF (R.ACQ_CNT o l) F.ACQ_CNT_ACQ_FAIL_CNT 1).event Ev.ACQ_FAIL o l []
  s.laneFault o l 3

/-- A lane leaves LOCK (R206); `fault` says whether the loss is a fault of its own. -/
def State.acqLose (s : State) (o l : Nat) (fault : Bool) : State :=
  if s.acqState o l = 6 then
    let s := ((s.setAcq o l 1).incF (R.ACQ_CNT o l) F.ACQ_CNT_LOCK_LOSS_CNT 1).event Ev.ACQ_LOST o l []
    let s := s.trimLose o l
    let s := if fault then s.laneFault o l 2 else s
    s.acqTry o l
  else s

/-- A lane reaches LOCK (R206, R446, R449). -/
def State.acqLock (s : State) (o l : Nat) : State :=
  let s := (s.setAcq o l 6).event Ev.ACQ_LOCK o l []
  let s := if s.fltState 0 o l = 2 then s.setFltState 0 o l 0 else s
  (s.fltArm 0 o l).fltRetryDone 0 o l

/-- TONE_LOCK clears (R202, R206): LC, and under the forwarded clock every data lane, leave LOCK. -/
def State.toneClear (s : State) (o : Nat) (fault : Bool) : State :=
  if s.toneLock o then
    let s := s.setF (R.ACQ_STAT o) F.ACQ_STAT_TONE_LOCK 0
    let s := if s.lcData o then s.laneStates o else s.acqLose o 8 fault
    if s.clkMode o then s else s.each (List.range 8) fun l s => s.acqLose o l true
  else s

/-! ## Octet deskew (R214, R215) -/

/-- READ_POS of an octet. -/
def State.readPos (s : State) (o : Nat) : Nat := s.f (R.ACQ_STAT o) F.ACQ_STAT_READ_POS

/-- A difference of positions within the frame, between minus half a frame and half a frame. -/
def posDiff (a b : Nat) : Int :=
  let n := frameSymbols
  let d := (a + n - b % n) % n
  if 2 * d < n then (d : Int) else (d : Int) - n

/-- SKEW of an arrival: its distance from the middle of the deskew window (R239). -/
def State.skewOf (s : State) (o a : Nat) : Int := posDiff a ((s.readPos o + frameSymbols - 32) % frameSymbols)

/-- The receive lanes that carry slots: those of every octet lane that is not lost. -/
def State.slotLanes (s : State) (o : Nat) : List Nat :=
  ((List.range 8).map fun p => s.rxCarrier o p).filter fun l => !s.rxRetired o l

end Sys2Proof.Machine
end

