-- ==== Sys2Proof/Machine/RetireOps.lean ====
section
/-!
DEFINITION. The transmit end of retirement (R223 to R233): conversion at F, retirement without a spare, and the re-plan of the
calendar; and what a tick edge does for conversions.
-/

namespace Sys2Proof.Machine

/-! ## Re-plan (R232, R233) -/

/-- The clients of a list in class order A to D, then by ascending client number. -/
def State.classOrder (s : State) (l : List Nat) : List Nat :=
  l.mergeSort fun a b => decide (s.cls a < s.cls b) || (decide (s.cls a = s.cls b) && decide (a ≤ b))

/-- The octets on which a client of the re-plan may be placed: its own first, then the siblings, never the octet of the other copy
(R233, R277). -/
def State.replanOcts (s : State) (o c : Nat) : List Nat :=
  let sib := (List.range 16).filter fun k => k != o && bitOf (s.f (R.ACQ_CTL o) F.ACQ_CTL_SIBLINGS) k
    && s.octUsable k
  o :: sib.filter fun k => !(s.sinkOcts c).contains k

/-- The first octet with room for a client, and the slots that it would take there: in standard mode those of one PHY of its rate. -/
def State.roomFor (s : State) (o c : Nat) : Option (Nat × List Nat) :=
  (s.replanOcts o c).findSome? fun k => (s.roomOn k c).map fun l => (k, l)

/-- The client that is pre-empted next for `c`: unmoved, of lower class, of the lowest class and highest number. -/
def State.preempt (s : State) (o c : Nat) (moved : List Nat) : Option Nat :=
  let held := s.map.defined.filter fun v => !(((s.calBase o).slotsOf v).isEmpty) && !moved.contains v
    && decide (s.cls c < s.cls v)
  held.foldl (fun best v => match best with
    | none => some v
    | some b => if s.cls b < s.cls v ∨ (s.cls b = s.cls v ∧ b < v) then some v else some b) none

/-- The sink octet of the copy that lay on `o` becomes `k`. -/
def State.moveSink (s : State) (c o k : Nat) : State :=
  if s.snkOct c = o then s.setF (R.MAP_CLI_END c) F.MAP_CLI_END_SNK k
  else s.setF (R.PROT_END c) F.PROT_END_SNK1_OCT k

/-- One client of the re-plan is placed or dropped. -/
def State.replanPlace (s : State) (o c : Nat) : State :=
  match s.roomFor o c with
  | some (k, free) =>
    let s := s.calPut k ((s.calBase k).give c free).slots
    let s := (s.moveSink c o k).headSlots c
    s.event Ev.CLIENT_MOVED c noLane [k]
  | none =>
    let s := if s.dual c then s else s.setF (R.MAP_CLI_STAT c) F.MAP_CLI_STAT_DROPPED 1
    s.event Ev.CLIENT_DROPPED c noLane []

/-- The body of the re-plan: `d` are the clients still to place, in order. -/
def State.replanLoop (o : Nat) : Nat → State → List Nat → List Nat → State
  | 0, s, _, _ => s
  | _, s, [], _ => s
  | n + 1, s, c :: d, moved =>
    match s.roomFor o c, s.preempt o c moved with
    | none, some v =>
      let s := s.calPut o ((s.calBase o).drop v).slots
      State.replanLoop o n s (s.classOrder (c :: v :: d)) moved
    | _, _ => State.replanLoop o n (s.replanPlace o c) d (c :: moved)

/-- The re-plan of an octet (R232): displaced clients give up their slots, then they are placed in class order. -/
def State.replan (s : State) (o : Nat) : State :=
  let base := s.calBase o
  let lost := base.slots.filter fun e => s.txLaneLost o (e.1 / s.laneSlots o)
  let d := s.map.defined.filter fun c => lost.any fun e => e.2 == some c
  let keep := base.slots.filter fun e => !(s.txLaneLost o (e.1 / s.laneSlots o)) && !(d.any fun c => e.2 == some c)
  if lost.isEmpty then s
  else
    let s := s.calPut o keep
    State.replanLoop o 2048 s (s.classOrder d) []

/-- The octets of a re-plan have no announcement in flight (R179, R232). -/
def State.replanReady (s : State) (o : Nat) : Bool :=
  !s.calBusy o && (List.range 16).all fun k =>
    !bitOf (s.f (R.ACQ_CTL o) F.ACQ_CTL_SIBLINGS) k || k == o || !s.calBusy k

/-- At a tick edge a prepared re-plan is staged at the first tick that R179 allows (R232). -/
def State.replanTick (s : State) (o : Nat) : State :=
  if (s.ao o).replan.isEmpty || !s.replanReady o || !s.octOn o then s
  else (s.setAo o { s.ao o with replan := [] }).replan o

/-! ## Transmit lanes -/

/-- The LANE_RETIRE that waits at the transmit end completes with the outcome and B, 0 where no bridge was made (R235, R401). -/
def State.txCmdDone (s : State) (o st b : Nat) : State :=
  match (s.ao o).txCmd with
  | some (c, reason) =>
    let s := s.setAo o { s.ao o with txCmd := none }
    s.completeAt c Op.LANE_RETIRE St.OK c.eff [(32, 1, st), (33, 1, reason), (34, 1, s.convTx o), (40, 6, b)]
  | none => s

/-- A transmit lane has reached RETIRED (R223): LANE_RETIRED, and the conversion it belonged to is complete. -/
def State.txReached (s : State) (o l : Nat) : State :=
  let s := s.event Ev.LANE_RETIRED o l []
  if s.convTx o = 3 ∧ s.convTxLane o = l then
    ((s.setF (R.CONV_STAT o) F.CONV_STAT_TX_STATE 4).countConv).txCmdDone o 4 (s.f (R.CONV_STAT o) F.CONV_STAT_TX_B)
  else s

/-- A transmit lane is retired (R107, R234): marked, journalled, and ramped down. -/
def State.txRetire (s : State) (o l st : Nat) : State :=
  if s.txRetired o l then s
  else
    let s := s.setF (R.RETIRE_STAT o) F.RETIRE_STAT_TX_RETIRED
      (withBit (s.f (R.RETIRE_STAT o) F.RETIRE_STAT_TX_RETIRED) l true)
    let b := if s.convTx o = 3 ∧ s.convTxLane o = l then s.f (R.CONV_STAT o) F.CONV_STAT_TX_B else 0
    let s := ((s.jrnEvent 2 o l 1 st 0 b).countRetire).laneRetire o l
    let s := if s.txState o l = 6 then s.txReached o l else s
    (s.trimRetire o).halRefresh2 o

/-- A data lane of the transmit direction is retired without conversion: its slots go with it (R231). -/
def State.txLose (s : State) (o l : Nat) : State :=
  let s := s.txRetire o l 5
  s.setAo o { s.ao o with replan := (s.ao o).replan ++ [l] }

/-- The transmit end of a conversion fails (R223): LC returns to the tone, and lane l and its slots are lost. -/
def State.convTxFail (s : State) (o : Nat) : State :=
  let l := s.convTxLane o
  let s := s.setF (R.CONV_STAT o) F.CONV_STAT_TX_STATE 5
  let s := if s.txRetired o 8 then s else s.setF (R.TONE_CTL o) F.TONE_CTL_TONE_EN 1
  (s.txLose o l).txCmdDone o 5 (s.f (R.CONV_STAT o) F.CONV_STAT_TX_B)

/-- LC of the transmit direction is retired (R230); a lane that LC carries is lost with it. -/
def State.lcTxRetire (s : State) (o : Nat) : State :=
  let s := s.halCut o false
  let s := if s.convTx o = 1 then (s.setF (R.CONV_STAT o) F.CONV_STAT_TX_STATE 0).txCmdDone o 5 0 else s
  let s := if s.convTx o = 2 then
      (s.setF (R.CONV_STAT o) F.CONV_STAT_TX_STATE 5).txCmdDone o 5 (s.f (R.CONV_STAT o) F.CONV_STAT_TX_B) else s
  let s := s.txRetire o 8 8
  if s.convTx o = 3 ∨ s.convTx o = 4 then s.setAo o { s.ao o with replan := (s.ao o).replan ++ [s.convTxLane o] } else s

/-- Why F cannot convert a lane now: the cause of CONV_NAK (R221): 1 = CONV_EN clear, 2 = busy, 3 = LC not available, 4 = mode. -/
def State.convNak (s : State) (o : Nat) : Nat :=
  if s.stdMode o then 4
  else if !s.b (R.ACQ_CTL o) F.ACQ_CTL_CONV_EN then 1
  else if s.convTx o ≠ 0 ∨ s.f (R.RETIRE_STAT o) F.RETIRE_STAT_TX_RETIRED % 256 ≠ 0 then 2
  else if s.txRetired o 8 ∨ s.txLit o 8 = false ∨ s.b (R.TONE_CTL o) F.TONE_CTL_TONE_EN = false then 3 else 0

/-- FC of the frame that starts `n` ticks after the present one, at a tick edge before its frame (R223). -/
def State.fcAhead (s : State) (o n : Nat) : Nat :=
  let x := s.fo o
  let base := if x.last = some s.tick then x.fc + n - 1 else x.fc + n
  base % 2 ^ 48

/-- F schedules the bridge (R223): B is the frame of `n` ticks on, and CONV_ACK follows at the next tick. -/
def State.convSchedule (s : State) (o l n : Nat) : State :=
  let s := s.setFs (R.CONV_STAT o) [(F.CONV_STAT_TX_STATE, 1), (F.CONV_STAT_TX_LANE, l), (F.CONV_STAT_TX_B, s.fcAhead o n)]
  (s.setAo o { s.ao o with ackDue := some (s.tick + 1), ackLane := l, oam4 := 0 }).trimAbandon o 2

/-- Lane l ramps down once N has selected LC (R223). -/
def State.convRetiring (s : State) (o : Nat) : State :=
  if s.convTx o = 2 then (s.setF (R.CONV_STAT o) F.CONV_STAT_TX_STATE 3).txRetire o (s.convTxLane o) 4 else s

/-- A tick edge at F: CONV_ACK is sent in the tick after the request, and a lane that a clear took down in RETIRING has reached
RETIRED (R107, R223). -/
def State.convTickTx (s : State) (o : Nat) : State :=
  let s := if s.convTx o = 3 ∧ s.txState o (s.convTxLane o) = 6 then s.txReached o (s.convTxLane o) else s
  match (s.ao o).ackDue with
  | some t =>
    if t ≤ s.tick then
      (s.setAo o { s.ao o with ackDue := none }).halConv o 0x11 (s.ao o).ackLane 0 (s.f (R.CONV_STAT o) F.CONV_STAT_TX_B)
    else s
  | none => s

end Sys2Proof.Machine
end

