-- ==== Sys2Proof/Machine/Datapath.lean ====
section
/-!
DEFINITION. The path of client data (chapters 7 and 8): what enters at a source end, what a sink end delivers, the deskew store and
the selector.
-/

namespace Sys2Proof.Machine

/-! ## Common -/

/-- The data of a client between its ends. -/
def State.path (s : State) (c : Nat) : CliPath := (s.cli c).path

/-- The same, replaced. -/
def State.setPath (s : State) (c : Nat) (x : CliPath) : State := s.setCli c { s.cli c with path := x }

/-- `n` free values set aside, by the number of the first (log entry 1). -/
def State.drawBase (s : State) (n : Nat) : Nat × State := (s.freeCtr, { s with freeCtr := s.freeCtr + n })

/-- Errored blocks or words of a client are counted (R188). -/
def State.errAdd (s : State) (c n : Nat) : State :=
  if n = 0 then s else (s.incF (R.MAP_CLI_CNT c) F.MAP_CLI_CNT_ERR_CNT n).perf (perfClient 5 c) n

/-- Errored data whose place in the stream the model does not hold: a free number of words, or of blocks, four for each 257-bit block
(R188, log entry 1). -/
def State.errCount (s : State) (c : Nat) : State :=
  let (n, s) := s.draw (2 ^ 20)
  s.errAdd c (if s.cbr c then n + 1 else 4 * (n + 1))

/-- What replaces a client's data (R249): local fault ordered sets, or CBR_FILL. -/
def State.fillItem (s : State) (c : Nat) : Nat := if s.cbr c then s.f R.MAP_CTL F.MAP_CTL_CBR_FILL else faultBlk

/-- Blocks or words of replacement that a sink emits in tick `n`: those of the nominal rate (R249). -/
def State.replItems (s : State) (c n : Nat) : Nat :=
  let d := if s.cbr c then 1000 else 6400
  s.cliKb c * (n + 1) / d - s.cliKb c * n / d

/-! ## Sources (R247 to R249) -/

/-- Words enter the buffer: stream bits are cut into words behind those that wait. -/
def CliPath.pushBits (x : CliPath) (b : List Bool) : CliPath :=
  let all := x.bits ++ b
  let (ws, left) := bitWords (all.length / 10 + 1) all
  { x with bits := left, inQ := x.inQ ++ ws }

/-- 66-bit blocks enter: each group of four is transcoded (R248). -/
def CliPath.pushBlocks (x : CliPath) (bs : List Nat) : CliPath :=
  let all := x.blks ++ bs
  let (gs, rest) := fours (all.length / 4 + 1) all
  { x with blks := rest }.pushBits (gs.flatMap fun g => natBits 257 (transcode g))

/-- The words that entered in an interval are counted for its decision. -/
def CliPath.entered (x : CliPath) (old : Nat) : CliPath := { x with groups := x.groups ++ [x.inQ.length - old] }

/-- Items as blocks: markers are removed, and a block that an uncorrectable codeword touches is an error block (R247, R248). -/
def blocksOf (items : List (Nat × Nat)) : List Nat :=
  (items.filter fun e => e.1 != 1).map fun e => if e.1 = 2 then errorBlk else e.2

/-- The intervals that no decision has taken count with the next. -/
def CliPath.carryOver (x : CliPath) (old : List Nat) : CliPath :=
  match x.groups.drop old.length with
  | g :: l => { x with groups := (old.sum + g) :: l }
  | [] => x

/-- One interval of a client's source. -/
def State.slotItems (s : State) (c : Nat) (x : CliPath) (items : List (Nat × Nat)) : CliPath :=
  let n := x.inQ.length
  (if s.cbr c then { x with inQ := x.inQ ++ items.map fun e => e.2 % 1024 } else x.pushBlocks (blocksOf items)).entered n

/-! ## Slot sinks (R248, R259) -/

/-- Blocks with an alignment marker after every `per` - 1 of them, from `n` blocks after the last one. -/
def withMarkers (per : Nat) : Nat → List Nat → List (Nat × Nat) × Nat
  | n, [] => ([], n)
  | n, b :: l =>
    if per ≠ 0 ∧ per ≤ n + 2 then
      let (r, m) := withMarkers per 0 l
      ((0, b) :: (1, 0) :: r, m)
    else
      let (r, m) := withMarkers per (n + 1) l
      ((0, b) :: r, m)

/-- The slot transmitter of an Ethernet sink sends blocks, with the markers of its own PHY. -/
def State.emitBlocks (s : State) (c : Nat) (bs : List Nat) : State :=
  let x := s.path c
  let rate := s.f (R.SL_CTL (s.snkOct c) (s.eF c F.MAP_CLI_END_SNK_LANE)) F.SL_CTL_RATE
  let (l, n) := withMarkers (Config.amPeriod (s.cF c F.MAP_CLI_DEF_ETH_RATE) rate) x.am bs
  s.setPath c { x with sent := x.sent ++ l, am := n }

/-- The stream bits of flagged words, and the blocks that they complete. -/
def CliPath.takeBlocks (x : CliPath) (ws : List (Nat × Bool)) : List (Nat × Bool) × CliPath :=
  let all := x.outBits ++ ws.flatMap fun w => (natBits 10 w.1).map fun b => (b, w.2)
  let (gs, left) := groups257 (all.length / 257 + 1) all
  (gs, { x with outBits := left })

/-- Words of a sub-frame are delivered (R188, R248, R259, R261): to a slot transmitter, or into a regeneration buffer.  A 257-bit block that
an errored bit touches becomes four error blocks, also where it goes on into line slots (log entry 130). -/
def State.deliver (s : State) (c : Nat) (ws : List (Nat × Bool)) : State :=
  let x := s.path c
  let n := x.inQ.length
  let bad := fun (g : Nat × Bool) => g.2 || (untranscode g.1).isNone
  if s.cbr c then
    let s := s.errAdd c (ws.filter fun w => w.2).length
    if slotSnkE (s.ends c) then s.setPath c { x with sent := x.sent ++ (ws.map fun (w : Nat × Bool) => (0, w.1)) }
    else s.setPath c ({ x with inQ := x.inQ ++ ws.map (fun (w : Nat × Bool) => w.1) }.entered n)
  else
    let (gs, x) := x.takeBlocks ws
    let s := (s.setPath c x).errAdd c (4 * (gs.filter bad).length)
    if slotSnkE (s.ends c) then s.emitBlocks c (gs.flatMap fun g => sinkBlocks g.1 g.2)
    else s.setPath c ((x.pushBits (gs.flatMap fun g =>
      natBits 257 (if bad g then transcode (List.replicate 4 errorBlk) else g.1))).entered n)

/-- The replacement of an interval enters a client's buffer at its nominal rate (R249): words of 10 bits, or groups of four blocks. -/
def State.replEnter (s : State) (c : Nat) : State :=
  let x := s.path c
  let n := x.inQ.length
  let d := if s.cbr c then 8000 else 204800
  let acc := x.frac + s.cliKb c
  let y := { x with frac := acc % d, groups := [] }
  let y := if s.cbr c then { y with inQ := y.inQ ++ List.replicate (acc / d) (s.fillItem c) }
    else y.pushBlocks (List.replicate (4 * (acc / d)) (s.fillItem c))
  s.setPath c { y with groups := [x.groups.sum + (y.inQ.length - n)] }

/-- What came in at a slot PHY in the tick that ends, for the client bound to it while its PHY is UP: a slot-to-slot client's blocks pass in
66-bit form, without justification (R248, R260). -/
def State.slotIn (s : State) (key : Nat) (groups : List (List (Nat × Nat))) : State :=
  let g := key / 16
  let r := R.SL_STAT g (key % 16)
  if s.f r F.SL_STAT_STATE ≠ 4 ∨ s.f r F.SL_STAT_RX_BOUND = 0 then s
  else
    let c := s.f r F.SL_STAT_RX_CLIENT
    let bad := (groups.flatten.filter fun e => e.1 == 2).length
    let s := s.perf (0x400 + key) bad
    if s.ends c = 2 then
      (if s.cbr c then s.setPath c { s.path c with sent := (s.path c).sent ++ groups.flatten.map (fun e => (0, e.2 % 1024)) }
       else s.emitBlocks c (groups.flatMap blocksOf))
    else
      let x := s.path c
      s.setPath c (((groups.take 8).foldl (fun x l => s.slotItems c x l) x).carryOver x.groups)

/-- What slot transmitters sent belongs to one tick. -/
def State.sentClear (s : State) : State :=
  s.each (s.map.defined.filter fun c => slotSnkE (s.ends c)) fun c s =>
    if (s.path c).sent.isEmpty then s else s.setPath c { s.path c with sent := [] }

/-- What a slot PHY that is UP and bound to no client for transmission emits throughout a tick (R249). -/
def State.phyIdle (s : State) (g i : Nat) : Option Nat :=
  let r := R.SL_STAT g i
  if s.f r F.SL_STAT_STATE = 4 ∧ s.f r F.SL_STAT_TX_BOUND = 0 then
    some (if s.b (R.SL_CTL g i) F.SL_CTL_CBR then s.f R.MAP_CTL F.MAP_CTL_CBR_FILL else faultBlk)
  else none

/-! ## The deskew store (R281 to R285) -/

/-- Blocks of 64 words in a client's region: 2,048 in each unit of 1 MiB. -/
def State.regionBlocks (s : State) (c : Nat) : Nat := 2048 * dskUnits (s.cbr c) (s.cliKb c)

/-- The channel of a group of a region (R283). -/
def groupChannel (g : Nat) : Nat := g % 24

/-- The key of a group of a client's region. -/
def storeKey (c g : Nat) : Nat := 2 ^ 32 * c + g

/-- Whole groups are written from block `b` of a region on (R284). -/
def State.writeGroups (s : State) (c b : Nat) (ws : List Nat) : State :=
  let n := s.regionBlocks c
  s.each (eights (ws.length / 8 + 1) ws).zipIdx fun g s =>
    let i := 8 * (b % n) + g.2
    { s with map.store := Tab.set (fun _ => []) s.map.store (storeKey c i) (gdGroup g.1) }.perf (0xA20 + groupChannel i) 1

/-- The group buffer gives up each 63 words behind their flag word. -/
def State.flushStore : Nat → State → Nat → State
  | 0, s, _ => s
  | n + 1, s, c =>
    let x := s.path c
    if x.buf.length < 63 then s
    else
      let b := x.wr / 63
      let s := s.writeGroups c b (flagged (x.buf.take 63))
      let x := { x with
        buf := x.buf.drop 63, wr := x.wr + 63
        poison := x.poison.filter fun w => w / 64 != b % s.regionBlocks c }
      State.flushStore n (s.setPath c x) c

/-- A sub-frame enters the store (R283). -/
def State.storeIn (s : State) (c : Nat) (x : SubCopy) : State :=
  let p := s.path c
  let buf := p.buf ++ storeWords x
  State.flushStore (buf.length / 63 + 1) (s.setPath c { p with buf := buf }) c

/-- At its deletion a client's last group is padded with zeros and written (R284). -/
def State.storeEnd (s : State) (c : Nat) : State :=
  let x := s.path c
  if x.buf.isEmpty then s else s.writeGroups c (x.wr / 63) (flagged x.buf)

/-- Data word `d` of a client's region, counted from its first, with its flag: as written, flagged also where it or its flag word is poisoned
(R285); from the group buffer while it is there. -/
def State.storeWord (s : State) (c d : Nat) : Nat × Bool :=
  let x := s.path c
  if x.wr ≤ d then x.buf.getD (d - x.wr) (0, true)
  else
    let b := d / 63 % s.regionBlocks c
    let w := d % 63 + 1
    let at' := fun k => (Tab.get (fun _ => []) s.map.store (storeKey c (8 * b + k / 8))).getD (k % 8) 0
    (at' w, bitOf (at' 0) (d % 63) || x.poison.contains (64 * b + w) || x.poison.contains (64 * b))

/-- The next sub-frame of the store, and where the one after it begins. -/
def State.storeNext (s : State) (c : Nat) : Option (SubCopy × Nat) :=
  let x := s.path c
  if x.rd < x.wr + x.buf.length then
    let h := s.storeWord c x.rd
    let n := storeLen (slice h.1 43 18)
    some (storeRead h ((List.range n).map fun i => s.storeWord c (x.rd + 1 + i)), x.rd + 1 + n)
  else none

/-- A sub-frame has been read: the groups that held it count as read, each once. -/
def State.storeTaken (s : State) (c next : Nat) : State :=
  let x := s.path c
  let group := fun d => 8 * (d / 63 % s.regionBlocks c) + (d % 63 + 1) / 8
  let gs := ((List.range (next - x.rd)).map fun i => group (x.rd + i)).filter fun g => !(Tab.get (fun _ => []) s.map.store (storeKey c g)).isEmpty
  let one := gs.foldl (fun l g => if l.head? = some g then l else g :: l) []
  (s.setPath c { x with rd := next }).each one fun g s => s.perf (0xA40 + groupChannel g) 1

/-- The store of a client holds nothing, and is written from the next sub-frame on (R290). -/
def State.storeClear (s : State) (c : Nat) : State :=
  let x := s.path c
  if x.late.isEmpty && x.buf.isEmpty && x.wr == 0 && x.poison.isEmpty then s
  else s.setPath c { x with late := [], buf := [], wr := 0, rd := 0, poison := [] }

/-- A word of a client's region is uncorrectable (R285). -/
def State.storePoison (s : State) (c w : Nat) : State :=
  if s.cls c = 1 then s.setPath c { s.path c with poison := w :: (s.path c).poison.erase w } else s

/-! ## The selector (R286, R287) -/

/-- Copy `a` is of an earlier frame and sub-frame than copy `b`; stamps wrap at 2^40. -/
def SubCopy.before (a b : SubCopy) : Bool :=
  let n := fun (x : SubCopy) => 8 * x.stamp + x.k
  decide ((n b + 2 ^ 43 - n a) % 2 ^ 43 ≠ 0) && decide ((n b + 2 ^ 43 - n a) % 2 ^ 43 < 2 ^ 42)

/-- A copy's words; all are flagged where its C is lost (R176). -/
def SubCopy.flags (x : SubCopy) : List (Nat × Bool) := x.words.map fun w => (w.1, w.2 || x.lost)

/-- What the selector has for its next sub-frame: the store's copy and the later route's, one of them absent where the other is of an earlier
frame or the only one. -/
def State.nextPair (s : State) (c : Nat) : Option SubCopy × Option SubCopy × State :=
  let x := s.path c
  let drop := fun (s : State) => s.setPath c { s.path c with late := (s.path c).late.tail }
  match s.storeNext c, x.late with
  | some (e, n), l :: _ =>
    if e.before l then (some e, none, s.storeTaken c n)
    else if l.before e then (none, some l, drop s) else (some e, some l, drop (s.storeTaken c n))
  | some (e, n), [] => (some e, none, s.storeTaken c n)
  | none, _ :: _ => (none, x.late.head?, drop s)
  | none, [] => (none, none, s)

/-- What the selector delivers of a sub-frame: `a` is the active route's copy and `b` the other's; words repaired and words bad on both
copies.  A copy that is absent counts as flagged throughout. -/
def selectWords (repair : Bool) (a b : List (Nat × Bool)) : List (Nat × Bool) × Nat × Nat :=
  let ws := a.zip b
  let use := fun (p : (Nat × Bool) × (Nat × Bool)) => repair && p.1.2 && !p.2.2
  (ws.map fun p => if use p then p.2 else p.1, (ws.filter use).length, (ws.filter fun p => repair && p.1.2 && p.2.2).length)

end Sys2Proof.Machine
end

