-- ==== Sys2Proof/Machine/Frame.lean ====
section
/-!
DEFINITION. The transmit side of the Forist frame (chapter 5): what each frame carries, the announcement of calendar pages, and
justification.
-/

namespace Sys2Proof.Machine

/-! ## Justification (R258, R277) -/

/-- A in C = N + A (R258): the fill of the ingress buffer at the decision against its target. -/
def fillStep (fill target : Nat) : Int := if target + 2 ≤ fill then 1 else if fill + 2 ≤ target then -1 else 0

/-- A count limited to 0 to P. -/
def countOf (p n : Nat) (a : Int) : Nat := (clampInt 0 p ((n : Int) + a)).toNat

/-- A decision where what entered is not described: the words that entered, the fill and the words sent are free (log entry 1). -/
def State.decideFree (s : State) (p : Nat) : SubWords × State :=
  let (n, s) := s.draw (p + 2)
  let (d, s) := s.drawInt
  let k := countOf p n (if 2 ≤ d then 1 else if d ≤ -2 then -1 else 0)
  let (b, s) := s.drawBase k
  (⟨k, [], b⟩, s)

/-- One decision of a client that holds `n` slots (R258): C = N + A, limited to 0 to P, and the C words that leave its buffer; words that the
buffer lacks are free (log entry 1).  A source that cannot supply the client gives the replacement signal (R249). -/
def State.decideOne (s : State) (c n : Nat) : SubWords × State :=
  let p := slotWords * n
  let s := if s.b (R.MAP_CLI_STAT c) F.MAP_CLI_STAT_SRC_OK then s else s.replEnter c
  let x := s.path c
  match x.groups with
  | [] => s.decideFree p
  | g :: gs =>
    let k := countOf p g (fillStep (x.inQ.length - gs.sum) (Config.fillTarget n))
    let (b, s) := s.drawBase k
    (⟨k, x.inQ.take k, b⟩, s.setPath c { x with groups := gs, inQ := x.inQ.drop k })

/-- The decisions of the eight sub-frames of a frame, one after the other. -/
def State.decideN : Nat → State → (State → SubWords × State) → List SubWords × State
  | 0, s, _ => ([], s)
  | n + 1, s, one =>
    let (c, s) := one s
    let (l, s) := State.decideN n s one
    (c :: l, s)

/-- The decisions of a client for the frame of octet `o`: both copies of a dual sink use the same for frames that start in one tick (R277);
an octet that starts another frame, as in holdover (R62), has new ones.  A device whose mapper does not carry sends C = 0 (R414, R426),
as does a client that is shed (R538).  C_TX shows the C sent.  A tag whose client is no longer defined goes on with free words until its
page ends (log entry 1). -/
def State.decide8 (s : State) (o t n : Nat) : List SubWords × State :=
  if !s.defined t then (if s.pair.mapOn then State.decideN 8 s (·.decideFree (slotWords * n)) else (List.replicate 8 ⟨0, [], 0⟩, s))
  else if !s.pair.mapOn || s.shed t then
    (List.replicate 8 ⟨0, [], 0⟩, s.setF (R.MAP_CLI_STAT t) F.MAP_CLI_STAT_C_TX 0)
  else
    match (s.cli t).dec.filter fun d => d.1 == s.tick && !d.2.1.contains o with
    | some (k, os, l) => (l, s.setCli t { s.cli t with dec := some (k, o :: os, l) })
    | none =>
      let (l, s) := State.decideN 8 s (·.decideOne t n)
      let s := s.setCli t { s.cli t with dec := some (s.tick, [o], l) }
      (l, s.setF (R.MAP_CLI_STAT t) F.MAP_CLI_STAT_C_TX ((l.getLast?.map (·.c)).getD 0))

/-- The tags of a page, each once, in slot order. -/
def CalPage.tags (p : CalPage) : List Nat := (p.slots.filterMap (·.2)).eraseDups

/-- The decisions of every client of a page: by head slot, its slots and its words of the eight sub-frames. -/
def State.decideAll (s : State) (o : Nat) (p : CalPage) : Tab (List Nat × List SubWords) × State :=
  p.tags.foldl (fun (acc, s) t =>
    let ks := p.slotsOf t
    let (l, s) := State.decide8 s o t ks.length
    (acc ++ [(ks.headD 0, ks, l)], s)) ([], s)

/-! ## The frame (R157, R164) -/

/-- The line lanes that carry a frame, with the octet lane whose slots each carries: data lanes that are lit or in a ramp, and LC
once it is bridged (R157, R224). -/
def State.frameLanes (s : State) (o : Nat) : List (Nat × Nat) :=
  let lit := fun l => let v := s.txState o l; v == 2 || v == 3 || v == 4 || v == 5
  ((List.range 8).filter lit).map (fun l => (l, l)) ++ (if s.txBridged o && lit 8 then [(8, s.convTxLane o)] else [])

/-- The OAM field that a lane sends: what this device receives on the same lane index (R170). -/
def State.oamOut (s : State) (o l : Nat) : Nat :=
  let x := s.fl o l
  let bdi := !s.rxLock o l || s.rawLos o l || s.b (R.MON_STAT o l) F.MON_STAT_LOS
  oamField x.lastSym (s.f (R.MON_T_A o l) F.MON_T_A_SNR) x.lastUnc (bit bdi) (s.laneState o l)

/-- The frame-count field of the frame that starts now (R168). -/
def State.fcOut (s : State) (o : Nat) : Nat :=
  fcField (s.fo o).fc s.time.edge (s.f (R.TX_FRAME_CTL o) F.TX_FRAME_CTL_OFFSET) (s.f (R.LOOP_STAT o) F.LOOP_STAT_PHASE_ERR)
    (s.f (R.LOOP_CTL o) F.LOOP_CTL_EN) s.time.active (bit (decide (s.time.off ≠ 0))) (bit s.time.holdover)

/-- The calendar part of overhead codeword `k` on lane `l`: the page announced, or the page in force (R180).  `fill` stands for the
SWITCH_FC of a part that announces nothing. -/
def State.partOut (s : State) (o l k fill : Nat) : Nat :=
  let x := s.fo o
  let p := (l + k) % 8
  let part := fun (pg : CalPage) ann w => calPart pg.seq ann w p ((List.range 16).map fun t => calEntry (pg.tag (16 * p + t)))
  match x.txNext with
  | some (pg, _) => part pg true (s.f (R.CAL_STAT o) F.CAL_STAT_TX_SWITCH_FC)
  | none => part (s.pageRead o) false fill

/-- The overhead payloads of a lane in the frame that starts now (R164).  `lane` is the octet lane whose slots it carries; a lane that
carries those of lane 0 carries the relay, LC from the bridge on (R171, R224). -/
def State.lanePayloads (s : State) (o l lane : Nat) (cs : Tab (List Nat × List SubWords)) (relay : List Byte) (fill : Nat) : List Nat :=
  let tag := s.f (R.FRM_CTL o) F.FRM_CTL_TAG_TX
  let bridge := if l = 8 then lane else 15
  (List.range 8).map fun k =>
    let jcs := (List.range 16).map fun t =>
      match cs.find? fun e => e.1 == 16 * lane + t with
      | some (_, _, ds) => jcEntry ((ds[k]?.map (·.c)).getD 0) true
      | none => 0
    overheadPayload (laneMarker l bridge tag k) jcs (s.partOut o l k fill) k (s.oamOut o l) (s.fcOut o)
      (if lane = 0 then relayField relay else 0)

/-- The word that slot `k` carries in sub-frame `sf` at a position that its client's slots give (R172 to R174); 0 where no client holds the
slot. -/
def State.slotWord (s : State) (o k sf : Nat) (pos : List Nat → Nat) : Nat :=
  match (s.fo o).words.find? fun e => e.2.1.contains k with
  | some (_, ks, ds) => match ds[sf]? with
    | some d => d.at (slotWords * ks.length) (pos ks + 1)
    | none => 0
  | none => 0

/-- The slot-extension words of overhead codeword `sf` of octet lane `p`: 13 for each lane-slot (R173). -/
def State.extField (s : State) (o p sf : Nat) : Nat :=
  packed ((List.range 16).flatMap fun t => (List.range extWords).map fun m =>
    (130 * t + 10 * m, 10, s.slotWord o (16 * p + t) sf fun ks => extPos ks (16 * p + t) m))

/-- The message of client-area codeword `n`, from 1, of sub-frame `sf` on octet lane `p`: 500 words, in lane-slot order (R172). -/
def State.areaField (s : State) (o p sf n : Nat) : Nat :=
  packed ((List.range 500).map fun i =>
    let (t, w) := areaSlot (500 * (n - 1) + i)
    (10 * i, 10, s.slotWord o (16 * p + t) sf fun ks => areaPos ks (16 * p + t) w))

/-- The octet lane whose slots and scrambler index a line lane carries; the trim window keeps the line lane's own index (R160, R224). -/
def State.txOctLane (s : State) (o l : Nat) : Nat := if l = 8 then s.convTxLane o else l

/-- The payload of codeword `cw` of the latest frame on a line lane (R158, R164, R172 to R174). -/
def State.txPayload (s : State) (o l cw : Nat) : Nat :=
  let p := s.txOctLane o l
  if cw % 101 = 0 then (Tab.get (fun _ => []) (s.fo o).sent l).getD (cw / 101) 0 + s.extField o p (cw / 101) * 2 ^ 1696
  else s.areaField o p (cw / 101) (cw % 101)

/-- The 2,880 symbols of codeword `cw` of the latest frame on a line lane (R160 to R163); a lane marker is not scrambled. -/
def State.txCodeword (s : State) (o l cw : Nat) : List Nat :=
  codewordSymbols (scrSkip (5000 * cw) (scrLoad (s.txOctLane o l))) (if cw % 101 = 0 then 160 else 0) (natBits 5000 (s.txPayload o l cw))

/-- The symbols of the latest frame on a line lane: the trim window, then 808 codewords (R158, R159). -/
def State.txFrame (s : State) (o l : Nat) : List Nat :=
  trimSymbols l ++ (List.range 808).flatMap fun cw => s.txCodeword o l cw

/-! ## The transmit converter (R85 to R88, R101) -/

/-- The 1/(1+D) mod 4 precoder, from its latest output (R87). -/
def precode : Nat → List Nat → List Nat
  | _, [] => []
  | p, v :: l => let q := (v + 4 - p % 4) % 4; q :: precode q l

/-- The level code of a symbol (R85). -/
def State.txLevel (s : State) (o l v : Nat) : Nat :=
  let v := if s.b (R.TX_LANE_CTL o l) F.TX_LANE_CTL_INV then 3 - v else v
  slice (s.reg (R.TX_DAC_LVL o l)).toNat (8 * v) 8

/-- PRE, MAIN and POST in 1/64 (R85). -/
def State.txTaps (s : State) (o l : Nat) : Int × Int × Int :=
  if s.b (R.TX_FIR o l) F.TX_FIR_EN then
    let a := s.i (R.TX_FIR o l) F.TX_FIR_PRE
    let b := s.i (R.TX_FIR o l) F.TX_FIR_POST
    (a, 64 - a.natAbs - b.natAbs, b)
  else (0, 64, 0)

/-- A filtered level, in 1/64, scaled by the swing code in force and rounded to the nearest code. -/
def State.txScale (s : State) (o l : Nat) (y : Int) : Int := roundDiv (y * Config.swingScale (s.txl o l).swing) (64 * 65536)

/-- A code of the converter: saturated at 0 and 255 (R85). -/
def dacCode (y : Int) : Nat := (clampInt 0 255 y).toNat

/-- The filter over levels, the one before them given; behind the last level stands the last (log entry 133). -/
def firOut (t : Int × Int × Int) : Int → List Int → List Int
  | _, [] => []
  | p, [x] => [t.1 * x + t.2.1 * x + t.2.2 * p]
  | p, x :: y :: l => (t.1 * y + t.2.1 * x + t.2.2 * p) :: firOut t x (y :: l)

/-- What the transmit converter would put out for symbols of a lane, before saturation (R85). -/
def State.txOut (s : State) (o l : Nat) (syms : List Nat) : List Int :=
  let lv := syms.map fun v => (s.txLevel o l v : Int)
  (firOut (s.txTaps o l) (lv.headD 0) lv).map fun y => s.txScale o l y

/-- The codes that a lane's converter puts out for symbols (R85). -/
def State.txCodes (s : State) (o l : Nat) (syms : List Nat) : List Nat := (s.txOut o l syms).map dacCode

/-- No symbols of the lane can saturate: the extremes of the filter over its lowest and highest levels stay within the codes. -/
def State.txFits (s : State) (o l : Nat) : Bool :=
  let lv := (List.range 4).map fun v => (s.txLevel o l v : Int)
  let lo := lv.foldl min 255
  let hi := lv.foldl max 0
  let (a, m, b) := s.txTaps o l
  let top := [a, m, b].foldl (fun n c => n + max (c * hi) (c * lo)) 0
  let bot := [a, m, b].foldl (fun n c => n + min (c * hi) (c * lo)) 0
  decide (0 ≤ s.txScale o l bot) && decide (s.txScale o l top ≤ 255)

/-- Saturated samples of a lane are counted (R85). -/
def State.clipAdd (s : State) (o l n : Nat) : State :=
  if n = 0 then s else (s.incF (R.TX_LANE_STAT o l) F.TX_LANE_STAT_CLIP_CNT n).perf (0x900 + 16 * o + 5) n

/-- A generator or a far-end loop replaces what a line lane transmits (R580, R582). -/
def State.patSends (s : State) (o l : Nat) : Bool :=
  s.f (patBase 0 o l) F.PAT_CTL_GEN != 0 || s.f (patBase 0 o l) F.PAT_CTL_LOOP == 3

/-- The saturated samples among symbols that a lane sends. -/
def State.txClips (s : State) (o l : Nat) (syms : List Nat) : Nat :=
  if s.txFits o l then 0 else ((s.txOut o l syms).filter fun y => decide (y < 0 ∨ 255 < y)).length

/-- The mute is off: the lane is in a ramp or lit (R88). -/
def State.txDrives (s : State) (o l : Nat) : Bool := let v := s.txState o l; v == 2 || v == 3 || v == 4 || v == 5

/-- The tone's symbol codes from the frame start on (R101). -/
def State.toneCode (s : State) (o n : Nat) : Nat :=
  s.f (R.TONE_CTL o) (if n % 4 < 2 then F.TONE_CTL_TONE_HI else F.TONE_CTL_TONE_LO)

/-- A sample of LC before conversion: the tone, and the subcarrier of peak amplitude AMP added to it, saturated (R101, R305). -/
def State.toneSample (s : State) (o n : Nat) (sub : Int) : Nat := dacCode ((s.toneCode o n : Int) + sub)

/-- Samples of LC that saturate in a tick while it sends the tone, or a pattern in its place: none where the sums fit; otherwise a free number, the subcarrier's samples not
being given (R101, log entry 1). -/
def State.toneClips (s : State) (o : Nat) : State :=
  let amp := if s.f (R.HALY_STAT o) F.HALY_STAT_TX_STATE = 0 then 0 else s.f (R.HALY_CTL o) F.HALY_CTL_AMP
  let hi := max (s.toneCode o 0) (s.toneCode o 2)
  let lo := min (s.toneCode o 0) (s.toneCode o 2)
  let fits := if s.patSends o 8 then s.txFits o 8 else decide (amp ≤ lo) && decide (hi + amp ≤ 255)
  if !s.txDrives o 8 || s.stdMode o || !(if s.patSends o 8 then !s.txBridged o else s.b (R.TONE_CTL o) F.TONE_CTL_TONE_EN) || fits then s
  else
    let (n, s) := s.draw (frameSymbols + 1)
    s.clipAdd o 8 n

/-- A lane of a standard-mode octet sends symbols: precoded where PRECODE is set (R87); it counts those that saturate. -/
def State.stdSend (s : State) (o l : Nat) (syms : List Nat) : State :=
  if !s.stdMode o || !s.txDrives o l || 8 ≤ l then s
  else if s.b (R.TX_LANE_CTL o l) F.TX_LANE_CTL_PRECODE then
    let q := precode (s.txl o l).pre (syms.map (· % 4))
    (s.setTxl o l { s.txl o l with pre := q.getLast?.getD (s.txl o l).pre }).clipAdd o l (s.txClips o l q)
  else s.clipAdd o l (s.txClips o l (syms.map (· % 4)))

/-- Lanes of a standard-mode octet whose symbols are not given: what they saturate is free, unless nothing can (log entry 1). -/
def State.stdClips (s : State) (o : Nat) (given : List (Nat × List Nat)) : State :=
  if !s.stdMode o || !s.octOn o then s
  else s.each ((List.range 8).filter fun l => s.txDrives o l && !s.txFits o l && !(given.any fun e => e.1 == 9 * o + l)) fun l s =>
    let (n, s) := s.draw (2 ^ 16)
    s.clipAdd o l n

/-- The cycle of the tick in which overhead codeword 4 starts (R157, R317): 373.248 symbols last one cycle of 625 MHz. -/
def State.relCycle (s : State) (o : Nat) : Nat :=
  (s.f (R.TX_FRAME_CTL o) F.TX_FRAME_CTL_OFFSET + 5760 + 2880 * 404) * 1000 / 373248

/-- The relay bytes of this frame (R325, R326); the first of a message gives its timestamp (R317). -/
def State.relTake (s : State) (o : Nat) : List Byte × State :=
  let h := s.hal o
  if h.relOut.isEmpty || !s.halLocal o 1 then ([], s)
  else
    let tsA := ts96 (s.cntAt 0 (s.relCycle o))
    let tsB := ts96 (s.cntAt 1 (s.relCycle o))
    let h := if h.relNew then
        match h.flight with
        | some (m, p) =>
          let m := if m.sent = 0 then { m with tsA := tsA, tsB := tsB } else m
          let rel := if m.typ = 1 ∧ m.sent = 0 then { h.rel with sentB := noteBeacon (m.alive.getD 0, tsA, tsB) h.rel.sentB } else h.rel
          { h with flight := some (m, p), rel := rel, relNew := false }
        | none => { h with relNew := false }
      else h
    (h.relOut.take 60, s.setHal o { h with relOut := h.relOut.drop 60 })

/-- The frame is sent: its overhead payloads are fixed, the frame count rises (R157, R168), and each lane counts the samples of the frame that
saturate, as the set-up at its start shapes them (R85, R86, log entry 133). -/
def State.frameSend (s : State) (o : Nat) : State :=
  let (cs, s) := s.decideAll o (s.pageRead o)
  let (relay, s) := s.relTake o
  let (fill, s) := if (s.fo o).txNext.isSome then (0, s) else s.draw (2 ^ 16)
  let ls := s.frameLanes o
  let pays := ls.map fun e => (e.1, s.lanePayloads o e.1 e.2 cs relay fill)
  let s := s.setFo o { s.fo o with sent := pays, words := cs, fc := ((s.fo o).fc + 1) % 2 ^ 48, run := true }
  s.each ls fun e s =>
    if s.txFits o e.1 then s
    else if s.patSends o e.1 then
      let (n, s) := s.draw (frameSymbols + 1)
      s.clipAdd o e.1 n
    else s.clipAdd o e.1 (s.txClips o e.1 (s.txFrame o e.1))

/-- The frame that starts in the present tick (R157): the calendar moves on, and unless the octet is all dark, or no synthesiser
runs, a frame is sent.  During a holdover frames follow each other without ticks (R62). -/
def State.frameStart (s : State) (o : Nat) : State :=
  if !s.octOn o || !s.yfecOn o || s.stdMode o || ((s.fo o).last == some s.tick && !s.time.holdover) then s
  else
    let s := (s.calSwitchTx o).calAnnounce o
    let s := s.setFo o { s.fo o with last := some s.tick }
    if s.octDark o then s.setFo o { s.fo o with fc := 0, run := false, sent := [] }
    else if s.synRun o then s.frameSend o else s

/-- FRAME_START (R157). -/
def execFrameStart (o : Fin 16) (s : State) : Host.Outcome State Fault Refusal := .next (s.frameStart o)

end Sys2Proof.Machine
end

