-- ==== Sys2Proof/Machine/FrameRx.lean ====
section
/-!
DEFINITION. The receive side of the Forist frame (chapter 5): decoding and its counters, erasures, codeword capture, lane markers,
frame records, calendar parts and justification entries, and the differential delay of Class B clients (R279).
-/

namespace Sys2Proof.Machine

/-! ## The receive calendar (R178 to R183) -/

/-- CAL_STAT shows the receive calendar (R197). -/
def State.calShow (s : State) (o : Nat) : State :=
  let x := s.fo o
  let s := s.setFs (R.CAL_STAT o) [(F.CAL_STAT_RX_VALID, bit x.rxPage.isSome), (F.CAL_STAT_RX_ANN, bit x.ann.isSome)]
  let s := match x.rxPage with | some p => s.setF (R.CAL_STAT o) F.CAL_STAT_RX_SEQ p.seq | none => s
  match x.ann with
  | some a => s.setFs (R.CAL_STAT o) [(F.CAL_STAT_RX_SWITCH_FC, a.switchFc), (F.CAL_STAT_RX_HALY, bit (a.parts = 0))]
  | none => s

/-- A mismatch between parts and a page is reported (R181, R183). -/
def State.calMismatch (s : State) (o : Nat) : State :=
  (s.incF (R.CAL_CNT o) F.CAL_CNT_MISMATCH_CNT 1).event Ev.CAL_MISMATCH o noLane []

/-- The entries of a part: (slot, tag). -/
def partEntries (p part : Nat) : List (Nat × Option Nat) :=
  (List.range 16).map fun t => (16 * p + t, calTag (slice part (64 + 16 * t) 16))

/-- Entries put into a table of slots, each held explicitly. -/
def holdEntries (m : Tab (Option Nat)) (l : List (Nat × Option Nat)) : Tab (Option Nat) :=
  l.foldl (fun m e => Tab.insert m e.1 e.2) m

/-- An entry that a table holds. -/
def heldEntry (m : Tab (Option Nat)) (k : Nat) : Option (Option Nat) := (m.find? fun e => e.1 == k).map (·.2)

/-- An entry held in the table differs from one of these. -/
def entriesDiffer (m : Tab (Option Nat)) (l : List (Nat × Option Nat)) : Bool :=
  l.any fun e => match heldEntry m e.1 with
    | some t => t != e.2
    | none => false

/-- The slots of a table as a page: free slots are not listed. -/
def asPage (seq : Nat) (m : Tab (Option Nat)) : CalPage := { seq := seq, slots := m.filter fun e => e.2.isSome }

/-- The slots that a table does not hold. -/
def unheld (m : Tab (Option Nat)) : List Nat := (List.range 128).filter fun k => (heldEntry m k).isNone

/-- Source ends are bound anew after a page has taken force (R252). -/
def State.rebindAll (s : State) : State := s.each s.map.defined fun c s => s.bindEval c

/-- A page takes force on the receive side, announced under `w` where it was; slots whose entry it lacks stay stopped (R183). -/
def State.calAdopt (s : State) (o : Nat) (w : Option Nat) (seq : Nat) (m : Tab (Option Nat)) : State :=
  let s := s.setFo o { s.fo o with rxPage := some (asPage seq m), rxSwitch := w, stopped := unheld m, ann := none, carried := none }
  (s.calShow o).rebindAll

/-- The stored announcement takes force in the frame whose count matches its SWITCH_FC (R178). -/
def State.calSwitchRx (s : State) (o fc : Nat) : State :=
  match (s.fo o).ann with
  | some a => if fc % 2 ^ 16 = a.switchFc then s.calAdopt o (some a.switchFc) a.seq a.slots else s
  | none => s

/-- An announcement is stored, or goes on (R178, R181). -/
def State.calAnnStore (s : State) (o seq w p : Nat) (es : List (Nat × Option Nat)) : State :=
  let x := s.fo o
  let s := match x.ann with
    | some a =>
      if a.seq = seq then
        let bad := a.haly && (a.switchFc != w || entriesDiffer a.slots es)
        let a' := { a with switchFc := w, parts := withBit a.parts p true, slots := holdEntries a.slots es, mism := a.mism || bad }
        let s := s.setFo o { x with ann := some a' }
        if bad && !a.mism then s.calMismatch o else s
      else s.setFo o { x with ann := some ⟨seq, w, 2 ^ p, holdEntries [] es, false, false, false⟩ }
    | none => s.setFo o { x with ann := some ⟨seq, w, 2 ^ p, holdEntries [] es, false, false, false⟩ }
  s.calShow o

/-- A carried page is gathered (R182, R183): slots without a held entry, or whose entry differs, are not delivered. -/
def State.calGather (s : State) (o seq p : Nat) (es : List (Nat × Option Nat)) (post : Bool) : State :=
  let x := s.fo o
  let old := match x.carried with
    | some a => if a.seq = seq then some a else none
    | none => none
  let a : RxAnn := match old with
    | some a => { a with parts := withBit a.parts p true, slots := holdEntries a.slots es }
    | none => ⟨seq, 0, 2 ^ p, holdEntries [] es, false, post, false⟩
  let stop := match x.rxPage with
    | some pg => (List.range 128).filter fun k => match heldEntry a.slots k with
        | some t => t != pg.tag k
        | none => true
    | none => []
  let s := s.setFo o { x with carried := some a, stopped := stop }
  if post && old.isNone then s.calMismatch o else s

/-- A part with ANNOUNCE = 1 (R178, R181): of a page in force already it adds nothing, or contradicts it and counts as carried. -/
def State.calAnnPart (s : State) (o seq w p : Nat) (es : List (Nat × Option Nat)) : State :=
  let x := s.fo o
  match x.ann, x.rxPage with
  | none, some pg =>
    let same := decide (s.f (R.CAL_STAT o) F.CAL_STAT_RX_SWITCH_FC = w)
    let gathers := match x.carried with | some a => a.seq == seq | none => false
    if pg.seq ≠ seq then s.calAnnStore o seq w p es
    else if same && !gathers && !(es.any fun e => pg.tag e.1 != e.2) then s
    else if same || gathers || s.b (R.CAL_STAT o) F.CAL_STAT_RX_HALY then s.calGather o seq p es true
    else s.calAnnStore o seq w p es
  | _, _ => s.calAnnStore o seq w p es

/-- A part with ANNOUNCE = 0 (R182, R183); against entries that only the Halyard copy gave, it governs (R181). -/
def State.calCarriedPart (s : State) (o seq p : Nat) (es : List (Nat × Option Nat)) : State :=
  let x := s.fo o
  match x.ann, x.rxPage with
  | some a, _ =>
    if a.seq = seq then
      let own := bitOf a.parts p
      let bad := a.haly && !own && entriesDiffer a.slots es
      let slots := if own then holdEntries (holdEntries [] es) a.slots else holdEntries a.slots es
      let s := s.setFo o { x with ann := some { a with due := true, slots := slots, mism := a.mism || bad } }
      if bad && !a.mism then s.calMismatch o else s
    else match x.rxPage with
      | some pg => if pg.seq = seq then s else s.calGather o seq p es true
      | none => s
  | none, none => s.calGather o seq p es false
  | none, some pg =>
    if pg.seq = seq ∧ x.carried.isNone then
      let miss := es.filter fun e => x.stopped.contains e.1
      let here := es.filter fun e => !x.stopped.contains e.1
      if here.any fun e => pg.tag e.1 != e.2 then s.calGather o seq p es true
      else if miss.isEmpty then s
      else
        let slots := miss.foldl (fun m e => Tab.set (fun _ => none) m e.1 e.2) pg.slots
        (s.setFo o { x with
          rxPage := some { pg with slots := slots }
          stopped := x.stopped.filter fun k => !(miss.any fun e => e.1 == k) }).rebindAll
    else s.calGather o seq p es true

/-- A calendar part from a lane in service (R180). -/
def State.calPartRx (s : State) (o part : Nat) : State :=
  if calPartOk part then
    let seq := slice part 0 8
    let p := slice part 25 3
    if slice part 8 1 = 1 then s.calAnnPart o seq (slice part 9 16) p (partEntries p part)
    else s.calCarriedPart o seq p (partEntries p part)
  else s

/-- The Halyard copy of an announcement (R178, R181). -/
def State.calCopyRx (s : State) (o seq w : Nat) (es : List (Nat × Option Nat)) : State :=
  let x := s.fo o
  let held := match x.rxPage with
    | some pg => if pg.seq = seq then some (es.any (fun e => pg.tag e.1 != e.2) || x.rxSwitch.any fun v => v != w) else none
    | none => none
  match held with
  | some bad => if bad then s.calMismatch o else s
  | none =>
    match x.ann with
    | some a =>
      if a.seq = seq then
        if a.parts ≠ 0 then
          if a.switchFc ≠ w ∨ entriesDiffer a.slots es = true then (if a.haly then s else s.calMismatch o)
          else s.setFo o { x with ann := some { a with slots := holdEntries (holdEntries [] es) a.slots, haly := true } }
        else s
      else (s.setFo o { x with ann := some ⟨seq, w, 0, holdEntries [] es, true, false, false⟩ }).calShow o
    | none => (s.setFo o { x with ann := some ⟨seq, w, 0, holdEntries [] es, true, false, false⟩ }).calShow o

/-- A sub-frame boundary (R182, R183): the page whose switch frame was missed, or a carried page that is complete, takes force. -/
def State.pageAdopt (s : State) (o : Nat) : State :=
  let x := s.fo o
  match x.ann, x.carried with
  | some a, c => if a.due then s.calAdopt o (some a.switchFc) a.seq a.slots
      else match c with
        | some a => if a.parts = 255 then s.calAdopt o none a.seq a.slots else s
        | none => s
  | none, some a => if a.parts = 255 then s.calAdopt o none a.seq a.slots else s
  | none, none => s

/-- PAGE_ADOPT (R182). -/
def execPageAdopt (o : Fin 16) (s : State) : Host.Outcome State Fault Refusal := .next (s.pageAdopt o)

/-- CAL_SWITCH (R178): the frame F + 2 has started on the transmit side, or the announced frame has arrived. -/
def State.calSwitch (s : State) (o : Nat) : State :=
  let s := s.calSwitchTx o
  match lanes9.find? fun l => (s.aq o l).service with
  | some l => s.calSwitchRx o (s.fl o l).rxFc
  | none => s

/-- CAL_SWITCH (R178). -/
def execCalSwitch (o : Fin 16) (s : State) : Host.Outcome State Fault Refusal := .next (s.calSwitch o)

/-! ## Decoding (R142, R184, R185, R187) -/

/-- Erasure candidates below the threshold, the lowest reliability first, ties to the earlier symbol. -/
def eraseOrder (thr : Nat) (rel : List (Nat × Nat)) : List (Nat × Nat) :=
  (rel.filter fun x => decide (x.2 < thr)).mergeSort fun a b => decide (a.2 < b.2) || (decide (a.2 = b.2) && decide (a.1 ≤ b.1))

/-- The positions that the trellis decoder erases (R142); none in standard mode (R143). -/
def State.erased (s : State) (o l : Nat) (rel : List (Nat × Nat)) : List Nat :=
  if s.stdMode o then []
  else ((eraseOrder (s.f (R.TRL_CTL o l) F.TRL_CTL_ERASE_THR) rel).take (s.f (R.TRL_CTL o l) F.TRL_CTL_ERASE_MAX)).map (·.1)

/-- Erasures are counted (R142). -/
def State.eraseCount (s : State) (o l : Nat) (rel : List (Nat × Nat)) : State :=
  if s.stdMode o then s
  else
    let n := (eraseOrder (s.f (R.TRL_CTL o l) F.TRL_CTL_ERASE_THR) rel).length
    let m := s.f (R.TRL_CTL o l) F.TRL_CTL_ERASE_MAX
    let s := (s.incF (R.TRL_STAT o l) F.TRL_STAT_ERASE_CNT (min n m)).perf (0x200 + 9 * o + l) (min n m)
    if m < n then s.incF (R.TRL_STAT o l) F.TRL_STAT_ERASE_CAP_CNT 1 else s

/-- The outcome of a decoding: e, f, whether it is correctable, erased symbols in error, corrected bits. -/
structure Decoded where
  e : Nat
  f : Nat
  ok : Bool
  hit : Nat
  bits : Nat
  deriving DecidableEq, Repr

/-- Bits set in a symbol. -/
def popBits (v : Nat) : Nat := ((natBits 10 v).filter id).length

/-- The decoder's verdict on a codeword with given symbol errors and erasures (R184, R193). -/
def decodeOf (std : Bool) (errs : List (Nat × Nat)) (era : List Nat) : Decoded :=
  let errs := errs.filter fun x => decide (x.1 < (if std then 544 else 540)) && decide (x.2 % 1024 ≠ 0)
  let out := errs.filter fun x => !era.contains x.1
  let hit := errs.length - out.length
  let ok := if std then decide (2 * out.length ≤ 30) else decide (2 * out.length + era.length ≤ 40)
  ⟨out.length, era.length, ok, hit, errs.foldl (fun n x => n + popBits x.2) 0⟩

/-- The histogram bin of a decoding load (R185). -/
def loadBin (d : Decoded) : Nat :=
  let l := 2 * d.e + d.f
  if !d.ok then 15 else if l = 40 then 14 else (l + 2) / 3

/-- The FEC counters of a lane (R185). -/
def State.fecCount (s : State) (o l : Nat) (d : Decoded) : State :=
  let s := s.incF (R.FEC_CW o l) F.FEC_CW_CNT 1
  let s := s.incF (R.FEC_HIST o l (loadBin d)) F.FEC_HIST_CNT 1
  if d.ok then
    let s := if d.e + d.hit = 0 then s else (s.incF (R.FEC_CORR_CW o l) F.FEC_CORR_CW_CNT 1).perf (0x100 + 9 * o + l) 1
    let s := s.incF (R.FEC_CORR_SYM o l) F.FEC_CORR_SYM_CNT (d.e + d.hit)
    let s := s.setPl o l { s.pl o l with corr := (s.pl o l).corr + d.e + d.hit }
    let s := s.incF (R.FEC_CORR_BIT o l) F.FEC_CORR_BIT_CNT d.bits
    s.incF (R.FEC_ERASE_HIT o l) F.FEC_ERASE_HIT_CNT d.hit
  else (s.incF (R.FEC_UNC_CW o l) F.FEC_UNC_CW_CNT 1).perf (9 * o + l) 1

/-- One entry of FEC_CAP_ERR as its 22 bits. -/
def capEntry (pos value : Nat) (era : Bool) : Nat := packed [(0, 10, pos), (10, 10, value), (20, 1, bit era), (21, 1, 1)]

/-- The entries of a captured codeword: corrected positions and erased ones; of an uncorrectable one only the erased (R187). -/
def capEntries (d : Decoded) (errs : List (Nat × Nat)) (era : List Nat) : List Nat :=
  if d.ok then
    let pos := ((errs.filter fun x => decide (x.2 % 1024 ≠ 0)).map (·.1) ++ era).eraseDups.mergeSort
    pos.map fun p => capEntry p (((errs.find? fun x => x.1 == p).map (·.2)).getD 0) (era.contains p)
  else era.mergeSort.map fun p => capEntry p 0 true

/-- The capture unit takes a codeword that meets its trigger (R187).  E_CNT stops at 63, the most that its field holds (log entry 131). -/
def State.fecCapture (s : State) (o l cw : Nat) (d : Decoded) (errs : List (Nat × Nat)) (era : List Nat) : State :=
  let r := R.FEC_CAP_CTL o
  let t := s.f r F.FEC_CAP_CTL_TRIG_LOAD
  if s.b r F.FEC_CAP_CTL_ARM && s.f r F.FEC_CAP_CTL_LANE == l
      && (if t = 41 then !d.ok else decide (t ≤ 2 * d.e + d.f)) then
    let es := (capEntries d errs era).take 40
    let s := s.each (List.range 20) fun i s =>
      s.setReg (R.FEC_CAP_ERR o i) (BitVec.ofNat 64 (es.getD (2 * i) 0 + es.getD (2 * i + 1) 0 * 2 ^ 32))
    let s := s.setReg (R.FEC_CAP_HDR o) (BitVec.ofNat 64 ((s.fl o l).rxFc % 2 ^ 48 + cw * 2 ^ 48))
    let s := s.setFs r [(F.FEC_CAP_CTL_ARM, 0), (F.FEC_CAP_CTL_E_CNT, min 63 d.e), (F.FEC_CAP_CTL_F_CNT, d.f),
      (F.FEC_CAP_CTL_UNCORR, bit (!d.ok))]
    s.event Ev.FEC_CAP_DONE o l []
  else s

/-! ## Overhead codewords (R167 to R176) -/

/-- One flag of the lane-marker check (R167): a mismatch sets it, 8 matches in a row clear it. -/
def State.markerFlag (s : State) (o l : Nat) (fld : Fld) (bad post : Bool) (ev run : Nat) : State × Nat :=
  let r := R.FRM_LANE_STAT o l
  if bad then
    let was := s.b r fld
    let s := s.setF r fld 1
    (if post && !was then s.event ev o l [] else s, 0)
  else
    let n := min 8 (run + 1)
    (if n = 8 then s.setF r fld 0 else s, n)

/-- The lane marker of an overhead codeword is checked (R167). -/
def State.markerCheck (s : State) (o l pay : Nat) : State :=
  let r := R.FRM_LANE_STAT o l
  let tag := slice pay 104 16
  let s := s.setFs r [(F.FRM_LANE_STAT_RX_LANE_ID, slice pay 96 4), (F.FRM_LANE_STAT_RX_BRIDGE, slice pay 100 4),
    (F.FRM_LANE_STAT_RX_TAG, tag)]
  let (s, a) := s.markerFlag o l F.FRM_LANE_STAT_LANEID_MISMATCH (decide (slice pay 96 4 ≠ l))
    (s.b (R.FRM_CTL o) F.FRM_CTL_LANEID_CHK) Ev.LANEID_MISMATCH (s.fl o l).idOk
  let (s, b) := s.markerFlag o l F.FRM_LANE_STAT_TAG_MISMATCH
    (s.b (R.FRM_CTL o) F.FRM_CTL_TAG_CHK && decide (tag ≠ s.f (R.FRM_CTL o) F.FRM_CTL_TAG_EXP)) true Ev.TAG_MISMATCH
    (s.fl o l).tagOk
  s.setFl o l { s.fl o l with idOk := a, tagOk := b }

/-- The defined clients whose route `r` takes its words from octet `o`, with the route. -/
def State.boundHere (s : State) (o : Nat) : List (Nat × Nat) :=
  (s.map.defined.filter fun c => lineSrcE (s.ends c)).flatMap fun c =>
    ((s.routes c).filter fun r => s.bound c r == some o).map fun r => (c, r)

/-- The lane that carries the head slot of a client's copy on an octet. -/
def State.headLane (s : State) (o c : Nat) : Option Nat :=
  ((s.rxSlots o (s.farTag c)).head?).map fun k => s.rxCarrier o (k / 16)

/-- D of two arrivals in symbols, in 2^-8 ns (R279). -/
def diffOf (a0 a1 : Nat) : Int := roundDiv (((a1 : Int) - a0) * 2560000) 2332800

/-- 5.000 ms and 4.900 ms in 2^-8 ns. -/
def diffMax : Nat := 5000000 * 256
def diffBack : Nat := 4900000 * 256

/-- A new D is shown and counted toward the transitions of R280 and R290. -/
def State.diffSet (s : State) (c : Nat) (d : Int) : State :=
  let x := s.cli c
  let now := if 0 ≤ d then 0 else 1
  let st := s.f (R.PROT_STAT c) F.PROT_STAT_STATE
  let s := s.setCli c { x with
    paired := true
    overN := if diffMax < d.natAbs then min 8 (x.overN + 1) else 0
    underN := if d.natAbs ≤ diffBack then min 8 (x.underN + 1) else 0
    signN := if x.paired ∧ st = 3 ∧ now ≠ x.store then min 8 (x.signN + 1) else 0 }
  let s := s.setI (R.PROT_DELAY c) F.PROT_DELAY_DIFF (clampInt (-(2 ^ 31)) (2 ^ 31 - 1) d)
  let s := s.setF (R.PROT_DELAY c) F.PROT_DELAY_PEAK (max (s.f (R.PROT_DELAY c) F.PROT_DELAY_PEAK) (min d.natAbs (2 ^ 32 - 1)))
  s.setF (R.PROT_STAT c) F.PROT_STAT_EARLY now

/-- A frame record is paired with that of the other route (R279). -/
def State.diffPair (s : State) (o l stamp arr : Nat) : State :=
  s.each (s.boundHere o) fun cr s =>
    let (c, r) := cr
    if s.cls c = 1 ∧ s.headLane o c = some l then
      match s.bound c (1 - r) with
      | some o2 =>
        match s.headLane o2 c with
        | some l2 =>
          match (s.fo o2).hist.find? fun h => h.1 == l2 && h.2.1 == stamp with
          | some h => s.diffSet c (if r = 0 then diffOf arr h.2.2 else diffOf h.2.2 arr)
          | none => s
        | none => s
      | none => s
    else s

/-- The frame record of overhead codeword 0 (R169): FC, TICK_STAMP and the arrival of symbol 0, in symbols since tick 0.  While the tick is
stopped, TICK_COUNT holds and POS counts on from its edge, as far as its field goes (R62, log entry 131). -/
def State.frameRecord (s : State) (o l fcf arr : Nat) : State :=
  let fc := slice fcf 0 48
  let stamp := slice fcf 48 64
  let s := s.setF (R.FRM_RX_FC o l) F.FRM_RX_FC_FC fc
  let s := s.setF (R.FRM_RX_FAR o l) F.FRM_RX_FAR_TICK_STAMP stamp
  let at' := if s.time.holdover then (s.tick, min (2 ^ 22 - 1) (arr - s.tick * frameSymbols)) else (arr / frameSymbols, arr % frameSymbols)
  let s := s.setFs (R.FRM_RX_ARR o l) [(F.FRM_RX_ARR_TICK, at'.1 % 2 ^ 40), (F.FRM_RX_ARR_POS, at'.2)]
  let keep := (s.boundHere o).any fun cr => s.cls cr.1 == 1 && s.headLane o cr.1 == some l
  if keep then
    (s.setFo o { s.fo o with hist := ((l, stamp, arr) :: (s.fo o).hist).take 2048 }).diffPair o l stamp arr
  else s

/-- The octet lane whose slots a receive lane delivers. -/
def State.rxLaneOf (s : State) (o l : Nat) : Option Nat :=
  if l = 8 then (if s.convRx o = 4 then some (s.convRxLane o) else none)
  else if s.rxRetired o l then none else some l

/-- The clients with words on octet lane `p`, with the route; on a standard-mode octet those of its PHY (R191). -/
def State.clientsOn (s : State) (o p : Nat) : List (Nat × Nat) :=
  (s.boundHere o).filter fun cr =>
    if s.stdMode o then (phyLanes 8 (s.f (R.FRM_CTL o) F.FRM_CTL_STD_LAYOUT) (s.eF cr.1 F.MAP_CLI_END_SRC_LANE)).contains p
    else (s.rxSlots o (s.farTag cr.1)).any fun k => k / 16 == p

/-- Errored data of a client that is not Class B, where the model does not hold its words. -/
def State.errLoose (s : State) (c : Nat) : State := if s.cls c = 1 then s else s.errCount c

/-- An uncorrectable codeword with words of clients, in the client area or in a slot extension (R184, R188, R288).  While the model holds the
lane's sub-frame, the errored data are counted as it is delivered. -/
def State.clientUnc (s : State) (o l : Nat) (held : Bool) : State :=
  match s.rxLaneOf o l with
  | some p => s.each (s.clientsOn o p) fun cr s =>
      let x := s.cli cr.1
      let s := s.setCli cr.1 (if cr.2 = 0 then { x with unc0 := x.unc0 + 1 } else { x with unc1 := x.unc1 + 1 })
      if held then s else s.errLoose cr.1
  | none => s

/-- One justification entry, good or lost (R176); the data of a sub-frame whose entry is lost is delivered as errored at its end. -/
def State.jcTake (s : State) (o k : Nat) (e : Option Nat) : State :=
  let x := s.fo o
  let tag := match x.rxPage with | some p => p.tag k | none => none
  match tag with
  | none => s
  | some t =>
    let n := (s.rxSlots o t).length
    if (s.rxSlots o t).head? ≠ some k ∨ x.stopped.contains k = true then s
    else
      let good := match e with | some c => decide (c ≤ 3138 * n) | none => false
      let who := (s.boundHere o).filter fun cr => s.farTag cr.1 == t
      if good then
        let c := e.getD 0
        let s := s.setFo o { x with lastJc := Tab.set (fun _ => 0) x.lastJc k c, jcBad := x.jcBad.erase k }
        s.each who fun cr s =>
          if s.cls cr.1 ≠ 1 ∨ s.f (R.PROT_STAT cr.1) F.PROT_STAT_ACTIVE = cr.2 then
            s.setF (R.MAP_CLI_STAT cr.1) F.MAP_CLI_STAT_C_RX c else s
      else
        let s := (s.incF (R.CAL_CNT o) F.CAL_CNT_JC_LOST_CNT 1).perf (0x900 + 16 * o) 1
        let s := s.setFo o { x with jcBad := k :: x.jcBad.erase k }
        let s := if x.jcTick = some s.tick then s
          else (s.setFo o { s.fo o with jcTick := some s.tick }).event Ev.JC_LOST o noLane []
        s.each who fun cr s =>
          let y := s.cli cr.1
          s.setCli cr.1 (if cr.2 = 0 then { y with jc0 := true } else { y with jc1 := true })

/-- The justification entries of an overhead codeword; all are lost with an uncorrectable one (R175, R176). -/
def State.jcRx (s : State) (o l pay : Nat) (ok : Bool) : State :=
  match s.rxLaneOf o l with
  | some p => s.each (List.range 16) fun t s =>
      s.jcTake o (16 * p + t) (if ok then jcRead (slice pay (160 + 32 * t) 32) else none)
  | none => s

/-- The OAM field is posted (R170); two LANE_STATE 4 in a row for the lane in BRIDGING end it (R223). -/
def State.oamRx (s : State) (o l pay : Nat) : State :=
  let v := slice pay 1184 512
  let s := s.setFs (R.FRM_RX_OAM o l) [(F.FRM_RX_OAM_BEI_SYM, slice v 0 24), (F.FRM_RX_OAM_FAR_SNR, slice v 24 16),
    (F.FRM_RX_OAM_BEI_UNC, slice v 40 16), (F.FRM_RX_OAM_BDI, slice v 56 1), (F.FRM_RX_OAM_LANE_STATE, slice v 57 4)]
  if s.convTx o = 2 ∧ s.convTxLane o = l then
    let n := if slice v 57 4 = 4 then (s.ao o).oam4 + 1 else 0
    let s := s.setAo o { s.ao o with oam4 := n }
    if 2 ≤ n then s.convRetiring o else s
  else s

/-! ## Arrival and deskew (R214, R215) -/

/-- The arrival of a lane's frame is measured: SKEW is shown, a lane outside the window loses LOCK, one inside comes into
service, and one near an end of the window posts SKEW_WARN. -/
def State.skewMeasure (s : State) (o l arr : Nat) : State :=
  let pos := arr % frameSymbols
  let s := s.setAq o l { s.aq o l with arrival := pos, known := true }
  if s.b (R.ACQ_STAT o) F.ACQ_STAT_OCT_ALIGNED then
    let d := s.skewOf o pos
    let was := s.i (R.ACQ_LANE_STAT o l) F.ACQ_LANE_STAT_SKEW
    let s := s.setI (R.ACQ_LANE_STAT o l) F.ACQ_LANE_STAT_SKEW (clampInt (-128) 127 d)
    if 32 < d.natAbs then (if (s.aq o l).service then s.acqLose o l true else s)
    else
      let fresh := !(s.aq o l).service
      let s := (s.setAq o l { s.aq o l with service := true }).laneStates o
      if 28 ≤ d.natAbs && (fresh || decide (was.natAbs < 28)) then
        (s.incF (R.ACQ_CNT o l) F.ACQ_CNT_SKEW_CNT 1).event Ev.SKEW_WARN o l []
      else s
  else s

/-- Without a CONV_ACK, B is the FC of the first LC frame that shows BRIDGE = l (R222). -/
def State.bridgeSeen (s : State) (o l pay fc : Nat) : State :=
  if l = 8 ∧ s.convRx o = 3 ∧ (s.ao o).rxB = none ∧ slice pay 100 4 = s.convRxLane o then s.setAo o { s.ao o with rxB := some fc }
  else s

/-- What overhead codeword `k` brings (R164): `pay` is its payload, `ok` says whether it decoded, `arr` the arrival of its frame. -/
def State.overheadRx (s : State) (o l k pay arr : Nat) (ok : Bool) : State :=
  let fcf := slice pay 3776 512
  let good := ok && fcFieldOk fcf
  let s := if k = 0 then
      let s := s.skewMeasure o l arr
      let x := s.fl o l
      let s := s.setFl o l { x with 
        rxFc := if good then slice fcf 0 48 else (x.rxFc + 1) % 2 ^ 48
        stamp := if good then slice fcf 48 64 else (x.stamp + 1) % 2 ^ 64 }
      let s := if good then (s.frameRecord o l fcf arr).bridgeSeen o l pay (slice fcf 0 48) else s
      let s := if ok then s.oamRx o l pay else s
      if (s.aq o l).service then s.calSwitchRx o (s.fl o l).rxFc else s
    else s
  let s := if ok then s.markerCheck o l pay else s
  let s := if ok && (s.aq o l).service then s.calPartRx o (slice pay 672 512) else s
  let s := if ok && (s.aq o l).service && calPartOk (slice pay 672 512) then s else s.perf (0x900 + 16 * o + 1) 1
  let s := if ok then s else s.perf (0x900 + 16 * o + 2) 1
  let s := if k = 4 ∧ ok = true ∧ (s.aq o l).service = true ∧ s.rxLaneOf o l = some 0 then
      s.relField o (relayRead (slice pay 3776 486))
        (((arr - s.tick * frameSymbols : Int) + (5760 + 2880 * 404)) * 1000 / 373248).toNat
    else s
  s.jcRx o l pay ok

/-- The frame that ends is summed up for OAM and FEC_UNCORR (R170, R186). -/
def State.frameEnd (s : State) (o l : Nat) : State :=
  let x := s.fl o l
  s.setFl o l { x with
    lastSym := x.sym, lastUnc := x.unc, sym := 0, unc := 0
    done := if x.unc = 0 then none else some (x.rxFc, x.unc, x.uncFirst) }

/-! ## Client data of a sub-frame (R172 to R176, R188, R206) -/

/-- A lane's codeword joins the sub-frame in hand, as long as the sub-frame lacks none before it. -/
def State.subTake (s : State) (o l cw pay : Nat) (ok : Bool) : State :=
  let x := s.fl o l
  let k := cw / 101
  let n := cw % 101
  let old := if n = 0 ∨ x.subK ≠ k then [] else x.sub
  s.setFl o l { x with subK := k, subOut := if n = 0 then [] else x.subOut, sub := if old.length = n then old ++ [(n, pay, ok)] else old }

/-- The model holds the lane's sub-frame up to codeword `n` of it. -/
def State.subHeld (s : State) (o l n : Nat) : Bool := (s.fl o l).sub.length == n + 1

/-- A sub-frame ends for the clients to which it could not be delivered, because the model does not hold it whole: errored data in what it
holds, and a lost C, count with a free figure. -/
def State.subLoose (s : State) (o l : Nat) : State :=
  match s.rxLaneOf o l with
  | some p =>
    let bad := (s.fl o l).sub.filter fun e => !e.2.2
    s.each ((s.clientsOn o p).filter fun cr => !(s.fl o l).subOut.contains cr.1) fun cr s =>
      let s := s.each bad fun _ s => s.errLoose cr.1
      match (s.rxSlots o (s.farTag cr.1)).head? with
      | some k => if k / 16 = p ∧ (s.fo o).jcBad.contains k = true then s.errLoose cr.1 else s
      | none => s
  | none => s

/-- An octet lane delivers: its receive lane is in LOCK and in service. -/
def State.laneGood (s : State) (o p : Nat) : Bool := s.rxLock o (s.rxCarrier o p) && (s.aq o (s.rxCarrier o p)).service

/-- Ten payload bits of a codeword of a sub-frame, and whether they are errored. -/
def cwWord (sub : List (Nat × Nat × Bool)) (n lo : Nat) : Nat × Bool :=
  match sub[n]? with
  | some (_, pay, ok) => (slice pay lo 10, !ok)
  | none => (0, true)

/-- The word positions of a client's slots in the sub-frame in hand, in order, with their flags (R174); words of a lane that does not deliver
are errored (R206), and their values free from number `base` on (log entry 1). -/
def State.posWords (s : State) (o : Nat) (ks : List Nat) (base : Nat) : List (Nat × Bool) :=
  let one := fun (k n lo : Nat) =>
    if s.laneGood o (k / 16) then some (cwWord (s.fl o (s.rxCarrier o (k / 16))).sub n lo) else none
  let ext := ks.flatMap fun k => (List.range extWords).map fun m => one k 0 (1696 + 130 * (k % 16) + 10 * m)
  let order := areaOrder ks
  let area := (List.range areaWords).flatMap fun i => order.map fun k =>
    let j := areaSymbol (k % 16) i
    one k (1 + j / 500) (10 * (j % 500))
  (ext ++ area).zipIdx.map fun w => match w.1 with
    | some v => v
    | none => (Config.freeNat (base + w.2) % 1024, true)

/-- A copy of a sub-frame reaches the mapper: a client of one route takes it; a Class B client in PROTECTED stores that of the earlier route
and holds the other for the selector, and otherwise takes the active route's (R283, R290). -/
def State.copyIn (s : State) (c r : Nat) (x : SubCopy) : State :=
  let st := s.f (R.PROT_STAT c) F.PROT_STAT_STATE
  if s.cls c ≠ 1 then s.deliver c x.flags
  else if st = 3 then
    (if r = (s.cli c).store then s.storeIn c x else s.setPath c { s.path c with late := (s.path c).late ++ [x] })
  else if (st = 2 ∨ st = 4 ∨ st = 5) ∧ r = s.f (R.PROT_STAT c) F.PROT_STAT_ACTIVE then s.deliver c x.flags
  else s

/-- The client's words of sub-frame `k` come out of an octet's slots (R174, R176, R259): with the C of its head slot, or the latest one. -/
def State.extract (s : State) (o k c r : Nat) : State :=
  let ks := s.rxSlots o (s.farTag c)
  let h := ks.headD 0
  let p := slotWords * ks.length
  let (b, s) := s.drawBase p
  let stamp := (s.fl o (s.rxCarrier o (h / 16))).stamp
  s.copyIn c r ⟨stamp % 2 ^ 40, k, (s.fo o).jcBad.contains h, gmpTake p (Tab.get (fun _ => 0) (s.fo o).lastJc h) (s.posWords o ks b)⟩

/-- A route's slots may be delivered: sized right, and none stopped (R183, R252). -/
def State.routeFit (s : State) (o c r : Nat) : Bool :=
  !(if r = 0 then (s.cli c).bad0 else (s.cli c).bad1) && (s.rxSlots o (s.farTag c)).all fun k => !(s.fo o).stopped.contains k

/-- A lane's sub-frame `k` has ended: each client whose lanes have all ended it is delivered. -/
def State.laneEnd (s : State) (o l k : Nat) : State :=
  match s.rxLaneOf o l with
  | some p => s.each (s.clientsOn o p) fun cr s =>
      let ls := ((s.lanesOf o (s.rxSlots o (s.farTag cr.1))).filter fun p => s.laneGood o p).map fun p => s.rxCarrier o p
      if (ls.all fun q => (s.fl o q).subK == k && (s.fl o q).sub.length == 101) && s.routeFit o cr.1 cr.2 then
        (s.extract o k cr.1 cr.2).each ls fun q s => s.setFl o q { s.fl o q with subOut := cr.1 :: (s.fl o q).subOut }
      else s
  | none => s

/-- A codeword of a standard-mode octet: its message passes unaltered to the slot side of the client of its PHY (R191). -/
def State.stdDeliver (s : State) (o l pay : Nat) : State :=
  s.each (s.clientsOn o l) fun cr s =>
    if slotSnkE (s.ends cr.1) then s.setPath cr.1 { s.path cr.1 with sent := (s.path cr.1).sent ++ [(2, pay)] } else s

/-- The index with which a received lane is scrambled: LC carries the bridged lane's (R160). -/
def State.rxScrIdx (s : State) (o l : Nat) : Nat := if l = 8 then s.convRxLane o else l

/-- The 5,400 bits of a codeword as they were sent (R160, R161). -/
def State.sentBits (s : State) (o l cw pay : Nat) : List Bool :=
  outerEncode (scramble (if cw % 101 = 0 then 160 else 0) (scrSkip (5000 * cw) (scrLoad (s.rxScrIdx o l))) (natBits 5000 pay))

/-- The symbols of a decided bit string that differ from those sent, as (position, pattern); a bit that is not decided counts as sent. -/
def symErrors (sent : List Bool) (got : List (Bool × Nat)) : List (Nat × Nat) :=
  let wrong := (sent.zip got).map fun p => p.1 != p.2.1
  (List.range 540).filterMap fun k =>
    let v := bitsNat ((wrong.drop (10 * k)).take 10)
    if v = 0 then none else some (k, v)

/-- The lowest reliability of each symbol's ten bits (R142). -/
def symRel (got : List (Bool × Nat)) : List (Nat × Nat) :=
  (List.range 540).map fun k => (k, (((got.drop (10 * k)).take 10).map (·.2)).foldl min 255)

/-- Reliabilities as given: one for each of the first 540 positions at most, and 255 at most (R140). -/
def relGiven (rel : List (Nat × Nat)) : List (Nat × Nat) :=
  (List.range 540).filterMap fun k => (rel.find? fun x => x.1 == k).map fun x => (k, min 255 x.2)

/-- What the inner decoder hands to the outer one: symbol errors and reliabilities.  In Forist line mode the trellis decides them from the
samples `rx`, once these complete the codeword's outputs and the traceback (R139, R140).  Where they do not, and in standard mode, whose
inner code the manual leaves to IEEE 802.3, the command says what is handed on. -/
def State.inner (s : State) (o l cw pay : Nat) (rx : List Int) (errs rel : List (Nat × Nat)) :
    (List (Nat × Nat) × List (Nat × Nat)) × State :=
  let s := s.rxIn o l rx
  let n := (s.rxl o l).ys.length
  if s.stdMode o then ((errs, []), if n ≤ traceback then s else s.trellisStd o l)
  else if n < codeSymbols + traceback then ((errs, relGiven rel), s)
  else
    let s := s.trellisForist o l cw
    let got := (s.rxl o l).soft
    ((symErrors (s.sentBits o l cw pay) got, symRel got), s)

/-- A codeword is decoded (R184): `pay` is the payload that was sent, before scrambling (5,000 bits, and in standard mode the 5,140 of a
message); `errs` the symbol errors as (position,
pattern); `rel` the reliabilities as (position, value); `arr` the arrival of its frame in symbols after the present tick edge. -/
def State.codeword (s : State) (o l cw pay : Nat) (rx : List Int) (errs rel : List (Nat × Nat)) (arr : Int) : State :=
  if !s.octOn o || !s.yfecOn o || !s.rxLock o l || (l == 8 && !s.lcData o) then s
  else
    let ((errs, rel), s) := s.inner o l cw pay rx errs rel
    let era := s.erased o l rel
    let d := decodeOf (s.stdMode o) errs era
    let s := (s.eraseCount o l rel).fecCount o l d
    let x := s.fl o l
    let s := s.setFl o l { x with
      sym := x.sym + (if d.ok then d.e + d.hit else 0)
      unc := x.unc + bit (!d.ok)
      uncFirst := if !d.ok && x.unc == 0 then cw else x.uncFirst }
    if s.stdMode o then
      let s := s.fecCapture o l cw d errs era
      (if d.ok then s else s.clientUnc o l false).stdDeliver o l pay
    else
      let n := cw % 101
      let s := if n = 0 then s.subLoose o l else s
      let s := s.subTake o l cw (pay % 2 ^ 5000) d.ok
      let at' := ((s.tick * frameSymbols : Nat) + arr).toNat
      let s := if n = 0 then s.overheadRx o l (cw / 101) (pay % 2 ^ 5000) at' d.ok else s
      let s := if d.ok then s else s.clientUnc o l (s.subHeld o l n)
      let s := s.fecCapture o l cw d errs era
      let s := if n = 100 then s.laneEnd o l (cw / 101) else s
      if cw = 807 then s.frameEnd o l else s

/-- CODEWORD_DECODE (R139 to R143, R184). -/
def execCodewordDecode (o : Fin 16) (l : Fin 9) (cw : Fin 808) (payload : BitVec 5140) (errs : List (Nat × Nat)) (rel : CwIn)
    (arr : Int) (s : State) : Host.Outcome State Fault Refusal :=
  .next (s.codeword o l cw payload.toNat rel.rx errs rel.rel arr)

/-- The FEC_UNCORR event of a frame, and the fault it may be (R186, R447). -/
def State.fecUncorr (s : State) (o l : Nat) : State :=
  match (s.fl o l).done with
  | some (fc, n, first) =>
    let s := (s.setFl o l { s.fl o l with done := none }).event Ev.FEC_UNCORR o l [fc, n, first]
    if s.f (R.FLT_CTL_O o) F.FLT_CTL_O_UNC_BURST ≤ n then s.laneFault o l 4 else s
  | none => s

/-- FEC_UNCORR (R186). -/
def execFecUncorr (o : Fin 16) (l : Fin 9) (s : State) : Host.Outcome State Fault Refusal := .next (s.fecUncorr o l)

end Sys2Proof.Machine
end

