-- ==== Sys2Proof/Machine/Acq.lean ====
section
/-!
DEFINITION. Commands and events of lane acquisition and octet alignment (R201 to R218): tone lock, phase sweep, clock recovery,
alignment search, deskew, raw loss of signal, SLIP and ACQ_RESTART.
-/

namespace Sys2Proof.Machine

/-! ## Tone and clock recovery (R202 to R206) -/

/-- The tone recovery loop has stayed locked for two ticks (R202): TONE_LOCK sets, and data lanes with a signal go on. -/
def State.toneLocked (s : State) (o : Nat) : State :=
  if s.octOn o && !s.stdMode o && !s.rxRetired o 8 && !s.rawLos o 8 && !s.lcData o && !s.toneLock o then
    let s := (s.setF (R.ACQ_STAT o) F.ACQ_STAT_TONE_LOCK 1).acqLock o 8
    s.each (List.range 8) fun l s => s.acqTry o l
  else s

/-- TONE_LOCK (R202). -/
def execToneLock (o : Fin 16) (s : State) : Host.Outcome State Fault Refusal := .next (s.toneLocked o)

/-- TONE_LOSS (R202). -/
def execToneLoss (o : Fin 16) (s : State) : Host.Outcome State Fault Refusal := .next (s.toneClear o true)

/-- The phase sweep ends after 8 ticks at the best code (R204). -/
def State.sweepEnd (s : State) (o l code : Nat) : State :=
  if s.acqState o l = 2 ∧ (s.aq o l).since + 8 ≤ s.tick then
    ((s.setFs (R.RX_PI o l) [(F.RX_PI_CODE, code), (F.RX_PI_TARGET, code)]).setAcq o l 3).seedStart o l
  else s

/-- PHASE_SWEEP_END (R204): `off` is the place of the best code among the 64 of the sweep. -/
def execPhaseSweepEnd (o : Fin 16) (l : Fin 9) (off : Fin 64) (s : State) : Host.Outcome State Fault Refusal :=
  .next (s.sweepEnd o l ((s.sweepCode o l 0 + off) % 256))

/-- Per-lane clock recovery locks (R206); LC of a conversion goes straight to the search of the deskew window (R222). -/
def State.cdrLocked (s : State) (o l : Nat) : State :=
  if s.acqState o l ≠ 7 then s
  else if l = 8 ∧ s.convRx o = 3 then s.setAcq o l 4
  else (s.setAcq o l 3).seedStart o l

/-- CDR_LOCK (R206). -/
def execCdrLock (o : Fin 16) (l : Fin 9) (s : State) : Host.Outcome State Fault Refusal := .next (s.cdrLocked o l)

/-- Clock recovery not locked within 4 ticks (R206). -/
def execCdrAcqTimeout (o : Fin 16) (l : Fin 9) (s : State) : Host.Outcome State Fault Refusal :=
  .next (if s.acqState o l = 7 ∧ (s.aq o l).since + 4 ≤ s.tick then s.acqFail o l else s)

/-- EQ_SETTLED (R206). -/
def execEqSettled (o : Fin 16) (l : Fin 9) (s : State) : Host.Outcome State Fault Refusal :=
  .next (if s.acqState o l = 3 ∧ (s.aq o l).since + s.f (R.ACQ_CTL o) F.ACQ_CTL_EQ_TICKS ≤ s.tick then s.setAcq o l 4 else s)

/-! ## Alignment search (R210 to R213, R217) -/

/-- A slip is staged by the party that searches; it lands at the next tick edge. -/
def State.searchSlip (s : State) (o l n : Nat) (coarse : Bool) : State :=
  s.setAq o l { s.aq o l with slip := n, slipCoarse := coarse }

/-- A slip lands (R211): the alignment point moves later, and the progress of the search is shown. -/
def State.slipLand (s : State) (o l n : Nat) (coarse : Bool) : State :=
  let x := s.aq o l
  let s := s.setAq o l { x with point := (x.point + n) % 2880, slip := 0, lastSub := some s.tick }
  let s := s.incF (R.ACQ_CNT o l) F.ACQ_CNT_SLIP_CNT 1
  if coarse then s.setF (R.ACQ_LANE_STAT o l) F.ACQ_LANE_STAT_WINDOW (min 63 (s.f (R.ACQ_LANE_STAT o l) F.ACQ_LANE_STAT_WINDOW + 1))
  else s.incF (R.ACQ_LANE_STAT o l) F.ACQ_LANE_STAT_FINE n

/-- One step of the search procedure, by firmware while OWNER = 0 or by the hardware under per-lane clock recovery. -/
def State.searchStep (s : State) (o l : Nat) (hit : Bool) : State :=
  let x := s.aq o l
  let r := R.ACQ_LANE_STAT o l
  if x.fine then
    if !hit || s.f r F.ACQ_LANE_STAT_FINE == 63 then s.acqFail o l else s.searchSlip o l 1 false
  else if hit then (s.setAq o l { x with fine := true }).searchSlip o l 1 false
  else if s.clkMode o && s.anyService o then s
  else if s.f r F.ACQ_LANE_STAT_WINDOW = 44 then s.acqFail o l
  else s.searchSlip o l 64 true

/-- The marker detector's result at 7.5 us (R210).  A search of the deskew window alone needs no slips (R217, log entry 41). -/
def State.markerResult (s : State) (o l hits exact : Nat) (allExact consec : Bool) : State :=
  let r := R.ACQ_LANE_STAT o l
  let st := s.acqState o l
  if s.stdMode o || !(st == 4 || st == 5 || st == 6) || (l == 8 && !s.lcData o) then s
  else
    let m := s.f (R.ACQ_CTL o) F.ACQ_CTL_HIT_MIN
    let hit := decide (m ≤ hits)
    let narrow := s.clkMode o && s.anyService o
    let ex := decide (m ≤ exact) || (narrow && hit)
    let s := s.setFs r [(F.ACQ_LANE_STAT_HIT_CNT, min 7 hits), (F.ACQ_LANE_STAT_COARSE_HIT, bit hit),
      (F.ACQ_LANE_STAT_EXACT, bit (decide (m ≤ exact)))]
    if st = 4 then
      let s := s.incF r F.ACQ_LANE_STAT_SEARCH_TICKS 1
      if ex then s.setAcq o l 5
      else if s.f r F.ACQ_LANE_STAT_SEARCH_TICKS = 255 then s.acqFail o l
      else if s.clkMode o || !s.b (R.ACQ_CTL o) F.ACQ_CTL_OWNER then s.searchStep o l hit else s
    else if st = 5 then
      if !allExact then s.acqFail o l
      else
        let n := if consec then (s.aq o l).verify + 1 else 0
        s.setAq o l { s.aq o l with verify := n, pass := decide (s.f (R.ACQ_CTL o) F.ACQ_CTL_LOCK_FRAMES ≤ n) }
    else s

/-- MARKER_RESULT (R210): markers counted, markers exactly at offset 0, whether every marker tested was exact, and whether the
SUBFRAME values were consecutive. -/
def execMarkerResult (o : Fin 16) (l : Fin 9) (hits exact : Nat) (allExact consec : Bool) (s : State) :
    Host.Outcome State Fault Refusal := .next (s.markerResult o l hits exact allExact consec)

/-- SEARCH_TIMEOUT (R206). -/
def execSearchTimeout (o : Fin 16) (l : Fin 9) (s : State) : Host.Outcome State Fault Refusal :=
  .next (if s.acqState o l = 4 ∧ (s.f (R.ACQ_LANE_STAT o l) F.ACQ_LANE_STAT_SEARCH_TICKS = 255 ∨ (s.aq o l).since + 255 ≤ s.tick)
    then s.acqFail o l else s)

/-- SLIP at its tick (R211, R212). -/
def State.slipCmd (s : State) (c : Cmd) (o l n : Nat) (coarse : Bool) : State :=
  if 16 ≤ o ∨ 9 ≤ l ∨ (coarse = false ∧ (n = 0 ∨ 64 ≤ n)) then s.refuse c Op.SLIP St.BAD_FIELD
  else if s.stdMode o then s.refuse c Op.SLIP St.WRONG_STATE
  else if !s.b (R.ACQ_CTL o) F.ACQ_CTL_OWNER || s.clkMode o then s.refuse c Op.SLIP St.NOT_OWNER
  else if s.acqState o l ≠ 4 ∨ (s.aq o l).lastSub = some s.tick then s.refuse c Op.SLIP St.WRONG_STATE
  else (s.slipLand o l (if coarse then 64 else n) coarse).ok c Op.SLIP []

/-- SLIP (R212). -/
def execSlip (cmd : Cmd) (octet lane amount coarse : BitVec 8) (s : State) : Host.Outcome State Fault Refusal :=
  .next (s.slipCmd cmd octet.toNat lane.toNat amount.toNat (coarse.toNat % 2 == 1))

/-! ## Loss of lock and restart (R206, R235) -/

/-- A lane in LOCK has missed 8 markers in a row (R206); without `missed` the lane stays. -/
def execAcqLost (o : Fin 16) (l : Fin 9) (missed : Bool) (s : State) : Host.Outcome State Fault Refusal :=
  .next (if missed && (decide (l.val < 8) || s.lcData o) then s.acqLose o l true else s)

/-- A lane is restarted: to WAIT_SIG and on; LC before conversion takes its lock from the tone. -/
def State.acqRestart (s : State) (o l : Nat) : State :=
  let s := (s.trimLose o l).acqWait o l
  if l = 8 ∧ !s.lcData o ∧ s.toneLock o ∧ !s.stdMode o then s.acqLock o 8 else s

/-- ACQ_RESTART at its tick (R235); the managers of the lanes arm again at the next LOCK (R446). -/
def State.acqRestartCmd (s : State) (c : Cmd) (o mask : Nat) : State :=
  let ls := lanes9.filter (bitOf mask ·)
  if 16 ≤ o ∨ 512 ≤ mask then s.refuse c Op.ACQ_RESTART St.BAD_FIELD
  else if !s.octOn o then s.refuse c Op.ACQ_RESTART St.DOMAIN_OFF
  else if ls.any fun l => s.rxRetired o l then s.refuse c Op.ACQ_RESTART St.LANE_RETIRED
  else (s.each ls fun l s => (s.fltDisarm 0 o l).acqRestart o l).ok c Op.ACQ_RESTART []

/-- ACQ_RESTART (R235). -/
def execAcqRestart (cmd : Cmd) (octet : BitVec 8) (mask : BitVec 16) (s : State) : Host.Outcome State Fault Refusal :=
  .next (s.acqRestartCmd cmd octet.toNat mask.toNat)

/-! ## Raw loss of signal (R122, R206, R447) -/

/-- Every receive lane of the octet that is not retired shows RAW_LOS (R447). -/
def State.allLos (s : State) (o : Nat) : Bool := lanes9.all fun l => s.rxRetired o l || s.rawLos o l

/-- The lanes whose managers take part in an outage. -/
def State.outLanes (s : State) (o : Nat) : List Nat :=
  lanes9.filter fun l => !s.rxRetired o l && s.fltState 0 o l != 3

/-- An outage starts: one event for the octet, and its managers count nothing (R447). -/
def State.outageStart (s : State) (o : Nat) : State :=
  if !s.fltEn 0 o || (s.outLanes o).isEmpty || (s.outLanes o).all fun l => s.fltState 0 o l == 2 then s
  else
    let s := s.each (s.outLanes o) fun l s =>
      (s.setFlt 0 o l { s.fltUnit 0 o l with limit := none, los := none }).setFltState 0 o l 2
    s.event Ev.FLT_OUTAGE o noLane []

/-- An outage ends: lanes still without signal start their LOS_MAX timing (R447). -/
def State.outageEnd (s : State) (o : Nat) : State :=
  let ls := lanes9.filter fun l => s.fltState 0 o l == 2
  if ls.isEmpty then s
  else
    let s := s.each ls fun l s =>
      let s := s.setFltState 0 o l 0
      if s.rawLos o l then s.setFlt 0 o l { s.fltUnit 0 o l with los := some s.tick, long := false } else s
    s.eventC Ev.FLT_OUTAGE o noLane true []

/-- RAW_LOS asserts on a receive lane. -/
def State.losSet (s : State) (o l : Nat) : State :=
  let s := (s.setF (R.RX_AFE_STAT o l) F.RX_AFE_STAT_RAW_LOS 1).eventC Ev.RAW_LOS o l false []
  let s := s.setFlt 0 o l { s.fltUnit 0 o l with los := some s.tick, long := false }
  let s := if s.allLos o then s.outageStart o else s
  let s := if l = 8 then s.toneClear o false else s
  (s.acqLose o l false).laneStates o

/-- RAW_LOS clears on a receive lane: a loss shorter than LOS_MAX is a fault (R447, kind 1). -/
def State.losClear (s : State) (o l : Nat) : State :=
  let s := (s.setF (R.RX_AFE_STAT o l) F.RX_AFE_STAT_RAW_LOS 0).eventC Ev.RAW_LOS o l true []
  let x := s.fltUnit 0 o l
  let short := x.los.isSome && !x.long && s.fltState 0 o l != 2
  let s := (s.setFlt 0 o l { x with los := none, long := false }).outageEnd o
  let s := if short then s.laneFault o l 1 else s
  (s.acqTry o l).laneStates o

/-- The detector's verdict (R122): 256 DSP clocks in a row below the threshold, or at or above it.  A lane whose samples the commands do not
give is taken at the command's word. -/
def State.losJudged (s : State) (o l : Nat) (asserted : Bool) : Bool :=
  let x := s.rxl o l
  x.n == 0 || (if asserted then decide (256 ≤ x.low) else decide (256 ≤ x.high))

/-- RAW_LOS (R122). -/
def execRawLos (o : Fin 16) (l : Fin 9) (asserted : Bool) (s : State) : Host.Outcome State Fault Refusal :=
  .next (if !s.octOn o || s.rxRetired o l || s.rawLos o l == asserted || !s.losJudged o l asserted then s
    else if asserted then s.losSet o l else s.losClear o l)

/-! ## Octet deskew (R214, R215, R218) -/

/-- The earliest of the arrivals, measured from the first of a list, and the span to the latest. -/
def arrivalSpan (a : List Nat) : Int × Int :=
  let b := a.headD 0
  let d := a.map fun x => posDiff x b
  let lo := d.foldl min 0
  (lo, d.foldl max 0 - lo)

/-- The octet aligns (R214): every lane that carries slots is in LOCK, and the arrivals lie within 64 symbols. -/
def State.octAlign (s : State) (o : Nat) : State :=
  let ls := s.slotLanes o
  let a := ls.map fun l => (s.aq o l).arrival
  let (lo, span) := arrivalSpan a
  if s.octOn o && !s.stdMode o && !ls.isEmpty && !s.anyService o
      && ls.all (fun l => s.rxLock o l && (s.aq o l).known) && decide (span ≤ 64) then
    let mid := (((a.headD 0 : Nat) : Int) + lo + span / 2) % (frameSymbols : Int)
    let s := s.setFs (R.ACQ_STAT o) [(F.ACQ_STAT_OCT_ALIGNED, 1), (F.ACQ_STAT_READ_POS, (mid.toNat + 32) % frameSymbols)]
    let s := s.each ls fun l s =>
      (s.setAq o l { s.aq o l with service := true }).setI (R.ACQ_LANE_STAT o l) F.ACQ_LANE_STAT_SKEW
        (clampInt (-128) 127 (s.skewOf o (s.aq o l).arrival))
    (s.laneStates o).trimStartup o
  else s

/-- OCT_ALIGNED (R214). -/
def execOctAligned (o : Fin 16) (s : State) : Host.Outcome State Fault Refusal := .next (s.octAlign o)

/-- A lane in LOCK stands outside the deskew window (R215): one in service loses LOCK, one that is not stays out of service and is
treated as failed. -/
def State.skewRange (s : State) (o l : Nat) : State :=
  let x := s.aq o l
  if s.rxLock o l && x.known && s.b (R.ACQ_STAT o) F.ACQ_STAT_OCT_ALIGNED && decide (32 < (s.skewOf o x.arrival).natAbs) then
    if x.service then s.acqLose o l true
    else
      let s := (s.incF (R.ACQ_CNT o l) F.ACQ_CNT_SKEW_CNT 1).event Ev.SKEW_RANGE o l []
      s.laneFault o l 5
  else s

/-- SKEW_RANGE (R215). -/
def execSkewRange (o : Fin 16) (l : Fin 9) (s : State) : Host.Outcome State Fault Refusal := .next (s.skewRange o l)

/-- The lanes of the line PHY that holds lane `l` (R190). -/
def State.linePhy (s : State) (o l : Nat) : List Nat := phyLanes 8 (s.f (R.FRM_CTL o) F.FRM_CTL_STD_LAYOUT) l

/-- Alignment-marker lock of a standard-mode octet (R218): each PHY whose lanes all have a signal and have settled is in LOCK, lane by lane,
and in service. -/
def State.stdLock (s : State) (o : Nat) : State :=
  if s.octOn o && s.stdMode o then
    let ready := fun l => (s.acqState o l == 4 || s.acqState o l == 6) && !s.rawLos o l
    let ls := (List.range 8).filter fun l => s.acqState o l == 4 && (s.linePhy o l).all ready
    let s := s.each ls fun l s =>
      let s := s.acqLock o l
      s.setAq o l { s.aq o l with service := true }
    if ls.isEmpty then s else ((s.setF (R.ACQ_STAT o) F.ACQ_STAT_OCT_ALIGNED 1).laneStates o).trimStartup o
  else s

/-- STD_AM_LOCK (R218). -/
def execStdAmLock (o : Fin 16) (s : State) : Host.Outcome State Fault Refusal := .next (s.stdLock o)

/-- The staged change to per-lane clock recovery lands at a received frame start (R225): the read point moves 1,423 symbols later. -/
def State.clkLand (s : State) (o : Nat) : State :=
  if (s.ao o).clkStaged then
    let s := (s.setAo o { s.ao o with clkStaged := false }).setF (R.ACQ_STAT o) F.ACQ_STAT_CLK_MODE 1
    let s := if s.b (R.ACQ_STAT o) F.ACQ_STAT_OCT_ALIGNED then
        s.setF (R.ACQ_STAT o) F.ACQ_STAT_READ_POS ((s.readPos o + 1423) % frameSymbols)
      else s
    (s.each lanes9 fun l s => s.acqTry o l).laneStates o
  else s

/-- CLK_MODE_LAND (R225). -/
def execClkModeLand (o : Fin 16) (s : State) : Host.Outcome State Fault Refusal := .next (s.clkLand o)

/-! ## At each tick edge -/

/-- The phase code moves one step toward its target; a sweep sets it directly, to the first of the codes that it tests in the tick (R203,
log entry 134). -/
def State.piStep (s : State) (o l : Nat) : State :=
  let c := s.f (R.RX_PI o l) F.RX_PI_CODE
  let d := (s.f (R.RX_PI o l) F.RX_PI_TARGET + 256 - c) % 256
  if s.acqState o l = 2 then
    s.setF (R.RX_PI o l) F.RX_PI_CODE (s.sweepCode o l (min 7 (s.tick - (s.aq o l).since)))
  else if d = 0 then s
  else s.setF (R.RX_PI o l) F.RX_PI_CODE (if d ≤ 128 then (c + 1) % 256 else (c + 255) % 256)

/-- Acquisition at a tick edge: restarts, verified lanes, phase codes and staged slips, but those that an overrun has deferred (R213). -/
def State.acqTick (s : State) (o : Nat) : State :=
  if !s.octOn o then s
  else s.each lanes9 fun l s =>
    let s := if (s.aq o l).restart && s.acqState o l == 8 then (s.setAq o l { s.aq o l with restart := false }).acqRestart o l else s
    let s := if (s.aq o l).pass && s.acqState o l == 5 then s.acqLock o l else s
    let s := s.piStep o l
    let x := s.aq o l
    if x.slipHeld then s.setAq o l { x with slipHeld := false }
    else if x.slip ≠ 0 ∧ s.acqState o l = 4 then s.slipLand o l x.slip x.slipCoarse else s

end Sys2Proof.Machine
end

