-- ==== Sys2Proof/Machine/Halyard.lean ====
section
/-!
DEFINITION. Commands and events of the Halyard channel (chapter 9), but for the handling of a received message.
-/

namespace Sys2Proof.Machine

/-! ## The message ring (R332, R333) -/

/-- Payload entries of a message: 64 bytes each, the last filled with zeros. -/
def payloadEntries : Nat → List Byte → List (List Byte)
  | 0, _ => []
  | n + 1, b => ((b.take 64) ++ List.replicate (64 - (b.take 64).length) 0) :: payloadEntries n (b.drop 64)

/-- A message record goes to the ring that MQ_RING names, or is dropped with DISCARD_CNT (R333). -/
def State.halDeliver (s : State) (o : Nat) (path hdr pos : Nat) (payload : List Byte) (tsA tsB : Nat) (trunc jump : Bool) :
    State :=
  let r := s.f (R.HALY_CTL o) F.HALY_CTL_MQ_RING
  let len := if trunc then 0 else payload.length
  let lvl := patternOf 16 (clampInt (-32768) 32767 (s.hal o).rxLevel)
  let e0 := entryOf [(16, 1, o), (17, 1, path + 2 * bit trunc + 4 * bit jump + 8 * hdrSrc hdr), (18, 1, hdrType hdr),
    (19, 1, if path = 0 then 0 else pos), (20, 2, len), (22, 2, hdrAlive hdr), (24, 12, tsA), (36, 12, tsB),
    (48, 2, if path = 0 then lvl else 0), (50, 4, s.f (R.HALY_RX_LVL o) F.HALY_RX_LVL_FOFS)]
  let es := e0 :: payloadEntries ((len + 63) / 64) payload
  let q := s.ring r
  if q.typ = 5 then
    let fits := s.canWrite && q.state == 1 && decide (es.length ≤ q.free)
    let s := s.writeRecord r 4 s.tick es
    if fits then s else s.incF (R.HALY_CNT2 o) F.HALY_CNT2_DISCARD_CNT 1
  else s.incF (R.HALY_CNT2 o) F.HALY_CNT2_DISCARD_CNT 1

/-- A reception in PAYLOAD is reported TRUNCATED, and a HOST message also to the message ring (R314). -/
def State.halTruncate (s : State) (o : Nat) : State :=
  let h := s.hal o
  let s := s.halTrunc o
  if hdrType h.rxHdr = 0x80 then s.halDeliver o 0 h.rxHdr 0 [] h.rxTsA h.rxTsB true false else s

/-! ## HALY_SEND (R328, R331, R335) -/

/-- HOST messages that the queue holds. -/
def HalyOct.hostDepth (h : HalyOct) : Nat :=
  (h.queue.filter fun m => m.cls == 4).length + (match h.flight with | some (m, _) => if m.cls = 4 then 1 else 0 | none => 0)

/-- Why a HALY_SEND is refused (R17, R323, R328, R334, R335). -/
def State.halSendRefusal (s : State) (o dst path rep len addr : Nat) : Option Nat :=
  if 16 ≤ o ∨ (8 ≤ dst ∧ dst ≠ 15) ∨ 1024 < len ∨ addr % 64 ≠ 0 ∨ 4 ≤ path ∨ 4 ≤ rep then some St.BAD_FIELD
  else if !s.isOn domHALY || !s.octOn o then some St.DOMAIN_OFF
  else if s.stdMode o && (path == 2 || path == 3) then some St.MODE_CONFLICT
  else if !s.b (R.HALY_CTL o) F.HALY_CTL_EN then some St.HALY_OFF
  else if s.halShared o
      && decide (9720 * s.f (R.HALY_SHARE o) F.HALY_SHARE_SLOT_TICKS < 10 * halSymbols len + 9720) then some St.TOO_LONG
  else if 48 ≤ (s.hal o).hostDepth ∨ 64 ≤ (s.hal o).depth then some St.HALY_FULL
  else none

/-- HALY_SEND at its tick: the payload is read and the message is queued (R331). -/
def State.halSend (s : State) (c : Cmd) (o dst path rep len addr : Nat) (mem : List Byte) : State :=
  match s.halSendRefusal o dst path rep len addr with
  | some e => s.refuse c Op.HALY_SEND e
  | none =>
    let d := if s.halShared o then s.f (R.HALY_SHARE o) F.HALY_SHARE_PARTNER else dst
    let payload := mem.take len ++ List.replicate (len - mem.length) 0
    let m : HalyMsg := ⟨0x80, payload, 4, none, d, path, 1 + rep, [], 0, 0, 0, 0, some { c with eff := s.tick }, s.tick, none⟩
    s.setHal o { s.hal o with queue := halInsert m (s.hal o).queue }

/-- HALY_SEND (R331). -/
def execHalySend (cmd : Cmd) (octet dst path rep : BitVec 8) (len : BitVec 16) (addr : BitVec 64) (mem : List Byte)
    (s : State) : Host.Outcome State Fault Refusal :=
  .next (s.halSend cmd octet.toNat dst.toNat path.toNat rep.toNat len.toNat addr.toNat mem)

/-! ## Transmission (R307, R322, R323, R327) -/

/-- The paths a message may take now (R322): those still owed in the present sending, or those of its choice.  With BEACON = 0 the choice
BOTH sends on each path that meets its local conditions (R318). -/
def State.halPaths (s : State) (o : Nat) (m : HalyMsg) : List Nat :=
  let silent := m.choice == 3 && decide (s.f (R.HALY_CTL o) F.HALY_CTL_BEACON = 0)
  let up := fun p => s.halUp o p || (silent && s.halLocal o p)
  if m.todo ≠ [] ∧ m.choice ≠ 0 ∧ m.choice < 4 then m.todo.filter up
  else if m.choice = 0 then (if up 0 then [0] else if up 1 then [1] else [])
  else if m.choice = 1 then (if up 0 then [0] else [])
  else if m.choice = 2 then (if up 1 then [1] else [])
  else if m.choice = 3 then [0, 1].filter up
  else [m.choice - 4].filter fun p => s.halLocal o p

/-- A message fits the rest of a shared slot (R327): its last symbol ends 6 us before the slot does. -/
def State.halFits (s : State) (o : Nat) (m : HalyMsg) : Bool :=
  let len := if m.typ = 1 then 64 else m.payload.length
  decide ((s.hal o).slotUsed + 10 * halSymbols len + 5832 ≤ 9720 * s.f (R.HALY_SHARE o) F.HALY_SHARE_SLOT_TICKS)

/-- A message can be sent now on path `p`: not on SUB during a ramp down, and in shared mode only in the own slot. -/
def State.halCanSend (s : State) (o p : Nat) (m : HalyMsg) : Bool :=
  if p = 0 then s.halTx o != 3 && (!s.halShared o || ((s.hal o).inSlot && s.halFits o m)) else !s.halShared o

/-- The first message of a queue that has a usable path, the path, and the others.  In shared mode the queue is taken in order, so a message that
does not fit the slot keeps the later ones back (R327). -/
def State.halPick (s : State) (o : Nat) : List HalyMsg → Option (HalyMsg × Nat × List Nat) × List HalyMsg
  | [] => (none, [])
  | m :: l =>
    match s.halPaths o m with
    | p :: ps =>
      if s.halCanSend o p m then (some (m, p, ps), l)
      else if s.halShared o then (none, m :: l)
      else let (x, l') := s.halPick o l; (x, m :: l')
    | [] => let (x, l') := s.halPick o l; (x, m :: l')

/-- The payload of a beacon on a path (R320). -/
def State.beaconPayload (s : State) (o p : Nat) : List Byte :=
  let h := s.hal o
  let x := if p = 0 then h.sub else h.rel
  let tx := x.sentB.headD (0, 0, 0)
  let rx := x.rcvB.headD (0, 0, 0)
  let st := R.HALY_STAT o
  leBytes 2 (s.f (R.FRM_CTL o) F.FRM_CTL_TAG_TX)
    ++ leBytes 1 (s.f st F.HALY_STAT_SUB_HEARD + 2 * s.f st F.HALY_STAT_REL_HEARD + 4 * bit (s.halShared o)
      + 8 * s.f (R.LOOP_CTL o) F.LOOP_CTL_EN)
    ++ leBytes 1 0 ++ leBytes 2 tx.1 ++ leBytes 12 tx.2.1 ++ leBytes 12 tx.2.2 ++ leBytes 2 rx.1 ++ leBytes 12 rx.2.1
    ++ leBytes 12 rx.2.2 ++ leBytes 8 0

/-- Beacons of one period share one ALIVE value (R318). -/
def shareAlive (a q : Nat) (l : List HalyMsg) : List HalyMsg :=
  l.map fun m => if m.typ = 1 ∧ m.queued = q then { m with alive := some a } else m

/-- A message starts on its path: it takes an ALIVE value if it has none (R310), and its first copy a timestamp (R317).  On
REL its bytes wait for the next frames, and the first of them gives the timestamp.  A beacon's payload is fixed when its first copy starts, so
that every copy is the same message (R310, R320). -/
def State.halStart (s : State) (o : Nat) (m : HalyMsg) (p : Nat) (ps : List Nat) (rest : List HalyMsg) (cyc : Nat) : State :=
  let h := s.hal o
  let a := match m.alive with | some a => a | none => (h.alive + 1) % 65536
  let h := { h with
    alive := (match m.alive with | some _ => h.alive | none => a)
    queue := if m.typ = 1 then shareAlive a m.queued rest else rest
    backlog := if m.typ = 1 then shareAlive a m.queued h.backlog else h.backlog }
  let pay := if m.typ = 1 ∧ m.payload = [] then s.beaconPayload o p else m.payload
  let tsA := ts96 (s.cntAt 0 cyc)
  let tsB := ts96 (s.cntAt 1 cyc)
  let m := { m with alive := some a, payload := pay, todo := ps }
  let m := if m.sent = 0 ∧ p = 0 then { m with tsA := tsA, tsB := tsB } else m
  let hdr := halHeader m.typ pay.length a (s.f (R.HALY_SHARE o) F.HALY_SHARE_STATION) m.dst
  if p = 0 then
    let sub := if m.typ = 1 ∧ m.sent = 0 then { h.sub with sentB := noteBeacon (a, tsA, tsB) h.sub.sentB } else h.sub
    let s := s.setHal o { h with flight := some (m, 0), sub := sub, subStart := 6250 * s.tick + cyc, slotUsed := h.slotUsed + 10 * halSymbols pay.length }
    s.setHalTx o 2
  else
    let s := s.setHal o { h with flight := some (m, 1), relOut := relBytes hdr pay, relNew := true }
    if s.halTx o = 2 then s.setHalTx o 3 else s

/-- The copy in flight has been sent whole (R323, R331). -/
def State.halCopyDone (s : State) (o : Nat) : State :=
  match (s.hal o).flight with
  | none => s
  | some (m, p) =>
    let h := s.hal o
    let m := { m with sent := m.sent + 1, relMask := if p = 1 ∧ m.sent < 8 then withBit m.relMask m.sent true else m.relMask }
    let s := ((s.incF (R.HALY_TX_CNT o) F.HALY_TX_CNT_TX_OK 1).perf 0xB08 1).chkFrame 4 true
    if m.todo ≠ [] then s.setHal o { h with flight := none, queue := halPushFront m h.queue }
    else if 1 < m.owed then
      s.setHal o { h with flight := none, queue := halPushFront { m with owed := m.owed - 1 } h.queue }
    else
      let s := s.setHal o ({ h with flight := none } : HalyOct).refill
      match m.cmd with
      | some c => s.completeAt c Op.HALY_SEND St.OK c.eff [(32, 2, m.alive.getD 0), (34, 1, m.sent), (35, 1, m.relMask),
          (36, 12, m.tsA), (48, 12, m.tsB)]
      | none => s

/-- The transmitter reaches a boundary: the copy in flight or the ramp up ends, and the next message with a usable path starts, the
subcarrier ramping up first where it was off, or ramping down where no message is left (R307, R322; log entry 136). -/
def State.halBurst (s : State) (o cyc : Nat) : State :=
  let busy := match (s.hal o).flight with | some (_, 1) => !(s.hal o).relOut.isEmpty | _ => false
  if !s.halServes o || busy then s
  else
    let s := s.halCopyDone o
    match s.halPick o (s.hal o).queue with
    | (some (m, p, ps), rest) =>
      if p = 0 ∧ s.halTx o = 0 then s.setHalTx o 1
      else (s.chkFrame 6 true).halStart o m p ps rest (if s.halTx o = 1 ∧ s.halShared o = true then 2911 else cyc)
    | (none, _) => if s.halTx o = 2 ∨ s.halTx o = 1 then s.setHalTx o 3 else s

/-- HALY_TX_BURST (R307): a boundary of the transmitter, `cyc` giving the time of the next sync word's first symbol. -/
def execHalyTxBurst (o : Fin 16) (cyc : Fin 6250) (s : State) : Host.Outcome State Fault Refusal :=
  .next (s.halBurst o cyc)

/-- The ramp down ends (R307, R313); with a message waiting for SUB a new ramp up starts at once. -/
def State.halRampDownEnd (s : State) (o : Nat) : State :=
  if s.halTx o = 3 then
    let s := s.halIdle o
    match s.halPick o (s.hal o).queue with
    | (some (_, 0, _), _) => if s.halServes o then s.setHalTx o 1 else s
    | _ => s
  else s

/-- HALY_RAMP_DOWN_END (R307). -/
def execHalyRampDownEnd (o : Fin 16) (s : State) : Host.Outcome State Fault Refusal := .next (s.halRampDownEnd o)

/-- A station's slot starts (R327): with something to send that fits, the receiver is gated and the subcarrier ramps up; the first message
starts where the ramp ends. -/
def State.halSlotStart (s : State) (o : Nat) : State :=
  let sh := R.HALY_SHARE o
  let n := s.f sh F.HALY_SHARE_SLOT_TICKS
  let own := decide (s.tick / n % (s.f sh F.HALY_SHARE_STATIONS + 1) = s.f sh F.HALY_SHARE_STATION)
    && decide (s.tick % n = 0)
  if s.halServes o && s.halShared o && own && s.halTx o == 0 then
    let s1 := s.setHal o { s.hal o with inSlot := true, slotUsed := 3888 }
    match s1.halPick o (s1.hal o).queue with
    | (some _, _) => ((if s1.halRx o = 3 then s1.halTruncate o else s1).setHalRx o 4).setHalTx o 1
    | (none, _) => s
  else s

/-- HALY_SLOT_START (R327). -/
def execHalySlotStart (o : Fin 16) (s : State) : Host.Outcome State Fault Refusal := .next (s.halSlotStart o)

/-- The oldest message that has waited TTL ticks without a usable path is dropped (R322), but a RETIRE waits for a path (R228). -/
def State.halExpired (s : State) (o : Nat) (m : HalyMsg) : Bool :=
  match m.waitFrom with
  | some t => m.typ != 0x15 && decide (t + s.f (R.HALY_CTL o) F.HALY_CTL_TTL ≤ s.tick) && (s.halPaths o m).isEmpty
  | none => false

/-- The first element that meets a test, and the others. -/
def takeFirst {α : Type} (p : α → Bool) : List α → Option α × List α
  | [] => (none, [])
  | x :: l => if p x then (some x, l) else let (y, l') := takeFirst p l; (y, x :: l')

/-- HALY_TTL_EXPIRY drops one message; a HOST message completes with NO_PATH (R322). -/
def State.halTtl (s : State) (o : Nat) : State :=
  match takeFirst (s.halExpired o) (s.hal o).queue with
  | (some m, rest) =>
    let s := s.setHal o ({ s.hal o with queue := rest } : HalyOct).refill
    (s.incF (R.HALY_TX_CNT o) F.HALY_TX_CNT_NO_PATH_CNT 1).completeO m.cmd Op.HALY_SEND St.NO_PATH 0 []
  | (none, _) => s

/-- HALY_TTL_EXPIRY (R322). -/
def execHalyTtlExpiry (o : Fin 16) (s : State) : Host.Outcome State Fault Refusal := .next (s.halTtl o)

/-! ## Beacons and hearing (R318, R321) -/

/-- A beacon falls due every BEACON ticks and is queued on each path that meets its local conditions (R318). -/
def State.halBeacon (s : State) (o : Nat) : State :=
  let n := s.f (R.HALY_CTL o) F.HALY_CTL_BEACON
  if s.halServes o && decide (n ≠ 0) && decide ((s.hal o).lastBeacon + n ≤ s.tick) then
    let s := s.setHal o { s.hal o with lastBeacon := s.tick }
    let s := if s.halLocal o 0 then s.halSendFw o 0x01 2 4 [] else s
    if s.halLocal o 1 then s.halSendFw o 0x01 2 5 [] else s
  else s

/-- HALY_BEACON_DUE (R318). -/
def execHalyBeaconDue (o : Fin 16) (s : State) : Host.Outcome State Fault Refusal := .next (s.halBeacon o)

/-- A time lies outside the hearing window (R321). -/
def State.halStale (s : State) (o : Nat) (t : Option Nat) : Bool :=
  match t with
  | some t => decide (t + s.f (R.HALY_CTL o) F.HALY_CTL_LOSS_TICKS ≤ s.tick)
  | none => true

/-- The hearing flags of a path clear when nothing has been heard for LOSS_TICKS (R321). -/
def State.halHearingLoss (s : State) (o p : Nat) : State :=
  let x := if p = 0 then (s.hal o).sub else (s.hal o).rel
  let s := if s.halStale o x.heard then s.setB (R.HALY_STAT o) (fHEARD p) false else s
  let s := if s.halStale o x.far then s.setB (R.HALY_STAT o) (fFAR p) false else s
  s.halRefresh o p

/-- HALY_HEARING_LOSS (R321). -/
def execHalyHearingLoss (o : Fin 16) (path : Fin 2) (s : State) : Host.Outcome State Fault Refusal :=
  .next (s.halHearingLoss o path)

/-! ## Reception on SUB (R313) -/

/-- HALY_DETECT: power above DET_THR for 16 symbols takes an idle receiver to DETECT (R313). -/
def State.halDetect (s : State) (o : Nat) : State := if s.halServes o && s.halRx o == 0 then s.setHalRx o 1 else s

/-- HALY_DETECT (R313). -/
def execHalyDetect (o : Fin 16) (s : State) : Host.Outcome State Fault Refusal := .next (s.halDetect o)

/-- HALY_DETECT_LOSS: power below DET_THR for 64 symbols ends DETECT (R313). -/
def State.halDetectLoss (s : State) (o : Nat) : State := if s.halRx o = 1 then s.setHalRx o 0 else s

/-- HALY_DETECT_LOSS (R313). -/
def execHalyDetectLoss (o : Fin 16) (s : State) : Host.Outcome State Fault Refusal := .next (s.halDetectLoss o)

/-- The receiver starts on a new message: timestamp and LEVEL (R313, R317). -/
def State.halNewRx (s : State) (o : Nat) (level : Int) (cyc : Nat) : State :=
  (s.setHal o { s.hal o with
    rxLevel := level, rxTsA := ts96 (s.cntAt 0 cyc), rxTsB := ts96 (s.cntAt 1 cyc), rxHdr := 0 }).setHalRx o 2

/-- A correlator finds a sync word (R313): in DETECT it starts a message; in HEADER it pre-empts the reception; in PAYLOAD it
does so only after a power rise above LEVEL + CAPTURE_DB, and the message in progress is truncated (R314).  `level` is in
0.01 dBFS. -/
def State.halSync (s : State) (o : Nat) (level : Int) (errs cyc : Nat) : State :=
  let d := R.HALY_DET o
  if s.f d F.HALY_DET_SYNC_ERR < errs then s
  else if s.halRx o = 1 then s.halNewRx o level cyc
  else if s.halRx o = 2 then (s.incF (R.HALY_CNT o) F.HALY_CNT_PREEMPT_CNT 1).halNewRx o level cyc
  else if s.halRx o = 3 ∧ (s.hal o).rxLevel + 10 * (s.f d F.HALY_DET_CAPTURE_DB : Int) < level then
    (s.halTruncate o).halNewRx o level cyc
  else s

/-- HALY_SYNC_FOUND (R313). -/
def execHalySyncFound (o : Fin 16) (level : Int) (errs : Nat) (cyc : Fin 6250) (s : State) :
    Host.Outcome State Fault Refusal := .next (s.halSync o level errs cyc)

/-- A header is decoded (R309, R313): with a good HCRC the message continues, unless the header carries a reserved encoding. -/
def State.halHdr (s : State) (o hdr : Nat) : State :=
  if s.halRx o = 2 then
    let s := s.chkFrame 6 (hdrOk hdr)
    if hdrOk hdr then
      if hdrReserved hdr then (s.incF (R.HALY_CNT2 o) F.HALY_CNT2_DISCARD_CNT 1).setHalRx o 1
      else (s.setHal o { s.hal o with rxHdr := hdr }).setHalRx o 3
    else (s.incF (R.HALY_CNT o) F.HALY_CNT_FALSE_CNT 1).setHalRx o 1
  else s

/-- HALY_HEADER (R313). -/
def execHalyHeader (o : Fin 16) (hdr : BitVec 64) (s : State) : Host.Outcome State Fault Refusal := .next (s.halHdr o hdr.toNat)

/-! ## At each tick edge -/

/-- The noise floor is reported for a tick in which the receiver idled (R315: a measured figure, free), waiting messages are marked, the RETIREs
that waited for the modem are sent (R228), and the flags of the paths are refreshed. -/
def State.halTick (s : State) (o : Nat) : State :=
  if s.halServes o then
    let s := if (s.hal o).idle then s.freeF (R.HALY_RX_LVL o) F.HALY_RX_LVL_NF else s
    let lanes := (s.hal o).retire
    let s := s.setHal o { s.hal o with idle := s.halRx o == 0, retire := [] }
    let s := s.each lanes fun l s => s.halConv o 0x15 l 0 0
    let q := (s.hal o).queue.map fun m =>
      if (s.halPaths o m).isEmpty then { m with waitFrom := some (m.waitFrom.getD s.tick) } else { m with waitFrom := none }
    (s.setHal o ({ s.hal o with queue := q } : HalyOct).refill).halRefresh2 o
  else
    let s := if s.halRx o ≠ 0 then s.halStop o else s.halRefresh2 o
    s.setHal o { s.hal o with idle := false, relIn := [], relGot := [] }

end Sys2Proof.Machine
end

