-- ==== Sys2Proof/Machine/Engine.lean ====
section
/-!
DEFINITION. Commands and events of optical engine control (chapter 14), but for the housekeeping conversions and the end of the
last ramp.
-/

namespace Sys2Proof.Machine

/-! ## Queues and ramps (R485 to R491) -/

/-- The 16-bit codes of an EDAC_QUEUE. -/
def queueCodes (n codes : Nat) : List Nat := (List.range n).map fun j => codes / 2 ^ (16 * j) % 65536

/-- EDAC_QUEUE at its tick edge (R486, R487, R511). -/
def State.edacQueue (s : State) (c : Cmd) (ch n flush codes : Nat) : State :=
  let op := Op.EDAC_QUEUE
  if 432 ≤ ch ∨ n = 0 ∨ 8 < n ∨ 2 ≤ flush ∨ codes / 2 ^ (16 * n) ≠ 0 then s.refuse c op St.BAD_FIELD
  else
    let w := s.owner ch
    if w = 1 ∨ w = 2 then s.refuse c op St.CHAN_OWNED
    else if w = 3 then s.refuse c op St.ENG_CLEARED
    else
      let x := s.ch ch
      let old := if flush = 1 then [] else x.queue
      if 8 < old.length + n then s.refuse c op St.EDAC_FULL
      else
        let s := s.setCh ch { x with queue := old ++ queueCodes n codes }
        s.ok c op [(32, 1, old.length + n), (33, 1, x.queue.length - old.length)]

/-- EDAC_QUEUE (R487). -/
def execEdacQueue (cmd : Cmd) (channel : BitVec 16) (count flush : BitVec 8) (codes : BitVec 128) (s : State) :
    Host.Outcome State Fault Refusal := .next (s.edacQueue cmd channel.toNat count.toNat flush.toNat codes.toNat)

/-- EDAC_RAMP at its tick edge (R490, R491): it completes at the ramp's end. -/
def State.edacRamp (s : State) (c : Cmd) (k : Nat) : State :=
  if 16 ≤ k ∨ s.f (R.EDAC_RAMP_CTL k) F.EDAC_RAMP_CTL_COUNT = 0 then s.refuse c Op.EDAC_RAMP St.BAD_FIELD
  else match s.rampRefusal k with
    | some e => s.refuse c Op.EDAC_RAMP e
    | none => s.rampStart k (some { c with eff := s.tick })

/-- EDAC_RAMP (R490). -/
def execEdacRamp (cmd : Cmd) (slot : BitVec 8) (s : State) : Host.Outcome State Fault Refusal :=
  .next (s.edacRamp cmd slot.toNat)

/-- A preloaded ramp has applied its last code (R490). -/
def State.rampDone (s : State) (k : Nat) : State :=
  match s.ramp k with
  | some q =>
    if q.ticks ≤ q.step then
      let s := (s.setRamp k none).event Ev.EDAC_RAMP_DONE k noLane []
      s.completeO q.cmd Op.EDAC_RAMP St.OK q.start [(40, 8, q.start + q.ticks - 1)]
    else s
  | none => s

/-- EDAC_RAMP_DONE (R490). -/
def execEdacRampDone (k : Fin 16) (s : State) : Host.Outcome State Fault Refusal := .next (s.rampDone k)

/-- The end of a span change (R488, R494): the new span takes effect with the code at the head of the queue, with 0, or with the
clear code. -/
def State.spanSettle (s : State) (c : Nat) : State :=
  let x := s.ch c
  if x.spanPend && decide (x.spanLeft = 0) then
    let x := { x with span := s.f (R.EDAC_CH_CFG c) F.EDAC_CH_CFG_SPAN, spanPend := false, lastApply := some s.tick }
    if s.chClear c then s.setCh c { x with code := s.clearCode c, atClear := true }
    else match x.queue with
      | v :: q => s.setCh c { x with code := v, queue := q, atClear := false }
      | [] => s.setCh c { x with code := 0, atClear := false }
  else s

/-- SPAN_SETTLE (R488). -/
def execSpanSettle (ch : Fin 432) (s : State) : Host.Outcome State Fault Refusal := .next (s.spanSettle ch)

/-! ## Clearing (R492 to R494) -/

/-- The fault clears that are in force, as EDAC_STAT.FAULT_ACT shows them. -/
def State.faultAct (s : State) : Nat := (List.range 16).foldl (fun n o => n + bit (s.faultClear o) * 2 ^ o) 0

/-- A clear comes into force on an octet: its channels are driven to their clear codes and its lanes go DARK (R493). -/
def State.clearOct (s : State) (o : Nat) : State :=
  let s := s.each (octChans o) fun c s => s.clearCh c
  s.each lanes9 fun l s => s.laneKill o l

/-- Clears change from those of `old` to those of `s` (R493): events, and the octets newly covered.  `src` is the source that
changed a group's clear: 1 = the pin, 2 = FORCE_CLR. -/
def State.clearChange (old s : State) (src : Nat) : State :=
  let s := s.setFs R.EDAC_STAT [(F.EDAC_STAT_CLR_PIN, s.eng.clrPin), (F.EDAC_STAT_FAULT_ACT, s.faultAct)]
  let s := s.each (List.range 4) fun k s =>
    if old.groupClear k = s.groupClear k then s else s.eventC Ev.EDAC_CLEAR k noLane (!s.groupClear k) [src]
  let s := s.each (List.range 16) fun o s =>
    if old.faultClear o = s.faultClear o then s else s.eventC Ev.ENG_FAULT_CLEAR o noLane (!s.faultClear o) []
  s.each (List.range 16) fun o s => if s.octClear o && !old.octClear o then s.clearOct o else s

/-- ENG_CLR_N[k] changes after its filter (R492). -/
def State.engClr (s : State) (k : Nat) (low : Bool) : State :=
  State.clearChange s { s with eng.clrPin := withBit s.eng.clrPin k low } 1

/-- ENG_CLR_N_EDGE (R492). -/
def execEngClrNEdge (k : Fin 4) (low : Bool) (s : State) : Host.Outcome State Fault Refusal := .next (s.engClr k low)

/-! ## The last-ramp sequencer (R497, R498) -/

/-- Codes of a last-ramp step. -/
def State.lrApply (s : State) (i : Nat) : State :=
  s.each s.eng.lrFrom fun y s =>
    s.setCh y.1 { s.ch y.1 with
      code := rampCode (s.ch y.1).span y.2.1 y.2.2 i s.eng.lrN, lastApply := some s.tick, atClear := decide (i = s.eng.lrN) }

/-- A preloaded ramp stops; its command completes with ENG_CLEARED (R497, log entry 21). -/
def State.rampStop (s : State) (k : Nat) : State :=
  match s.ramp k with
  | some q => (s.setRamp k none).completeO q.cmd Op.EDAC_RAMP St.ENG_CLEARED q.start [(40, 8, s.tick)]
  | none => s

/-- The sequencer starts (R497), unless it runs or is in DONE: queues are flushed, ramps stop, launch lanes go DARK, and step 1 is
applied. -/
def State.lrStart (s : State) (cause : Nat) : State :=
  if s.lrState ≠ 0 then s
  else
    let n := s.f R.LR_CTL F.LR_CTL_TICKS
    let chans := (List.range 432).filter fun c => !s.chClear c
    let from0 := chans.map fun c => (c, (s.ch c).code, s.clearCode c)
    let s := s.setFs R.LR_STAT [(F.LR_STAT_STATE, 1), (F.LR_STAT_LEFT, n - 1), (F.LR_STAT_CAUSE, cause),
      (F.LR_STAT_TICK, s.tick % 2 ^ 46)]
    let s := s.each (s.eng.ramps.map (·.1)) fun k s => s.rampStop k
    let s := s.each s.chans fun c s => s.setCh c { s.ch c with queue := [] }
    let s := s.each (List.range 16) fun o s => s.each lanes9 fun l s => s.laneKill o l
    let s := { s with eng.lrN := n, eng.lrStep := 1, eng.lrFrom := from0, eng.lrCount := from0.length }
    (s.lrApply 1).event Ev.LAST_RAMP_START noObj noLane [cause]

/-- Result of LAST_RAMP (R511). -/
def State.lrResult (s : State) : List (Nat × Nat × Nat) := [(32, 1, s.eng.lrCount), (33, 2, s.eng.lrCount)]

/-- LAST_RAMP at its tick edge: it completes at DONE, at once where the sequencer is in DONE (R497). -/
def State.lastRamp (s : State) (c : Cmd) : State :=
  if s.lrState = 2 then s.ok c Op.LAST_RAMP s.lrResult
  else
    let s := s.lrStart 2
    { s with eng.lrWait := s.eng.lrWait ++ [{ c with eff := s.tick }] }

/-- LAST_RAMP (R497). -/
def execLastRamp (cmd : Cmd) (s : State) : Host.Outcome State Fault Refusal := .next (s.lastRamp cmd)

/-- The next step, one 10 us period after the one before (R497). -/
def State.lrStepGo (s : State) : State :=
  if s.lrState = 1 ∧ s.eng.lrStep < s.eng.lrN then
    let i := s.eng.lrStep + 1
    let s := { s with eng.lrStep := i }
    (s.lrApply i).setF R.LR_STAT F.LR_STAT_LEFT (s.eng.lrN - i)
  else s

/-- LAST_RAMP_STEP (R497). -/
def execLastRampStep (s : State) : Host.Outcome State Fault Refusal := .next s.lrStepGo

/-- LAST_RAMP_RELEASE ends DONE; the owners return at the next tick edge (R498, R511). -/
def State.lrRelease (s : State) (c : Cmd) : State :=
  if s.lrState = 2 then
    let s := { s.setF R.LR_STAT F.LR_STAT_STATE 0 with eng.resetHold := true, eng.lrFrom := [] }
    s.ok c Op.LAST_RAMP_RELEASE []
  else s.refuse c Op.LAST_RAMP_RELEASE St.WRONG_STATE

/-- LAST_RAMP_RELEASE (R498). -/
def execLastRampRelease (cmd : Cmd) (s : State) : Host.Outcome State Fault Refusal := .next (s.lrRelease cmd)

/-! ## Engine I2C (R508, R509) -/

/-- The transaction in progress on a bus. -/
def State.i2cNow (s : State) (k : Nat) : Option BusXfer := Tab.get (fun _ => none) s.eng.i2cRun k

/-- The transaction in progress is replaced; BUSY follows. -/
def State.setI2c (s : State) (k : Nat) (x : Option BusXfer) : State :=
  { s.setB (R.ENG_I2C_STAT k) F.ENG_I2C_STAT_BUSY x.isSome with eng.i2cRun := Tab.set (fun _ => none) s.eng.i2cRun k x }

/-- A transaction starts on a bus: the host's, or a read of firmware for an octet's lane. -/
def State.i2cStart (s : State) (k : Nat) (x : BusXfer) (fw : Option (Nat × Nat)) : State :=
  let s := s.setI2c k (some x)
  { s with
    eng.i2cHost := s.eng.i2cHost.erase x
    eng.i2cFw := s.eng.i2cFw.filter fun y => some (y.1, y.2.1) != fw
    eng.i2cMpd := Tab.set (fun _ => none) s.eng.i2cMpd k fw
    eng.i2cTurn := Tab.set (fun _ => false) s.eng.i2cTurn k fw.isNone }

/-- The next transaction of a bus starts when the bus is free and enabled: the host's in order of acceptance and firmware's, one each in turn
(R508, log entry 22). -/
def State.i2cNext (s : State) (k : Nat) : State :=
  if (s.i2cNow k).isSome || !s.b (R.ENG_I2C_CTL k) F.ENG_I2C_CTL_EN then s
  else match s.eng.i2cHost.find? fun x => x.bus == k, s.eng.i2cFw.find? fun y => y.2.2.bus == k with
    | some x, none => s.i2cStart k x none
    | some x, some y => if Tab.get (fun _ => false) s.eng.i2cTurn k then s.i2cStart k y.2.2 (some (y.1, y.2.1)) else s.i2cStart k x none
    | none, some y => s.i2cStart k y.2.2 (some (y.1, y.2.1))
    | none, none => s

/-! ## Monitor photodiodes (R351, R352, R510) -/

/-- Firmware asks for the monitor photodiode of a transmit lane: register REG + STRIDE × l of the engine, 16 bits (R510; how the register is
addressed: log entry 138). -/
def State.mpdAsk (s : State) (o l : Nat) : State :=
  let r := R.ENG_MPD o
  let a := leBytes 2 (s.f r F.ENG_MPD_REG + s.f r F.ENG_MPD_STRIDE * l)
  let x : BusXfer := ⟨none, o / 4, s.f r F.ENG_MPD_ADDR, if s.b r F.ENG_MPD_BE then a.reverse else a, 2, true⟩
  if s.eng.i2cFw.any fun y => y.1 == o && y.2.1 == l then s
  else State.i2cNext { s with eng.i2cFw := s.eng.i2cFw ++ [(o, l, x)] } (o / 4)

/-- A reading paired with the BIAS code in force: the photodiode value per BIAS code, in 2^-16 (R510, log entry 138). -/
def mpdSlope (v bias : Nat) : Nat := v * 65536 / bias

/-- A reading arrives (R351, R352): the first one of a lane that has reached LIT is its baseline and is journalled; SLOPE_RATIO is the fraction
of it, and a lane below SLOPE_MIN is LASER_AGED.  While HK_DRIFT is set the reading is not used.  The figure per BIAS code at code 0, and the
fraction of a baseline of 0, are not stated: free values (log entry 1). -/
def State.mpdRead (s : State) (o l : Nat) (data : List Byte) : State :=
  let bias := (s.ch (biasCh o l)).code
  let v := ofLeBytes (if s.b (R.ENG_MPD o) F.ENG_MPD_BE then (data.take 2).reverse else data.take 2)
  if s.txState o l ≠ 3 ∨ s.jrn.hkDrift = true ∨ data.length < 2 then s
  else
    let (x, s) := if bias = 0 then s.draw (2 ^ 32) else (mpdSlope v bias, s)
    let s := match (s.pl o l).base with
      | some _ => s
      | none => (s.setPl o l { s.pl o l with base := some x }).jrnEvent 5 o l 1 0 x 0
    let b := (s.pl o l).base.getD 0
    let (q, s) := if b = 0 then s.draw 1024 else (min 1023 (roundDiv (1000 * x : Nat) b).toNat, s)
    let s := s.setF (R.PLAN_LANE2 o l) F.PLAN_LANE2_SLOPE_RATIO q
    s.setB (R.PLAN_LANE o l) F.PLAN_LANE_LASER_AGED
      (decide (s.f (R.PLAN_LANE2 o l) F.PLAN_LANE2_SLOPE_RATIO < s.f R.PLAN_CTL2 F.PLAN_CTL2_SLOPE_MIN))

/-- ENG_I2C at its tick edge (R508, R511). -/
def State.engI2c (s : State) (c : Cmd) (bus addr wn rn rs wdata : Nat) : State :=
  if 4 ≤ bus ∨ 128 ≤ addr ∨ 64 < wn ∨ 16 < rn ∨ 2 ≤ rs then s.refuse c Op.ENG_I2C St.BAD_FIELD
  else
    let x : BusXfer := ⟨some { c with eff := s.tick }, bus, addr, leBytes wn wdata, rn, decide (rs = 1)⟩
    State.i2cNext { s with eng.i2cHost := s.eng.i2cHost ++ [x] } bus

/-- ENG_I2C (R508). -/
def execEngI2c (cmd : Cmd) (bus addr wcount rcount rstart : BitVec 8) (wdata : BitVec 512) (s : State) :
    Host.Outcome State Fault Refusal :=
  .next (s.engI2c cmd bus.toNat addr.toNat wcount.toNat rcount.toNat rstart.toNat wdata.toNat)

/-- The tick at which a transaction's command took effect. -/
def xferEff (x : BusXfer) : Nat := match x.cmd with | some c => c.eff | none => 0

/-- A bus transaction ends with data or with a NAK (R509). -/
def State.i2cEnd (s : State) (k : Nat) (nak : Option Nat) (data : List Byte) : State :=
  match s.i2cNow k with
  | some x =>
    let s := s.setI2c k none
    let s := match Tab.get (fun _ => none) s.eng.i2cMpd k, nak with
      | some p, none => s.mpdRead p.1 p.2 data
      | _, _ => s
    let s := match nak with
      | some i => (s.incF (R.ENG_I2C_STAT k) F.ENG_I2C_STAT_NAK_CNT 1).completeO x.cmd Op.ENG_I2C St.I2C_NAK
          (xferEff x) [(33, 1, i)]
      | none => s.completeO x.cmd Op.ENG_I2C St.OK (xferEff x)
          [(32, 1, x.rlen), (40, 16, ofLeBytes (data.take x.rlen))]
    s.i2cNext k
  | none => s

/-- I2C_TRANSACTION_END (R509). -/
def execI2cTransactionEnd (k : Fin 4) (nak : Option (BitVec 8)) (data : List Byte) (s : State) :
    Host.Outcome State Fault Refusal := .next (s.i2cEnd k (nak.map (·.toNat)) data)

/-- The bus is held low beyond STRETCH_MAX (R509): clock pulses and a STOP, then I2C_TIMEOUT on a free bus or I2C_STUCK. -/
def State.i2cRecover (s : State) (k : Nat) (stuck : Bool) : State :=
  match s.i2cNow k with
  | some x =>
    let r := R.ENG_I2C_STAT k
    let s := ((s.setI2c k none).incF r F.ENG_I2C_STAT_RECOVER_CNT 1).incF r F.ENG_I2C_STAT_TIMEOUT_CNT 1
    let s := s.event Ev.I2C_RECOVER k noLane []
    let s := s.completeO x.cmd Op.ENG_I2C (if stuck then St.I2C_STUCK else St.I2C_TIMEOUT) (xferEff x) []
    s.i2cNext k
  | none => s

/-- I2C_RECOVER (R509). -/
def execI2cRecover (k : Fin 4) (stuck : Bool) (s : State) : Host.Outcome State Fault Refusal := .next (s.i2cRecover k stuck)

/-! ## Housekeeping sequencers (R502, R517) -/

/-- A converter's sequencer. -/
def State.hk (s : State) (h : Nat) : HkConv := if h = 0 then s.eng.hk0 else s.eng.hk1

/-- The state with a sequencer replaced. -/
def State.setHk (s : State) (h : Nat) (x : HkConv) : State :=
  if h = 0 then { s with eng.hk0 := x } else { s with eng.hk1 := x }

/-- RESTART is written 1 (R517): the main loop starts from entry 0 after the conversion in progress. -/
def State.hkRestart (s : State) (h : Nat) : State :=
  (s.setHk h { s.hk h with restart := true }).setB (R.HK_SEQ_CTL h) F.HK_SEQ_CTL_RESTART true

/-- HK_SEQ_RESTART (R517). -/
def execHkSeqRestart (h : Fin 2) (s : State) : Host.Outcome State Fault Refusal := .next (s.hkRestart h)

end Sys2Proof.Machine
end

