-- ==== Sys2Proof/Machine/Telemetry.lean ====
section
/-!
DEFINITION. Telemetry records (R403 to R405): the counters they cover, the deltas, the section entries.
-/

namespace Sys2Proof.Machine

/-- A counter's total since the device reset: what its field shows, and what reads have cleared (R403). -/
def State.total (s : State) (a : Nat) (x : Fld) : Nat := s.f a x + Tab.get (fun _ => 0) s.host.rcBase (64 * a + x.lo)

/-- The counters of a line lane's entry, with their offset and length in it (R405). -/
def lineCounters (o l : Nat) : List (Nat × Nat × Nat × Fld) := [
  (24, 4, R.FEC_CW o l, F.FEC_CW_CNT), (28, 4, R.FEC_CORR_CW o l, F.FEC_CORR_CW_CNT),
  (32, 4, R.FEC_UNC_CW o l, F.FEC_UNC_CW_CNT), (36, 4, R.FEC_CORR_SYM o l, F.FEC_CORR_SYM_CNT),
  (40, 4, R.FEC_CORR_BIT o l, F.FEC_CORR_BIT_CNT), (44, 4, R.FEC_ERASE_HIT o l, F.FEC_ERASE_HIT_CNT),
  (48, 4, R.TRL_STAT o l, F.TRL_STAT_ERASE_CNT), (52, 4, R.RX_AFE_STAT o l, F.RX_AFE_STAT_CLIP_CNT)]

/-- The counters of a slot lane's entry. -/
def slotCounters (g i : Nat) : List (Nat × Nat × Nat × Fld) := [
  (4, 4, R.SL_FEC_CW g i, F.SL_FEC_CW_CNT), (8, 4, R.SL_FEC_CORR g i, F.SL_FEC_CORR_CNT),
  (12, 4, R.SL_FEC_UNC g i, F.SL_FEC_UNC_CNT), (16, 2, R.SL_CNT g i, F.SL_CNT_DOWN_CNT)]

/-- The counters of a client's entry. -/
def clientCounters (c : Nat) : List (Nat × Nat × Nat × Fld) := [
  (12, 4, R.MAP_CLI_CNT c, F.MAP_CLI_CNT_ERR_CNT), (16, 4, R.MAP_CLI_CNT c, F.MAP_CLI_CNT_REPL_TICKS),
  (20, 2, R.MAP_CLI_STAT c, F.MAP_CLI_STAT_RECENTRE_CNT), (22, 2, R.PROT_CNT c, F.PROT_CNT_SWITCH_CNT),
  (28, 4, R.PROT_CNT c, F.PROT_CNT_REPAIR_CNT)]

/-- The counter of the TIME entry. -/
def timeCounters : List (Nat × Nat × Nat × Fld) := [(16, 4, R.TICK_OVERRUN_CNT, F.TICK_OVERRUN_CNT_CNT)]

/-- The context of a telemetry ring (R408). -/
def tqPeriod (c : Word) : Nat := F.RING_CTX_C_INIT_HSEQ.of c
def tqSections (c : Word) : Nat := F.RING_CTX_C_SECTIONS.of c
def tqOcts (c : Word) : List Nat := bitsOf 16 (F.RING_CTX_C_OCT_MASK.of c)
def tqGroups (c : Word) : List Nat := bitsOf 16 (F.RING_CTX_C_SG_MASK.of c)

/-- Line lanes and slot lanes of a ring's masks, in order. -/
def pairsOf (l : List Nat) (n : Nat) : List (Nat × Nat) := l.flatMap fun o => (List.range n).map fun i => (o, i)

/-- The clients defined (R404). -/
def State.definedClients (s : State) : List Nat :=
  (List.range 512).filter fun c => s.b (R.MAP_CLI_DEF c) F.MAP_CLI_DEF_DEFINED

/-- Every counter that a ring's records cover. -/
def tqCounters (c : Word) : List (Nat × Nat × Nat × Fld) :=
  let sec := tqSections c
  (if bitOf sec 0 then (pairsOf (tqOcts c) 9).flatMap fun p => lineCounters p.1 p.2 else [])
    ++ (if bitOf sec 1 then (pairsOf (tqGroups c) 16).flatMap fun p => slotCounters p.1 p.2 else [])
    ++ (if bitOf sec 2 then (List.range 512).flatMap clientCounters else [])
    ++ (if bitOf sec 3 then timeCounters else [])

/-- The totals of a ring's counters, keyed as `rcBase`; those at zero are not listed. -/
def State.totals (s : State) (c : Word) : List (Nat × Nat) :=
  (tqCounters c).filterMap fun x =>
    let v := s.total x.2.2.1 x.2.2.2
    if v = 0 then none else some (64 * x.2.2.1 + x.2.2.2.lo, v)

/-- The delta fields of an entry: the counters' growth since the last record, saturating (R403); a counter that a domain's power-up has cleared
meanwhile counts from 0. -/
def State.deltas (s : State) (last : List (Nat × Nat)) (l : List (Nat × Nat × Nat × Fld)) : List (Nat × Nat × Nat) :=
  l.map fun x =>
    let v := s.total x.2.2.1 x.2.2.2
    let v0 := Tab.get (fun _ => 0) last (64 * x.2.2.1 + x.2.2.2.lo)
    let d := if v < v0 then s.f x.2.2.1 x.2.2.2 else v - v0
    (x.1, x.2.1, min d (2 ^ (8 * x.2.1) - 1))

/-- A line lane's entry (R405); a lane whose octet is not On shows NO_INPUT and no growth (R404). -/
def State.lineEntry (s : State) (last : List (Nat × Nat)) (o l : Nat) : List Byte :=
  let a := R.MON_T_A o l
  let b := R.MON_T_B o l
  let q := R.ACQ_LANE_STAT o l
  let on := s.octOn o
  let flags := (if on then s.f a F.MON_T_A_UNSETTLED else 0) + 2 * (if on then s.f a F.MON_T_A_NO_INPUT else 1)
    + 4 * s.f a F.MON_T_A_TONE + 8 * s.f q F.ACQ_LANE_STAT_LOCK + 16 * s.f q F.ACQ_LANE_STAT_STATE
  entryOf ([(0, 1, o), (1, 1, l), (2, 1, flags), (3, 1, s.f q F.ACQ_LANE_STAT_LANE_STATE),
    (4, 2, s.f a F.MON_T_A_PWR), (6, 2, s.f a F.MON_T_A_NF), (8, 2, s.f a F.MON_T_A_SNR), (10, 2, s.f b F.MON_T_B_D1),
    (12, 2, s.f b F.MON_T_B_D2), (14, 2, s.f b F.MON_T_B_D3), (16, 2, s.f b F.MON_T_B_IMB),
    (18, 6, s.f (R.MON_T_SER o l) F.MON_T_SER_SER)]
    ++ (if on then s.deltas last (lineCounters o l) else []))

/-- A slot lane's entry. -/
def State.slotEntry (s : State) (last : List (Nat × Nat)) (g i : Nat) : List Byte :=
  let a := R.SL_STAT g i
  entryOf ([(0, 1, g), (1, 1, i),
    (2, 1, s.f a F.SL_STAT_STATE + 8 * s.f a F.SL_STAT_LOCK + 16 * s.f a F.SL_STAT_RAW_LOS)]
    ++ (if s.sgOn g then s.deltas last (slotCounters g i) else []))

/-- A client's entry. -/
def State.clientEntry (s : State) (last : List (Nat × Nat)) (c : Nat) : List Byte :=
  let a := R.MAP_CLI_STAT c
  entryOf ([(0, 2, c),
    (2, 1, s.f a F.MAP_CLI_STAT_CARRYING + 2 * s.f a F.MAP_CLI_STAT_SRC_OK + 4 * s.f a F.MAP_CLI_STAT_NO_TAG
      + 8 * s.f a F.MAP_CLI_STAT_DROPPED + 16 * s.f a F.MAP_CLI_STAT_SHED),
    (3, 1, s.f (R.PROT_STAT c) F.PROT_STAT_STATE + 8 * s.f (R.PROT_STAT c) F.PROT_STAT_ACTIVE),
    (4, 4, s.f a F.MAP_CLI_STAT_C_TX), (8, 4, s.f a F.MAP_CLI_STAT_C_RX),
    (24, 4, s.f (R.PROT_DELAY c) F.PROT_DELAY_DIFF)] ++ s.deltas last (clientCounters c))

/-- The TIME entry. -/
def State.timeEntry (s : State) (last : List (Nat × Nat)) : List Byte :=
  entryOf ([(0, 1, s.time.active + 2 * bit (decide (s.time.off ≠ 0)) + 4 * s.time.refUse),
    (8, 8, patternOf 64 (offShown s.time.off))] ++ s.deltas last timeCounters)

/-- The record of a telemetry ring at the present tick (R404). -/
def State.telemetryRecord (s : State) (r : Nat) : RingRec :=
  let q := s.ring r
  let sec := tqSections q.ctxC
  let line := if bitOf sec 0 then (pairsOf (tqOcts q.ctxC) 9).map fun p => s.lineEntry q.tqLast p.1 p.2 else []
  let slot := if bitOf sec 1 then (pairsOf (tqGroups q.ctxC) 16).map fun p => s.slotEntry q.tqLast p.1 p.2 else []
  let cli := if bitOf sec 2 then s.definedClients.map fun c => s.clientEntry q.tqLast c else []
  let time := if bitOf sec 3 then [s.timeEntry q.tqLast] else []
  ⟨r, 3, s.tick, entryOf [(16, 2, tqPeriod q.ctxC), (18, 1, sec), (20, 2, line.length), (22, 2, slot.length),
    (24, 2, cli.length), (26, 2, time.length), (28, 8, q.tqFrom)] :: (line ++ slot ++ cli ++ time)⟩

/-- At a tick edge, every telemetry ring whose PERIOD divides TICK_COUNT latches its snapshot (R403). -/
def State.telemetrySnapshot (s : State) : State :=
  let due := (s.host.rings.filter fun x => x.2.typ == 4 && decide (s.tick % tqPeriod x.2.ctxC = 0)).map (·.1)
  s.each due fun r s =>
    let rec' := s.telemetryRecord r
    let q := s.ring r
    let s := s.setRing r { q with tqFrom := s.tick, tqLast := s.totals q.ctxC }
    { s with host.recQ := s.host.recQ ++ [rec'] }

end Sys2Proof.Machine
end

