-- ==== Sys2Proof/Machine/Retire.lean ====
section
/-!
DEFINITION. Commands and events of conversion and retirement (R219 to R235) at both ends, and the end of a launch ramp (R107).
-/

namespace Sys2Proof.Machine

/-! ## The receive end, N (R222) -/

/-- The tick after the decision (R222): per-lane clock recovery, LC's equaliser powers up with its seed (R120), CONV_REQ, and a trim run
in progress ends (R348). -/
def State.convStart (s : State) (o : Nat) : State :=
  match (s.ao o).convDue with
  | some t =>
    if t ≤ s.tick ∧ 1 ≤ s.convRx o ∧ s.convRx o ≤ 3 then
      let s := ((s.setAo o { s.ao o with convDue := none, convTick := s.tick }).clkStage o).seedStart o 8
      let s := (s.halConv o 0x10 (s.convRxLane o) (s.ao o).convReason 0).trimAbandon o 2
      s.event Ev.CONV_START o (s.convRxLane o) []
    else s
  | none => s

/-- CONV_START (R222). -/
def execConvStart (o : Fin 16) (s : State) : Host.Outcome State Fault Refusal := .next (s.convStart o)

/-- CONV_TIMEOUT of the octet, in ticks. -/
def State.convLimit (s : State) (o : Nat) : Nat := s.f (R.ACQ_CTL o) F.ACQ_CTL_CONV_TIMEOUT

/-- CONV_TIMEOUT expires in REQUESTED (R222): CONV_REQ is sent again, and the third expiry fails the conversion. -/
def State.convTimeout (s : State) (o : Nat) : State :=
  let x := s.ao o
  if s.convRx o = 1 ∧ x.convDue = none ∧ x.convTick + s.convLimit o ≤ s.tick then
    if 2 ≤ x.convExp then s.convFail o
    else (s.setAo o { x with convExp := x.convExp + 1, convTick := s.tick }).halConv o 0x10 (s.convRxLane o) x.convReason 0
  else s

/-- CONV_TIMEOUT (R222). -/
def execConvTimeout (o : Fin 16) (s : State) : Host.Outcome State Fault Refusal := .next (s.convTimeout o)

/-- The tone on LC ends (R222): LC's clock recovery starts. -/
def State.toneEnd (s : State) (o : Nat) : State :=
  if s.convRx o = 1 ∨ s.convRx o = 2 then
    let s := (s.setF (R.CONV_STAT o) F.CONV_STAT_RX_STATE 3).setF (R.ACQ_STAT o) F.ACQ_STAT_TONE_LOCK 0
    s.setAcq o 8 7
  else s

/-- LC_TONE_END (R222). -/
def execLcToneEnd (o : Fin 16) (s : State) : Host.Outcome State Fault Refusal := .next (s.toneEnd o)

/-- Frames of LC since the bridge frame; none while B is not known or lies ahead. -/
def State.framesPastB (s : State) (o : Nat) : Option Nat :=
  match (s.ao o).rxB with
  | some b =>
    let d := ((s.fl o 8).rxFc + 2 ^ 48 - b) % 2 ^ 48
    if d < 2 ^ 47 then some d else none
  | none => none

/-- Frame B + 2 or B + 3 starts with LC in LOCK and BRIDGE = l (R222): LC takes lane l's slots. -/
def State.convSelect (s : State) (o : Nat) : State :=
  let l := s.convRxLane o
  match s.framesPastB o with
  | some d =>
    if s.convRx o = 3 ∧ s.rxLock o 8 = true ∧ s.f (R.FRM_LANE_STAT o 8) F.FRM_LANE_STAT_RX_BRIDGE = l ∧ 2 ≤ d then
      let b := (s.ao o).rxB.getD 0
      let s := s.setF (R.CONV_STAT o) F.CONV_STAT_RX_STATE 4
      let s := s.setAq o 8 { s.aq o 8 with service := true }
      let s := s.rxRetire o l b
      let s := s.halConv o 0x13 l 0 (s.fl o 8).rxFc
      let s := s.setAo o { s.ao o with doneOwed := true, convTick := s.tick, selFc := (s.fl o 8).rxFc }
      ((((s.event Ev.CONV_SELECT o l []).countConv).dataLanes o).laneStates o).rxCmdDone o l b
    else s
  | none => s

/-- CONV_SELECT (R222). -/
def execConvSelect (o : Fin 16) (s : State) : Host.Outcome State Fault Refusal := .next (s.convSelect o)

/-- LC stands in LOCK outside the deskew window (R222). -/
def State.lcOutside (s : State) (o : Nat) : Bool :=
  let x := s.aq o 8
  s.rxLock o 8 && x.known && s.b (R.ACQ_STAT o) F.ACQ_STAT_OCT_ALIGNED && decide (32 < (s.skewOf o x.arrival).natAbs)

/-- No LOCK of LC at the start of frame B + 3, or LC outside the deskew window (R222): CONV_ABORT is sent. -/
def State.lcFail (s : State) (o : Nat) : State :=
  let late := match s.framesPastB o with
    | some d => decide (3 ≤ d) && !s.rxLock o 8
    | none => false
  if s.convRx o = 3 ∧ (late || s.lcOutside o) = true then (s.halConv o 0x14 (s.convRxLane o) 0 0).convFail o else s

/-- CONV_LC_FAIL (R222): `lost` says that frame B + 3 has started where no LC frame was received to show it. -/
def execConvLcFail (o : Fin 16) (lost : Bool) (s : State) : Host.Outcome State Fault Refusal :=
  .next (if lost ∧ s.convRx o = 3 ∧ s.rxLock o 8 = false then (s.halConv o 0x14 (s.convRxLane o) 0 0).convFail o else s.lcFail o)

/-- CONV_DONE is sent again each CONV_TIMEOUT until F's LANE_STATE shows 4 for the lane (R222). -/
def State.doneRepeat (s : State) (o : Nat) : State :=
  let l := s.convRxLane o
  let x := s.ao o
  if s.convRx o = 4 ∧ x.doneOwed = true ∧ x.convTick + s.convLimit o ≤ s.tick then
    if s.f (R.FRM_RX_OAM o l) F.FRM_RX_OAM_LANE_STATE = 4 then s.setAo o { x with doneOwed := false }
    else (s.setAo o { x with convTick := s.tick }).halConv o 0x13 l 0 x.selFc
  else s

/-- CONV_DONE_REPEAT (R222). -/
def execConvDoneRepeat (o : Fin 16) (s : State) : Host.Outcome State Fault Refusal := .next (s.doneRepeat o)

/-! ## The transmit end, F (R223) -/

/-- Frame B starts (R223): LC carries lane l's copy, and Halyard transmission moves to the relay. -/
def State.bridgeStart (s : State) (o : Nat) : State :=
  if s.convTx o = 1 ∧ s.fcAhead o 0 = s.f (R.CONV_STAT o) F.CONV_STAT_TX_B then
    let s := (s.setF (R.CONV_STAT o) F.CONV_STAT_TX_STATE 2).setF (R.TONE_CTL o) F.TONE_CTL_TONE_EN 0
    ((s.setAo o { s.ao o with oam4 := 0 }).halCut o true).halRefresh2 o
  else s

/-- BRIDGE_START (R223). -/
def execBridgeStart (o : Fin 16) (s : State) : Host.Outcome State Fault Refusal := .next (s.bridgeStart o)

/-- The end of a launch ramp, and of a retirement with it (R107, R223). -/
def State.rampEnds (s : State) (o l : Nat) : State :=
  let was := s.txState o l
  let s := s.rampEnd o l
  let s := if was ≠ 6 ∧ s.txState o l = 6 then s.txReached o l else s
  s.halRefresh2 o

/-- RAMP_END (R107). -/
def execRampEnd (o : Fin 16) (l : Fin 9) (s : State) : Host.Outcome State Fault Refusal := .next (s.rampEnds o l)

/-! ## LANE_RETIRE and LANE_RESTORE (R234, R235) -/

/-- Why a LANE_RETIRE is refused. -/
def State.laneRetireRefusal (s : State) (o l : Nat) (tx : Bool) : Option Nat :=
  if 16 ≤ o ∨ 9 ≤ l then some St.BAD_FIELD
  else if !s.octOn o then some St.DOMAIN_OFF
  else if tx then
    (if s.txRetired o l then some St.LANE_RETIRED
     else if 1 ≤ s.convTx o ∧ s.convTx o ≤ 3 then some St.CONV_BUSY else none)
  else if s.rxRetired o l then some St.LANE_RETIRED
  else if 1 ≤ s.convRx o ∧ s.convRx o ≤ 3 then some St.CONV_BUSY else none

/-- LANE_RETIRE at its tick (R220, R223, R230): it completes when the lane's retirement has been decided. -/
def State.laneRetireCmd (s : State) (c : Cmd) (o l : Nat) (tx : Bool) (reason : Nat) : State :=
  match s.laneRetireRefusal o l tx with
  | some e => s.refuse c Op.LANE_RETIRE e
  | none =>
    let c := { c with eff := s.tick }
    if tx then
      let s := s.setAo o { s.ao o with txCmd := some (c, reason) }
      if l = 8 then (s.lcTxRetire o).txCmdDone o 8 0
      else if s.convNak o = 0 then s.convSchedule o l 4
      else (s.txLose o l).txCmdDone o 5 0
    else
      let conv := decide (l < 8) && s.convPossible o
      let s := (s.setAo o { s.ao o with rxCmd := some (c, reason) }).rxCandidate o l 2
      if conv then s else s.rxCmdDone o l 0

/-- LANE_RETIRE (R235). -/
def execLaneRetire (cmd : Cmd) (octet lane dir reason : BitVec 8) (s : State) : Host.Outcome State Fault Refusal :=
  .next (if 2 ≤ dir.toNat then s.refuse cmd Op.LANE_RETIRE St.BAD_FIELD
    else s.laneRetireCmd cmd octet.toNat lane.toNat (dir.toNat == 1) reason.toNat)

/-- A client holds line slots on the octet, in either direction (R194). -/
def State.clientsHold (s : State) (o : Nat) : Bool :=
  s.map.defined.any fun c =>
    ((s.sinkOcts c).contains o && !((s.calBase o).slotsOf c).isEmpty)
      || (lineSrcE (s.ends c) && (s.routes c).any fun r => s.bound c r == some o)

/-- Every lane of the octet is dark and no client holds line slots on it (R194). -/
def State.octFree (s : State) (o : Nat) : Bool := s.octDark o && !s.clientsHold o

/-- The retirements of an octet direction are cleared, in both directions, with what followed from them (R234). -/
def State.octRestore (s : State) (o : Nat) : State :=
  let rx := lanes9.filter fun l => s.rxRetired o l
  let tx := lanes9.filter fun l => s.txRetired o l
  let s := s.setFs (R.RETIRE_STAT o) [(F.RETIRE_STAT_RX_RETIRED, 0), (F.RETIRE_STAT_TX_RETIRED, 0)]
  let s := s.setReg (R.CONV_STAT o) 0
  let s := s.setAo o { toneTicks := (s.ao o).toneTicks }
  let s := s.setB (R.ACQ_STAT o) F.ACQ_STAT_CLK_MODE (s.stdMode o)
  let s := s.each tx fun l s => if s.txState o l = 6 then s.setTxState o l 0 else s
  let s := s.each lanes9 fun l s => if s.fltState 0 o l = 3 then s.setFltState 0 o l 0 else s
  let s := s.each rx fun l s => (s.setAq o l {}).acqWait o l
  let s := (s.planDiscAll o).each lanes9 fun l s => s.setPl o l { s.pl o l with base := none }
  (((s.jrnEvent 4 o 0 0 0 0 0).dataLanes o).laneStates o).halRefresh2 o

/-- LANE_RESTORE at its tick (R234, R235). -/
def State.laneRestore (s : State) (c : Cmd) (o : Nat) : State :=
  if 16 ≤ o then s.refuse c Op.LANE_RESTORE St.BAD_FIELD
  else if !s.octOn o then s.refuse c Op.LANE_RESTORE St.DOMAIN_OFF
  else if !s.octFree o then s.refuse c Op.LANE_RESTORE St.WRONG_STATE
  else (s.octRestore o).ok c Op.LANE_RESTORE []

/-- LANE_RESTORE (R234). -/
def execLaneRestore (cmd : Cmd) (octet : BitVec 8) (s : State) : Host.Outcome State Fault Refusal :=
  .next (s.laneRestore cmd octet.toNat)

end Sys2Proof.Machine
end

