-- ==== Sys2Proof/Machine/Trim.lean ====
section
/-!
DEFINITION. Trim runs (R338 to R349): when a run starts, what its ticks do, and its end.  Captures measure signals that the model
does not hold, so every result is a free value (log entry 1).
-/

namespace Sys2Proof.Machine

/-! ## Starting a run (R341 to R343) -/

/-- A unit's temperature, in 0.01 °C (R500). -/
def State.trimTemp (s : State) (u : Nat) : Int :=
  if u < 16 then s.octTemp u
  else if u < 32 then s.i (R.THERM_SENS (8 * (1 + (u - 16) / 4) + 4 + u % 4)) F.THERM_SENS_TEMP
  else s.i (R.THERM_SENS 5) F.THERM_SENS_TEMP

/-- The temperature of the unit's last run and the difference that asks for another; none where the trigger is off. -/
def State.trimAsk (s : State) (u : Nat) : Option (Int × Nat) :=
  if u < 16 then
    (if s.b (R.TRIM_CTL u) F.TRIM_CTL_AUTO then
      some (s.i (R.TRIM_LAST u) F.TRIM_LAST_TEMP, 10 * s.f (R.TRIM_CTL u) F.TRIM_CTL_TRIM_DT) else none)
  else if u < 32 then
    let r := R.SG_TRIM_CTL (u - 16)
    (if s.b r F.SG_TRIM_CTL_AUTO then some ((s.tu u).temp, 10 * s.f r F.SG_TRIM_CTL_TRIM_DT) else none)
  else some (s.i (R.TRIM_HK (u - 32)) F.TRIM_HK_TEMP, 200)

/-- The temperature check of every 100 ticks (R341). -/
def State.trimTempCheck (s : State) (u : Nat) : State :=
  match s.trimAsk u with
  | some (t, d) => if s.tick % 100 = 0 ∧ d < (s.trimTemp u - t).natAbs then s.trimRequest u none else s
  | none => s

/-- TRIM_TEMP_CHECK (R341). -/
def execTrimTempCheck (u : Fin 34) (s : State) : Host.Outcome State Fault Refusal := .next (s.trimTempCheck u)

/-- TRIM_RUN at its tick (R363). -/
def State.trimRunCmd (s : State) (c : Cmd) (u : Nat) : State :=
  if 34 ≤ u then s.refuse c Op.TRIM_RUN St.BAD_FIELD
  else if (u < 16 ∧ s.octOn u = false) ∨ (16 ≤ u ∧ u < 32 ∧ s.sgOn (u - 16) = false) then s.refuse c Op.TRIM_RUN St.DOMAIN_OFF
  else s.trimRequest u (some { c with eff := s.tick })

/-- TRIM_RUN (R363). -/
def execTrimRun (cmd : Cmd) (target : BitVec 8) (s : State) : Host.Outcome State Fault Refusal :=
  .next (s.trimRunCmd cmd target.toNat)

/-- The transmit lanes that are LIT, as a mask. -/
def State.litMask (s : State) (o : Nat) : Nat := lanes9.foldl (fun n l => n + bit (s.txState o l == 3) * 2 ^ l) 0

/-- An admitted run starts once R342 allows it (R344); one that has lost its lanes meanwhile does not (R343). -/
def State.trimStart (s : State) (u : Nat) : State :=
  let x := s.tu u
  match x.admitted with
  | some a =>
    if a + 1 ≤ s.tick ∧ x.spaced s.tick = true then
      if !s.trimLanes u then
        let s := (s.setTu u { x with admitted := none, waiting := [] }).setTrimState u 0
        s.each x.waiting fun c s => s.refuse c Op.TRIM_RUN St.WRONG_STATE
      else
        let s := s.setTu u { x with
          admitted := none, start := some s.tick, row := 0, caps := 0, lost := 0, temp := s.trimTemp u, lit := s.litMask u
          seedWait := 0 }
        let s := s.setTrimState u 1
        if u < 16 then
          let s := s.each lanes9 fun l s => s.setF (R.TRIM_Q u l) F.TRIM_Q_LOST 0
          s.setFs (R.TRIM_STAT u) [(F.TRIM_STAT_CAPTURES, 0), (F.TRIM_STAT_LAST_ABORT, 0), (F.TRIM_STAT_CAUSE, 0)]
        else s
    else s
  | none => s

/-- TRIM_START (R344). -/
def execTrimStart (u : Fin 34) (s : State) : Host.Outcome State Fault Refusal := .next (s.trimStart u)

/-! ## The rows of an octet run (R344 to R346) -/

/-- An ITEMS bit of TRIM_CTL: 0 = ADC, 1 = PHASE, 2 = EQ, 3 = DAC. -/
def State.trimItem (s : State) (o k : Nat) : Bool := bitOf (s.f (R.TRIM_CTL o) F.TRIM_CTL_ITEMS) k

/-- Receive lanes and transmit lanes that a run works on. -/
def State.trimRx (s : State) (o : Nat) : List Nat := lanes9.filter fun l => s.rxLock o l && !bitOf (s.tu o).lost l
def State.trimTx (s : State) (o : Nat) : List Nat := lanes9.filter fun l => s.txState o l == 3 && !bitOf (s.tu o).lost l

/-- LC takes the means of the data lanes (R339). -/
def State.lcMeans (s : State) (o : Nat) : Bool := !s.stdMode o && !s.lcData o && !s.txBridged o

/-- The mean absolute difference of two lists of figures, in thousandths (R351). -/
def meanChange (a b : List Int) : Nat :=
  (roundDiv (1000 * ((a.zip b).map fun p => ((p.1 - p.2).natAbs : Int)).foldl (· + ·) 0) (max 1 a.length)).toNat

/-- The fields of ADC_CAL entries. -/
def calFields (ws : List Word) : List Int :=
  ws.flatMap fun w => [signedOf F.ADC_CAL_OFS.w (F.ADC_CAL_OFS.of w), signedOf F.ADC_CAL_GAIN.w (F.ADC_CAL_GAIN.of w),
    signedOf F.ADC_CAL_SKEW.w (F.ADC_CAL_SKEW.of w)]

/-- A run's interleave result is noted for the trim drift of its lane (R351). -/
def State.noteCal (s : State) (o l : Nat) (ws : List Word) : State :=
  let x := s.pl o l
  let d := if x.lastCal.isEmpty then [] else [(s.tick, meanChange (calFields x.lastCal) (calFields ws))]
  s.setPl o l { x with lastCal := ws, driftCal := x.driftCal ++ d }

/-- A run's level codes are noted for the trim drift of their lane (R351). -/
def State.noteLvl (s : State) (o l : Nat) (cs : List Nat) : State :=
  let x := s.pl o l
  let d := if x.lastLvl.isEmpty then []
    else [(s.tick, meanChange (x.lastLvl.map Int.ofNat) (cs.map Int.ofNat))]
  s.setPl o l { x with lastLvl := cs, driftLvl := x.driftLvl ++ d }

/-- A lane's interleave correction lands (R125): the loop makes no update at this edge, and goes on from it. -/
def State.trimAdc (s : State) (o l : Nat) : State :=
  let s := s.setRxl o l { s.rxl o l with adcTrim := true, bgTicks := some 0 }
  let s := s.each (List.range 64) fun k s =>
    ((s.freeF (R.ADC_CAL o l k) F.ADC_CAL_OFS).freeF (R.ADC_CAL o l k) F.ADC_CAL_GAIN).freeF (R.ADC_CAL o l k) F.ADC_CAL_SKEW
  s.noteCal o l ((List.range 64).map fun k => s.reg (R.ADC_CAL o l k))

/-- The level codes of a word, and a word of them. -/
def lvlCodes (w : Word) : List Nat :=
  [F.TX_DAC_LVL_LVL0.of w, F.TX_DAC_LVL_LVL1.of w, F.TX_DAC_LVL_LVL2.of w, F.TX_DAC_LVL_LVL3.of w]
def lvlWord (w : Word) (l : List Nat) : Word :=
  F.TX_DAC_LVL_LVL3.put (F.TX_DAC_LVL_LVL2.put (F.TX_DAC_LVL_LVL1.put (F.TX_DAC_LVL_LVL0.put w (l.getD 0 0)) (l.getD 1 0))
    (l.getD 2 0)) (l.getD 3 0)

/-- Codes rise strictly (R86). -/
def risingCodes (l : List Nat) : Bool :=
  decide (l.getD 0 0 < l.getD 1 0) && decide (l.getD 1 0 < l.getD 2 0) && decide (l.getD 2 0 < l.getD 3 0)

/-- A lane's level codes land: free, but never out of order (R86). -/
def State.trimDac (s : State) (o l : Nat) : State :=
  let (n, s) := s.draw (2 ^ 32)
  let cs := [n % 256, n / 2 ^ 8 % 256, n / 2 ^ 16 % 256, n / 2 ^ 24 % 256]
  let s := if risingCodes cs then s.setReg (R.TX_DAC_LVL o l) (lvlWord (s.reg (R.TX_DAC_LVL o l)) cs) else s
  s.noteLvl o l (lvlCodes (s.reg (R.TX_DAC_LVL o l)))

/-- The mean of a list of integers, rounded. -/
def meanOf (l : List Int) : Int := roundDiv (l.foldl (· + ·) 0) (max 1 l.length)

/-- LC's level codes are the means of the data lanes' (R339). -/
def State.trimDacLc (s : State) (o : Nat) (from' : List Nat) : State :=
  if from'.isEmpty then s
  else
    let col := fun i => (meanOf (from'.map fun l => (((lvlCodes (s.reg (R.TX_DAC_LVL o l))).getD i 0 : Nat) : Int))).toNat
    let s := s.setReg (R.TX_DAC_LVL o 8) (lvlWord (s.reg (R.TX_DAC_LVL o 8)) ((List.range 4).map col))
    s.noteLvl o 8 (lvlCodes (s.reg (R.TX_DAC_LVL o 8)))

/-- Results of captures 1 to 16 are applied (R338, R344). -/
def State.trimApply (s : State) (o : Nat) : State :=
  let s := if s.trimItem o 0 then s.each (s.trimRx o) fun l s => s.trimAdc o l else s
  let s := if s.trimItem o 1 && !s.stdMode o && !s.clkMode o then
      s.each ((s.trimRx o).filter (· < 8)) fun l s => s.freeF (R.RX_PI o l) F.RX_PI_TARGET
    else s
  if s.trimItem o 3 then
    let data := (s.trimTx o).filter fun l => decide (l < 8) || !s.lcMeans o
    let s := s.each data fun l s => s.trimDac o l
    if s.lcMeans o && (s.trimTx o).contains 8 then s.trimDacLc o data else s
  else s

/-- A lane's seed, the run's result (R338, R349): what the captures give is free. -/
def State.seedLane (s : State) (o l : Nat) : State :=
  let (c, s) := State.drawInts 48 s
  s.setRxl o l { s.rxl o l with seed := c.map (clampInt (-2048) 2047) }

/-- LC's seed is the mean of the data lanes' seeds, coefficient by coefficient (R339). -/
def State.seedLc (s : State) (o : Nat) (from' : List Nat) : State :=
  if from'.isEmpty then s
  else s.setRxl o 8 { s.rxl o 8 with
    seed := (List.range 48).map fun i => meanOf (from'.map fun l => (s.rxl o l).seed.getD i 0) }

/-- The seeds of a run, whether loaded or only reported (R339, R344). -/
def State.seedAll (s : State) (o : Nat) : State :=
  let data := (s.trimRx o).filter fun l => decide (l < 8) || !s.lcMeans o
  let s := s.each data fun l s => s.seedLane o l
  if s.lcMeans o && (s.trimRx o).contains 8 then s.seedLc o data else s

/-- The lanes that take a seed (R346): adaptation on, and the item set; LC holds its seed until its equaliser powers up (R120). -/
def State.seedLanes (s : State) (o : Nat) : Nat :=
  if s.trimItem o 2 then
    ((s.trimRx o).filter fun l => s.ffeOn o l).foldl (fun n l => n + bit (s.adapt o l == 1) * 2 ^ l) 0 else 0

/-- Seeds that wait are loaded on the lanes at which no swap is staged (R134, R346). -/
def State.seedTry (s : State) (o : Nat) : State :=
  let m := (s.tu o).seedWait
  if m = 0 then s
  else
    let go := lanes9.filter fun l => bitOf m l && !s.swapStaged o l
    let s := s.setTu o { s.tu o with seedWait := go.foldl (fun n l => withBit n l false) m }
    s.each go fun l s => s.seedLoad o l

/-- Rows until the results land, and until the run ends, in the octet's mode (R344). -/
def State.trimLand (s : State) (o : Nat) : Nat := if s.stdMode o then 64 else 16
def State.trimEnd (s : State) (u : Nat) : Nat :=
  if u < 16 then (if s.stdMode u then 98 else 26) else if u < 32 then 9 else 48

/-- Receive captures taken once `r` rows are over. -/
def State.trimCaps (s : State) (u r : Nat) : Nat :=
  if u < 16 then
    let m := if s.stdMode u then 4 else 1
    let land := s.trimLand u
    if r ≤ land then r / m else min 24 (16 + (r - land - 1) / m)
  else if u < 32 then min 8 r else r

/-- A transmit lane that has left LIT drops out (R348). -/
def State.trimLit (s : State) (o : Nat) : State :=
  let gone := lanes9.filter fun l => bitOf (s.tu o).lit l && (s.txState o l != 3 || s.patOn 0 o l) && !bitOf (s.tu o).lost l
  s.each gone fun l s => s.trimLose o l

/-- Targets of a slot run (R340, R347): the first run after TRAIN records the reference, later ones write targets. -/
def State.trimSlots (s : State) (g : Nat) : State :=
  s.each (List.range 16) fun i s =>
    if s.slState g i ≠ 4 ∨ bitOf (s.tu (16 + g)).lost i = true then s
    else
      let r := R.SG_TRIM_STAT g
      let refs := s.f r F.SG_TRIM_STAT_REF_VALID
      if !bitOf refs i then s.setF r F.SG_TRIM_STAT_REF_VALID (withBit refs i true)
      else if s.b (R.SG_TRIM_CTL g) F.SG_TRIM_CTL_APPLY then
        let e := R.SL_TXEQ g i
        (((s.freeF e F.SL_TXEQ_CM3_TGT).freeF e F.SL_TXEQ_CM2_TGT).freeF e F.SL_TXEQ_CM1_TGT).freeF e F.SL_TXEQ_CP1_TGT
      else s

/-- A converter's new offset lands (R347). -/
def State.trimHk (s : State) (h : Nat) : State :=
  (s.freeF (R.TRIM_HK h) F.TRIM_HK_OFS).setI (R.TRIM_HK h) F.TRIM_HK_TEMP (s.tu (32 + h)).temp

/-- What a tick edge does once row `r` of a run begins. -/
def State.trimRow (s : State) (u r : Nat) : State :=
  if u < 16 then
    let s := s.setF (R.TRIM_STAT u) F.TRIM_STAT_CAPTURES (s.tu u).caps
    if r = s.trimLand u then s.trimApply u
    else if r + 1 = s.trimEnd u then
      let s := s.seedAll u
      s.setTu u { s.tu u with seedWait := s.seedLanes u }
    else s
  else if u < 32 then (if r = 8 then s.trimSlots (u - 16) else s)
  else if r = 48 then s.trimHk (u - 32) else s

/-- The row in progress takes a receive capture (R344). -/
def State.capRow (s : State) (u r : Nat) : Bool := decide (u < 16) && r != s.trimLand u && decide (r + 2 < s.trimEnd u)

/-- A tick edge for one unit (R344, R345): the run moves to its next row, unless an overrun has deferred its slice, or a receive capture found
no window in the tick. -/
def State.trimTick (s : State) (noWindow : List Nat) (u : Nat) : State :=
  let s := if u < 16 then s.trimLit u else s
  let x := s.tu u
  let s := match x.start with
    | some t =>
      if t < s.tick ∧ x.row < s.trimEnd u ∧ u ∉ s.time.skipSlice ∧ (s.capRow u x.row && noWindow.contains u) = false then
        (s.setTu u { x with row := x.row + 1, caps := s.trimCaps u (x.row + 1) }).trimRow u (x.row + 1)
      else s
    | none => s
  if u < 16 then s.seedTry u else s

/-! ## The end of a run (R344, R347, R349) -/

/-- The quality figures of an octet's lanes (R349). -/
def State.trimQuality (s : State) (o : Nat) : State :=
  let s := s.each lanes9 fun l s =>
    let r := R.TRIM_Q o l
    if bitOf (s.tu o).lost l then s.setFs r [(F.TRIM_Q_LOST, 1), (F.TRIM_Q_VALID, 0)]
    else if s.rxLock o l then
      let (w, s) := s.draw 1001
      let s := (((s.setF r F.TRIM_Q_EYE_W w).freeF r F.TRIM_Q_EYE_H).freeF r F.TRIM_Q_MSE).freeF r F.TRIM_Q_SNR
      let s := s.setFs r [(F.TRIM_Q_VALID, 1), (F.TRIM_Q_LOST, 0)]
      if s.f r F.TRIM_Q_EYE_H < s.f (R.TRIM_CTL o) F.TRIM_CTL_EYE_H_MIN then s.event Ev.TRIM_LOW o l [] else s
    else s.setF r F.TRIM_Q_VALID 0
  s.each lanes9 fun l s =>
    let r := R.TRIM_TX o l
    if s.txState o l = 3 ∧ bitOf (s.tu o).lost l = false then
      let m := bit (decide (l = 8) && s.lcMeans o)
      (s.freeF r F.TRIM_TX_INL).setFs r [(F.TRIM_TX_VALID, 1), (F.TRIM_TX_SOURCE, m), (F.TRIM_TX_SEED_MEAN, m)]
    else s.setF r F.TRIM_TX_VALID 0

/-- A run has had all its rows: figures are posted, and the commands that wait complete. -/
def State.trimDone (s : State) (u : Nat) : State :=
  let x := s.tu u
  match x.start with
  | some t =>
    if x.row < s.trimEnd u then s
    else
      let s := if u < 16 then s.trimQuality u else s
      let s := s.trimComplete u St.OK 0 t
      let s := s.setTu u { s.tu u with start := none, last := some t, row := 0 }
      let s := { s.setTrimState u 0 with jrn.hourTrim := s.jrn.hourTrim + 1 }
      if u < 16 then
        let s := s.setFs (R.TRIM_LAST u) [(F.TRIM_LAST_TICK, t % 2 ^ 48), (F.TRIM_LAST_TEMP, patternOf 16 x.temp)]
        s.event Ev.TRIM_DONE u noLane []
      else if u < 32 then s.setF (R.SG_TRIM_STAT (u - 16)) F.SG_TRIM_STAT_LAST_TICK (t % 2 ^ 46)
      else s
  | none => s

/-- TRIM_DONE (R344). -/
def execTrimDone (u : Fin 34) (s : State) : Host.Outcome State Fault Refusal := .next (s.trimDone u)

end Sys2Proof.Machine
end

