-- ==== Sys2Proof/Machine/Plan.lean ====
section
/-!
DEFINITION. The Margin Planner (R351 to R359) and the ageing journal (R360 to R362).
-/

namespace Sys2Proof.Machine

/-! ## Margins (R354, R355) -/

/-- The planner works on an octet (R353). -/
def State.planOct (s : State) (o : Nat) : Bool :=
  let idle := fun v => v == 0 || v == 4 || v == 5
  s.octOn o && (s.tu o).start.isNone && idle (s.convRx o) && idle (s.convTx o)

/-- GUARD, and the SNR that an octet needs. -/
def State.planGuard (s : State) : Int := s.f R.PLAN_CTL F.PLAN_CTL_GUARD
def State.snrReq (s : State) (o : Nat) : Int :=
  if s.stdMode o then s.f R.PLAN_CTL F.PLAN_CTL_SNR_REQ_S else s.f R.PLAN_CTL F.PLAN_CTL_SNR_REQ_F

/-- A lane's margin follows the last second's outputs (R354), and its pre-FEC trend the SER outputs and the symbols corrected (R351). -/
def State.planMargin (s : State) (o l : Nat) : State :=
  let x := s.pl o l
  let x := { x with
    hser := x.hser + (if x.secN = 0 then 0 else (roundDiv x.secSer x.secN).toNat), hcorr := x.hcorr + x.secCorr, hsec := x.hsec + 1 }
  if 500 ≤ x.secN then
    let m := clampInt (-32768) 32767 (roundDiv x.secSum x.secN - s.snrReq o)
    (s.setPl o l { x with hsum := x.hsum + m, hn := x.hn + 1, noData := false }).setI (R.PLAN_LANE o l) F.PLAN_LANE_MARGIN m
  else s.setPl o l { x with noData := true }

/-- The hourly points that the fit uses (R355): those of the last WINDOW_H hours after the last discontinuity. -/
def State.planPoints (s : State) (x : PlanLane) : List (Nat × Int) :=
  x.hist.filter fun p => decide (x.disc < p.1) && decide (s.tick < p.1 + s.f R.PLAN_CTL2 F.PLAN_CTL2_WINDOW_H * 360000000)

/-- The least-squares slope of points one hour apart, in 0.01 dB per 1,000 h. -/
def slopeOf (pts : List (Nat × Int)) : Int :=
  let xs := pts.map fun p => (((p.1 / 360000000 : Nat) : Int), p.2)
  let n : Int := xs.length
  let sx := xs.foldl (fun a p => a + p.1) 0
  let sy := xs.foldl (fun a p => a + p.2) 0
  let sxy := xs.foldl (fun a p => a + p.1 * p.2) 0
  let sxx := xs.foldl (fun a p => a + p.1 * p.1) 0
  roundDiv (1000 * (n * sxy - sx * sy)) (n * sxx - sx * sx).toNat

/-- T_EX of a margin and a slope (R355). -/
def tExOf (m guard slope : Int) (valid : Bool) : Nat :=
  if m ≤ guard then 0
  else if valid ∧ slope < 0 then min 0xFFFFF ((m - guard) * 1000 / -slope).toNat else 0xFFFFF

/-- SLOPE, SLOPE_VALID and T_EX of a lane (R355, R362). -/
def State.planFit (s : State) (o l : Nat) : State :=
  let x := s.pl o l
  let pts := s.planPoints x
  let valid := decide (168 ≤ pts.length) && s.isOn domGDDR
  let r := R.PLAN_LANE o l
  let s := if valid then s.setI r F.PLAN_LANE_SLOPE (clampInt (-32768) 32767 (slopeOf pts)) else s
  let s := s.setB r F.PLAN_LANE_SLOPE_VALID valid
  s.setF r F.PLAN_LANE_T_EX (tExOf (s.i r F.PLAN_LANE_MARGIN) s.planGuard (s.i r F.PLAN_LANE_SLOPE) valid)

/-! ## Ageing sources (R351, R352) -/

/-- The wear monitors are measured (free), with the mean and the largest of each die. -/
def State.planWear (s : State) : State :=
  s.each (List.range 5) fun d s =>
    let s := s.each (List.range 64) fun m s => (s.freeF (R.AGE_WEAR d m) F.AGE_WEAR_DEG).setF (R.AGE_WEAR d m) F.AGE_WEAR_VALID 1
    let v := (List.range 64).map fun m => s.f (R.AGE_WEAR d m) F.AGE_WEAR_DEG
    let top := v.foldl max 0
    let mean := (roundDiv (v.foldl (· + ·) 0 : Nat) 64).toNat
    s.setFs (R.AGE_DIE d) [(F.AGE_DIE_MEAN, mean), (F.AGE_DIE_MAX, top), (F.AGE_DIE_MAX_MON, v.findIdx (· == top))]

/-- A run of the planner asks for the laser slope of each transmit lane of an octet whose readings are enabled (R351, R510). -/
def State.planLaser (s : State) (o l : Nat) : State := if s.b (R.ENG_MPD o) F.ENG_MPD_EN then s.mpdAsk o l else s

/-- The changes that a drift flag weighs (R351, log entry 141): those of the first week after the first, and those of the fit window. -/
def State.driftOver (s : State) (l : List (Nat × Nat)) : Bool :=
  match l with
  | [] => false
  | (t0, _) :: _ =>
    let sum := fun (x : List (Nat × Nat)) => x.foldl (fun n e => n + e.2) 0
    let first := l.filter fun e => decide (e.1 < t0 + 168 * 360000000)
    let win := l.filter fun e => decide (s.tick < e.1 + s.f R.PLAN_CTL2 F.PLAN_CTL2_WINDOW_H * 360000000)
    decide (4 * sum first * win.length < sum win * first.length)

/-- DRIFT of a lane: its ADC_CAL fields or its level codes change more than four times as fast as in the first week (R351). -/
def State.planDrift (s : State) (o l : Nat) : State :=
  s.setB (R.PLAN_LANE o l) F.PLAN_LANE_DRIFT (s.driftOver (s.pl o l).driftCal || s.driftOver (s.pl o l).driftLvl)

/-! ## The AGEING message (R356, R359) -/

/-- One lane's record. -/
def State.ageRecord (s : State) (o l : Nat) : List Byte :=
  let r := R.PLAN_LANE o l
  leBytes 2 (s.f r F.PLAN_LANE_MARGIN) ++ leBytes 2 (s.f r F.PLAN_LANE_SLOPE) ++ leBytes 3 (s.f r F.PLAN_LANE_T_EX)
    ++ leBytes 1 (s.f r F.PLAN_LANE_SLOPE_VALID + 2 * s.f r F.PLAN_LANE_TX_EXHAUSTED + 4 * s.f r F.PLAN_LANE_LASER_AGED
      + 8 * bit (s.pl o l).noData)
    ++ leBytes 1 (s.laneState o l) ++ leBytes 7 0

/-- The AGEING message of an octet. -/
def State.ageSend (s : State) (o : Nat) : State :=
  s.halFw o 0x40 3 (leBytes 2 (s.f (R.FRM_CTL o) F.FRM_CTL_TAG_TX) ++ leBytes 2 0 ++ leBytes 6 s.tick ++ leBytes 6 0
    ++ lanes9.flatMap fun l => s.ageRecord o l)

/-- An AGEING message from the partner is stored (R356). -/
def State.ageRx (s : State) (o : Nat) (p : List Byte) : State :=
  let num := fun a n => ofLeBytes ((p.drop a).take n)
  let recs := lanes9.map fun l =>
    let a := 16 + 16 * l
    (⟨signedOf 16 (num a 2), num (a + 4) 3, num (a + 7) 1⟩ : FarRec)
  { s with trim.far := Tab.set (fun _ => none) s.trim.far o (some (s.tick, recs)) }

/-- The partner's record of a lane, where it is not older than 10 s (R356). -/
def State.farRec (s : State) (o l : Nat) : Option FarRec :=
  match Tab.get (fun _ => none) s.trim.far o with
  | some (t, rs) => if s.tick ≤ t + 1000000 then rs[l]? else none
  | none => none

/-- LAUNCH records from the partner (R355, R358, R446): the end of each ramp is a discontinuity, and a lane that goes dark has its
manager disarmed. -/
def State.launchRx (s : State) (o : Nat) (p : List Byte) : State :=
  s.each (List.range (p.length / 16)) fun k s =>
    let num := fun a n => ofLeBytes ((p.drop (16 * k + a)).take n)
    let l := num 2 1
    if 9 ≤ l then s
    else
      let e := num 6 6 + (num 12 2 - 1)
      let e := s.tick - s.tick % 2 ^ 48 + e
      let x := s.pl o l
      let s := if e ≤ s.tick then s.setPl o l { x with disc := s.tick, hist := [] }
        else s.setPl o l { x with discNext := x.discNext ++ [e] }
      if num 4 1 = 0 then s.fltDisarm 0 o l else s

/-- At a tick edge: discontinuities whose tick has come, and the second's sums (R354, R355). -/
def State.planTick (s : State) (o l : Nat) : State :=
  let x := s.pl o l
  let x := if x.discNext.any fun t => decide (t ≤ s.tick) then
      { x with disc := s.tick, hist := [], discNext := x.discNext.filter fun t => !decide (t ≤ s.tick) }
    else x
  let x := if s.tickIdx = 50000 then
      { x with secSum := x.sum, secN := x.n, sum := 0, n := 0, secSer := x.ser, secCorr := x.corr, ser := 0, corr := 0 }
    else x
  s.setPl o l x

/-! ## Remedies (R357) -/

/-- A margin needs action. -/
def State.planNeed (s : State) (m : Int) (tEx : Nat) : Bool :=
  decide (m < s.planGuard) || decide (tEx < s.f R.PLAN_CTL F.PLAN_CTL_HORIZON_H)

/-- An action is shown, counted, posted and journalled. -/
def State.planAct (s : State) (o l dir act value : Nat) : State :=
  let s := s.setFs (R.PLAN_LANE2 o l) [(F.PLAN_LANE2_LAST_ACTION, act), (F.PLAN_LANE2_ACTION_TICK, s.tick % 2 ^ 48)]
  let s := (s.incF R.PLAN_STAT F.PLAN_STAT_ACTION_CNT 1).setPl o l { s.pl o l with actRun := some s.trim.runs }
  (s.event Ev.PLAN_ACTION o l []).jrnEvent 5 o l dir act value 0

/-- A step is requested 200 ticks from now. -/
def State.planStep (s : State) (o l k : Nat) : State :=
  { s with trim.planQ := s.trim.planQ ++ [(s.tick + 200, o, l, k)] }

/-- The transmit remedies of a lane; the answer says whether an action was taken. -/
def State.planTx (s : State) (o l : Nat) : State × Bool :=
  let waits := (s.txl o l).pend.isSome || s.trim.planQ.any fun q => q.2.1 == o && q.2.2.1 == l
  match s.farRec o l with
  | some r =>
    if s.planNeed r.margin r.tEx && !bitOf r.flags 3 && s.b (R.TX_LANE_CTL o l) F.TX_LANE_CTL_PLAN_EN
        && s.txState o l == 3 && !waits then
      let k := s.f (R.TX_LANE_STAT o l) F.TX_LANE_STAT_CUR_STEP
      let sw := s.f (R.LAUNCH o l k) F.LAUNCH_SWING
      if k < s.f (R.PLAN_OCT_CTL o) F.PLAN_OCT_CTL_MAX_STEP ∧ s.reg (R.LAUNCH o l (k + 1)) ≠ 0
          ∧ s.b (R.PLAN_LANE o l) F.PLAN_LANE_LASER_AGED = false then
        ((s.planStep o l (k + 1)).planAct o l 1 1 (k + 1), true)
      else if sw < 127 then
        let sw := min 127 (sw + 4)
        (((s.setF (R.LAUNCH o l k) F.LAUNCH_SWING sw).planStep o l k).planAct o l 1 2 sw, true)
      else (s.setF (R.PLAN_LANE o l) F.PLAN_LANE_TX_EXHAUSTED 1, false)
    else (s, false)
  | none => (s, false)

/-- The receive remedies of a lane. -/
def State.planRx (s : State) (o l : Nat) : State :=
  let r := R.PLAN_LANE o l
  let m := s.i r F.PLAN_LANE_MARGIN
  let t := s.f r F.PLAN_LANE_T_EX
  let c := R.PLAN_OCT_CTL o
  let len := s.f (R.FFE_CTL o l) F.FFE_CTL_LEN
  if (s.pl o l).noData then s
  else if s.planNeed m t && s.b r F.PLAN_LANE_FAR_EXHAUSTED then
    if s.b c F.PLAN_OCT_CTL_LEN_EN ∧ 0 < len then
      (s.setF (R.FFE_CTL o l) F.FFE_CTL_LEN (len - 1)).planAct o l 0 3 (len - 1)
    else if t < s.f R.PLAN_CTL F.PLAN_CTL_RETIRE_H ∧ s.b c F.PLAN_OCT_CTL_RETIRE_EN = true then
      if s.convPossible o && decide (l < 8) then (s.rxCandidate o l 3).planAct o l 0 5 0
      else (s.event Ev.PLAN_ALERT o l []).planAct o l 0 6 0
    else s
  else
    let old := match (s.pl o l).shortRun with | some n => decide (n + 86400 ≤ s.trim.runs) | none => true
    if s.b c F.PLAN_OCT_CTL_SHORTEN_EN ∧ s.planGuard + 10 * s.f R.PLAN_CTL2 F.PLAN_CTL2_SHORTEN_DB ≤ m ∧ t = 0xFFFFF ∧ len < 3
        ∧ old = true then
      let s := s.setPl o l { s.pl o l with shortRun := some s.trim.runs }
      (s.setF (R.FFE_CTL o l) F.FFE_CTL_LEN (len + 1)).planAct o l 0 4 (len + 1)
    else s

/-- The plan of one lane: at most one action, and none for 3,600 runs after one. -/
def State.planLane (s : State) (o l : Nat) : State :=
  let far := s.farRec o l
  let s := s.setB (R.PLAN_LANE o l) F.PLAN_LANE_FAR_EXHAUSTED (match far with | some r => bitOf r.flags 1 | none => true)
  let held := match (s.pl o l).actRun with | some n => decide (s.trim.runs ≤ n + 3600) | none => false
  if held then s
  else
    let (s, done) := s.planTx o l
    if done || s.rxRetired o l then s else s.planRx o l

/-- One octet of a run. -/
def State.planOctet (s : State) (o : Nat) : State :=
  let s := s.each lanes9 fun l s => (((s.planLaser o l).planMargin o l).planFit o l).planDrift o l
  let s := s.ageSend o
  s.each lanes9 fun l s => s.planLane o l

/-- The planner runs once a second, from TICK_IDX 50,000 on (R353). -/
def State.plannerRun (s : State) : State :=
  let due := !s.time.planHeld && decide (50000 ≤ s.tickIdx) && (match s.trim.lastRun with | some t => decide (t / 100000 ≠ s.tick / 100000) | none => true)
  if s.b R.PLAN_CTL F.PLAN_CTL_EN && due then
    let s := { s with trim.runs := s.trim.runs + 1, trim.lastRun := some s.tick }.planWear
    let s := s.each (List.range 16) fun o s => if s.planOct o then s.planOctet o else s
    s.setF R.PLAN_STAT F.PLAN_STAT_LAST_TICK (s.tick % 2 ^ 48)
  else s

/-- PLANNER_RUN (R353). -/
def execPlannerRun (s : State) : Host.Outcome State Fault Refusal := .next s.plannerRun

/-- The planner's step requests take effect at their ticks (R357). -/
def State.planSteps (s : State) : State :=
  let now := s.trim.planQ.filter fun q => decide (q.1 ≤ s.tick)
  let s := { s with trim.planQ := s.trim.planQ.filter fun q => !decide (q.1 ≤ s.tick) }
  s.each now fun q s =>
    if s.txState q.2.1 q.2.2.1 = 0 then s else s.launchSelf q.2.1 q.2.2.1 .step q.2.2.2 .planner

/-! ## The ageing journal (R360 to R362) -/

/-- A margin in 0.1 dB, from 0 to 25.4. -/
def tenthDb (v : Int) : Nat := (clampInt 0 254 (roundDiv v 10)).toNat

/-- The mean of a lane's margins over the hour; none where it had none. -/
def PlanLane.hourMean (x : PlanLane) : Option Int := if x.hn = 0 then none else some (roundDiv x.hsum x.hn)

/-- The body of an HOURLY entry (R360). -/
def State.hourlyBody (s : State) : List Byte :=
  let lane := fun n => match (s.pl (n / 9) (n % 9)).hourMean with
    | some m => if s.laneState (n / 9) (n % 9) = 2 ∨ s.laneState (n / 9) (n % 9) = 7 then tenthDb m else 0xFF
    | none => 0xFF
  (List.range 144).flatMap (fun n => leBytes 1 (lane n))
    ++ (List.range 5).flatMap (fun d => leBytes 3 (s.f (R.AGE_DIE d) F.AGE_DIE_MEAN) ++ leBytes 3 (s.f (R.AGE_DIE d) F.AGE_DIE_MAX)
      ++ leBytes 1 (s.f (R.AGE_DIE d) F.AGE_DIE_MAX_MON) ++ leBytes 1 0)
    ++ (List.range 5).flatMap (fun d => leBytes 2 (patternOf 16 (Tab.get (fun _ => 0) s.jrn.hourTemp d)))
    ++ leBytes 4 s.jrn.hourRetire ++ leBytes 4 s.jrn.hourConv ++ leBytes 4 s.jrn.hourReef ++ leBytes 4 s.jrn.hourTrim

/-- The hour's margins become points of the fit, and its trend hourly means, at most 8,760 of each (R351, R354). -/
def State.hourPoint (s : State) (o l : Nat) : State :=
  let x := s.pl o l
  let hist := match x.hourMean with | some m => ((s.tick, m) :: x.hist).take 8760 | none => x.hist
  let trend := if x.hsec = 0 then x.trend
    else ((s.tick, (roundDiv x.hser x.hsec).toNat, (roundDiv x.hcorr x.hsec).toNat) :: x.trend).take 8760
  s.setPl o l { x with hist := hist, hsum := 0, hn := 0, trend := trend, hser := 0, hcorr := 0, hsec := 0 }

/-- The hour's HK0/HK1 differences (R351): HK_DRIFT once a mean has moved by more than half of the tolerance. -/
def State.hourHk (s : State) : State :=
  let half := s.f R.HK_PLAUS_CTL F.HK_PLAUS_CTL_TOL
  let s := s.each s.jrn.hkSum fun e s =>
    let (k, n, sum) := e
    if n = 0 then s
    else
      let m := roundDiv sum n
      match Tab.get (fun _ => none) s.jrn.hkBase k with
      | none => { s with jrn.hkBase := Tab.set (fun _ => none) s.jrn.hkBase k (some m) }
      | some b =>
        if half < 2 * (m - b).natAbs ∧ s.jrn.hkDrift = false then
          { s with jrn.hkDrift := true }.event Ev.HK_DRIFT noObj noLane [k]
        else s
  { s with jrn.hkSum := [] }

/-- The HOURLY entry, due from each multiple of 360,000,000 ticks on (R360); deferred work runs a tick later (R55). -/
def State.jrnHourly (s : State) : State :=
  if s.jrn.hourDue && !s.time.planHeld then
    let s := { s with jrn.hourDue := false }.jrnAdd 1 s.hourlyBody
    let s := s.each (pairsOf (List.range 16) 9) fun p s => s.hourPoint p.1 p.2
    let s := s.hourHk
    { s with jrn.hourRetire := 0, jrn.hourConv := 0, jrn.hourReef := 0, jrn.hourTrim := 0, jrn.hourTemp := [] }
  else s

/-- JRN_HOURLY (R360). -/
def execJrnHourly (s : State) : Host.Outcome State Fault Refusal := .next s.jrnHourly

/-- The first entry that waits is written to flash; the third failure drops it (R361). -/
def State.jrnFlash (s : State) (ok : Bool) : State :=
  match s.jrn.flashQ with
  | e :: q =>
    if ok then { s with jrn.flashQ := q, jrn.tries := 0, jrn.flash := jrnRoom 196608 s.jrn.flash ++ [e] }
    else if s.jrn.tries < 2 then { s with jrn.tries := s.jrn.tries + 1 }
    else ({ s with jrn.flashQ := q, jrn.tries := 0 }.incF R.JRN_CNT F.JRN_CNT_FLASH_FAIL 1).event Ev.JRN_FAIL noObj noLane []
  | [] => s

/-- JRN_FLASH_WRITE (R361). -/
def execJrnFlashWrite (ok : Bool) (s : State) : Host.Outcome State Fault Refusal := .next (s.jrnFlash ok)

/-- SEQ of an entry. -/
def jrnSeq (e : List Byte) : Nat := ofLeBytes ((e.drop 4).take 4)

/-- JRN_READ at its tick (R363): entries of a region from a SEQ on are written to host memory; an entry that a lost channel held is reloaded from
flash (R296, R453). -/
def State.jrnRead (s : State) (c : Cmd) (region seq count addr : Nat) : State :=
  if 2 ≤ region ∨ count = 0 ∨ 4096 < count ∨ addr % 64 ≠ 0 then s.refuse c Op.JRN_READ St.BAD_FIELD
  else if !s.b R.JRN_STAT F.JRN_STAT_READY then s.refuse c Op.JRN_READ St.WRONG_STATE
  else if !s.isOn domGDDR then s.refuse c Op.JRN_READ St.DOMAIN_OFF
  else
    let es := ((if region = 0 then s.jrn.own else s.jrn.partner).filter fun e => decide (seq ≤ jrnSeq e)).take count
    let s := if es.isEmpty then s else s.dma addr es.flatten
    s.ok c Op.JRN_READ [(32, 2, es.length), (36, 4, match es with | e :: _ => jrnSeq e | [] => 0)]

/-- JRN_READ (R363). -/
def execJrnRead (cmd : Cmd) (region : BitVec 8) (seq : BitVec 32) (count : BitVec 16) (addr : BitVec 64) (s : State) :
    Host.Outcome State Fault Refusal := .next (s.jrnRead cmd region.toNat seq.toNat count.toNat addr.toNat)

end Sys2Proof.Machine
end

