-- ==== Sys2Proof/Machine/HalyRx.lean ====
section
/-!
DEFINITION. A received Halyard message (R310 to R333): qualification, hearing, repeats and jumps, two-way time transfer, and what
each type of message does.
-/

namespace Sys2Proof.Machine

/-! ## Conversion messages (R221 to R231) -/

/-- A conversion message: `f` is its FC. -/
def State.convMessage (s : State) (o typ l f : Nat) : State :=
  let tx := fun a b => (s.convTx o = a ∨ s.convTx o = b) ∧ s.convTxLane o = l
  let rx := s.convRxLane o = l
  if typ = 0x10 then
    (if tx 1 2 then s
     else
      let cause := if 8 ≤ l ∨ s.txRetired o l = true then max 2 (s.convNak o) else s.convNak o
      if cause = 0 then s.convSchedule o l 2 else s.halConv o 0x12 l cause 0)
  else if typ = 0x11 then
    (if rx ∧ s.convRx o = 1 then (s.setAo o { s.ao o with rxB := some f }).setF (R.CONV_STAT o) F.CONV_STAT_RX_STATE 2
     else if rx ∧ s.convRx o = 3 then s.setAo o { s.ao o with rxB := some f } else s)
  else if typ = 0x12 then (if rx ∧ s.convRx o = 1 then s.convFail o else s)
  else if typ = 0x13 then (if tx 2 2 then s.convRetiring o else s)
  else if typ = 0x14 then (if tx 2 2 then s.convTxFail o else s)
  else if l = 8 then (if s.txRetired o 8 then s else s.lcTxRetire o)
  else if tx 1 2 then s.convTxFail o
  else if 8 < l ∨ s.txRetired o l = true then s else s.txLose o l

/-! ## Beacons and two-way time transfer (R320, R321, R330) -/

/-- A timestamp as a count of 2^-16 ns. -/
def tsUnits (v : Nat) : Int := (((v / 2 ^ 48) * 1000000000 + v / 2 ^ 16 % 2 ^ 32) * 2 ^ 16 + v % 2 ^ 16 : Nat)

/-- The offset and the delay of an exchange, where both of its beacons are known (R330). -/
def State.twoWay (s : State) (o p : Nat) (b : List Byte) : State :=
  let x := if p = 0 then (s.hal o).sub else (s.hal o).rel
  let num := fun a n => ofLeBytes ((b.drop a).take n)
  let d := s.f (R.HALY_CTL o) F.HALY_CTL_TT_DOM
  match x.sentB.find? fun e => e.1 == num 30 2, x.rcvB.find? fun e => e.1 == num 4 2 with
  | some a, some b' =>
    let t1 := tsUnits (if d = 0 then a.2.1 else a.2.2)
    let t2 := tsUnits (num (if d = 0 then 32 else 44) 12)
    let t3 := tsUnits (num (if d = 0 then 6 else 18) 12)
    let t4 := tsUnits (if d = 0 then b'.2.1 else b'.2.2)
    let s := s.setReg (R.HALY_TT_OFFSET o) (BitVec.ofInt 64 (roundDiv ((t2 - t1) - (t4 - t3)) 2))
    let s := s.setReg (R.HALY_TT_DELAY o) (BitVec.ofInt 64 (roundDiv ((t2 - t1) + (t4 - t3)) 2))
    s.setFs (R.HALY_TT_STAT o) [(F.HALY_TT_STAT_TICK, s.tick % 2 ^ 48), (F.HALY_TT_STAT_DOM, d), (F.HALY_TT_STAT_VALID, 1),
      (F.HALY_TT_STAT_PATH, p)]
  | _, _ => s

/-- The partner's flags set or clear the FAR_ flags (R321). -/
def State.farFlags (s : State) (o fl : Nat) : State :=
  let h := s.hal o
  let t := fun k => if bitOf fl k then some s.tick else none
  let s := s.setHal o { h with sub := { h.sub with far := t 0 }, rel := { h.rel with far := t 1 } }
  s.setFs (R.HALY_STAT o) [(fFAR 0, bit (bitOf fl 0)), (fFAR 1, bit (bitOf fl 1))]

/-- A path notes a beacon received from the partner, once for each ALIVE value (R320). -/
def State.noteRx (s : State) (o p alive tsA tsB : Nat) : State :=
  let h := s.hal o
  let add := fun (x : HalyPath) =>
    if x.rcvB.any fun e => e.1 == alive then x else { x with rcvB := ((alive, tsA, tsB) :: x.rcvB).take 16 }
  s.setHal o (if p = 0 then { h with sub := add h.sub } else { h with rel := add h.rel })

/-- A beacon from the partner, with its receive timestamps. -/
def State.beaconRx (s : State) (o p alive tsA tsB : Nat) (b : List Byte) : State :=
  let s := (s.twoWay o p b).farFlags o (ofLeBytes ((b.drop 2).take 1))
  (s.noteRx o p alive tsA tsB).halRefresh2 o

/-! ## Types (R311, R312) -/

/-- The message type is one of R311, with the length that its rule gives. -/
def typeOk (typ len : Nat) : Bool :=
  if typ = 0x01 then len == 64
  else if 0x10 ≤ typ ∧ typ ≤ 0x15 then len == 16
  else if typ = 0x20 then len == 264
  else if typ = 0x21 then len == 8
  else if typ = 0x30 then decide (0 < len) && decide (len ≤ 256) && len % 16 == 0
  else if typ = 0x40 then decide (160 ≤ len)
  else typ == 0x80

/-- The OCTET_TAG check of R312: REEF and HOST messages carry no tag. -/
def State.tagOk (s : State) (o typ : Nat) (b : List Byte) : Bool :=
  typ == 0x21 || typ == 0x80 || !s.b (R.FRM_CTL o) F.FRM_CTL_TAG_CHK
    || ofLeBytes (b.take 2) == s.f (R.FRM_CTL o) F.FRM_CTL_TAG_EXP

/-- What an accepted firmware message does. -/
def State.fwMessage (s : State) (o p hdr tsA tsB : Nat) (partner : Bool) (b : List Byte) : State :=
  let typ := hdrType hdr
  let num := fun a n => ofLeBytes ((b.drop a).take n)
  if typ = 0x01 then (if partner then s.beaconRx o p (hdrAlive hdr) tsA tsB b else s)
  else if 0x10 ≤ typ ∧ typ ≤ 0x15 then s.convMessage o typ (num 2 1) (num 4 6)
  else if typ = 0x20 then
    (if num 3 1 % 2 = 1 ∧ s.stdMode o = false then
      s.calCopyRx o (num 2 1) (num 4 2) ((List.range 128).map fun k => (k, calTag (num (8 + 2 * k) 2)))
     else s)
  else if typ = 0x30 then s.launchRx o b
  else if typ = 0x40 then s.ageRx o b
  else s

/-! ## Reception -/

/-- A message from the partner marks its path as heard (R321). -/
def State.halHeard (s : State) (o p : Nat) : State :=
  let h := s.hal o
  let s := s.setHal o (if p = 0 then { h with sub := { h.sub with heard := some s.tick } }
    else { h with rel := { h.rel with heard := some s.tick } })
  s.setB (R.HALY_STAT o) (fHEARD p) true

/-- A qualified message moves the frequency estimate an eighth of the way to the new one (R316), and shows LEVEL (R315). -/
def State.halFreq (s : State) (o : Nat) (fest : Int) (partner : Bool) : State :=
  let s := s.setI (R.HALY_RX_LVL o) F.HALY_RX_LVL_LEVEL (clampInt (-32768) 32767 (s.hal o).rxLevel)
  if partner || !s.halShared o then
    let f := s.i (R.HALY_RX_LVL o) F.HALY_RX_LVL_FOFS
    s.setI (R.HALY_RX_LVL o) F.HALY_RX_LVL_FOFS (clampInt (-(2 ^ 31)) (2 ^ 31 - 1) (f + roundDiv (fest - f) 8))
  else s

/-- A qualified message (R310 to R312, R332). -/
def State.halMessage (s : State) (o p hdr pos tsA tsB : Nat) (fest : Int) (b : List Byte) : State :=
  let src := hdrSrc hdr
  let alive := hdrAlive hdr
  let partner := !s.halShared o || src == s.f (R.HALY_SHARE o) F.HALY_SHARE_PARTNER
  let s := s.perf 0xB07 1
  let s := if p = 0 then s.halFreq o fest partner else s
  let s := if partner then s.halHeard o p else s
  let seen := Tab.get (fun _ => []) (s.hal o).seen src
  if seen.contains alive then
    let s := if hdrType hdr = 1 ∧ partner = true then s.noteRx o p alive tsA tsB else s
    s.incF (R.HALY_CNT2 o) F.HALY_CNT2_REPEAT_CNT 1
  else
    let jump := match seen with | a :: _ => decide (alive ≠ (a + 1) % 65536) | [] => false
    let s := if jump then s.incF (R.HALY_CNT2 o) F.HALY_CNT2_JUMP_CNT 1 else s
    let s := s.setHal o { s.hal o with seen := Tab.set (fun _ => []) (s.hal o).seen src ((alive :: seen).take 16) }
    let dst := hdrDst hdr
    if dst ≠ 15 ∧ dst ≠ s.f (R.HALY_SHARE o) F.HALY_SHARE_STATION then s
    else
      let typ := hdrType hdr
      if !typeOk typ b.length || !s.tagOk o typ b then s.incF (R.HALY_CNT2 o) F.HALY_CNT2_DISCARD_CNT 1
      else
        let s := s.incF (R.HALY_CNT o) F.HALY_CNT_RX_OK 1
        let s := s.fwMessage o p hdr tsA tsB partner b
        if typ = 0x80 ∨ s.b (R.HALY_CTL o) F.HALY_CTL_FW_COPY = true then s.halDeliver o p hdr pos b tsA tsB false jump else s

/-- The last CRC bit of a message has been decoded (R309, R313, R326).  On SUB the receiver is in PAYLOAD with this header; on REL
the header is checked here, and `cyc` is the cycle of the timestamp point (R317). -/
def State.halRxEnd (s : State) (o p hdr pos crc cyc : Nat) (fest : Int) (above : Bool) (b : List Byte) : State :=
  let good := decide (crc = crc32 (leBytes 8 hdr ++ b))
  if !s.halServes o || hdrLen hdr != b.length then s
  else if p = 0 then
    if s.halRx o = 3 ∧ hdr = (s.hal o).rxHdr then
      let tsA := (s.hal o).rxTsA
      let tsB := (s.hal o).rxTsB
      let s := (s.setHalRx o (if above then 1 else 0)).chkFrame 5 good
      if good then s.halMessage o 0 hdr 0 tsA tsB fest b else s.incF (R.HALY_CNT o) F.HALY_CNT_CRC_FAIL 1
    else s
  else if s.stdMode o || s.halShared o then s
  else if !hdrOk hdr then s.chkFrame 6 false
  else if hdrReserved hdr then (s.chkFrame 6 true).incF (R.HALY_CNT2 o) F.HALY_CNT2_DISCARD_CNT 1
  else if good then (((s.chkFrame 6 true).chkFrame 5 true).halMessage o 1 hdr pos (ts96 (s.cntAt 0 cyc)) (ts96 (s.cntAt 1 cyc)) fest b).halRefresh2 o
  else ((s.chkFrame 6 true).chkFrame 5 false).incF (R.HALY_CNT o) F.HALY_CNT_CRC_FAIL 1

/-- A message qualified: the oldest that the relay brought, where it brought one, is handled on REL; otherwise the message that the operands
give (R310, R326). -/
def State.halMsgRx (s : State) (o p hdr pos crc cyc : Nat) (fest : Int) (above : Bool) (b : List Byte) : State :=
  match p, (s.hal o).relGot with
  | 1, (hdr, pos, tsA, tsB, b) :: l =>
    let s := s.setHal o { s.hal o with relGot := l }
    if s.halServes o then (s.halMessage o 1 hdr pos tsA tsB fest b).halRefresh2 o else s
  | _, _ => s.halRxEnd o p hdr pos crc cyc fest above b

/-- HALY_MESSAGE_RX (R310). -/
def execHalyMessageRx (o : Fin 16) (path : Fin 2) (hdr : BitVec 64) (payload : List Byte) (crc : BitVec 32) (cyc : Fin 6250)
    (pos : Nat) (fest : Int) (above : Bool) (s : State) : Host.Outcome State Fault Refusal :=
  .next (s.halMsgRx o path hdr.toNat pos crc.toNat cyc fest above payload)

end Sys2Proof.Machine
end

