-- ==== Sys2Proof/Machine/Slots.lean ====
section
/-!
DEFINITION. Slot lanes (R240 to R249): the PHY state table, training and negotiation, faults of slot PHYs, and SL_RETRAIN.
-/

namespace Sys2Proof.Machine

/-! ## PHYs -/

/-- Fields of a slot lane's set-up. -/
def State.slF (s : State) (g i : Nat) (x : Fld) : Nat := s.f (R.SL_CTL g i) x

/-- The start lane of the PHY of a slot lane. -/
def State.phyHead (s : State) (g i : Nat) : Nat := (s.phy g i).headD i

/-- The lanes of a PHY agree, and a constant-bit-rate PHY has one lane (R241). -/
def State.phyAgrees (s : State) (g i : Nat) : Bool :=
  let ls := s.phy g i
  let a := s.phyHead g i
  (ls.all fun k => s.slF g k F.SL_CTL_RATE == s.slF g a F.SL_CTL_RATE && s.slF g k F.SL_CTL_FEC == s.slF g a F.SL_CTL_FEC
    && s.slF g k F.SL_CTL_CBR == s.slF g a F.SL_CTL_CBR)
    && (s.slF g a F.SL_CTL_CBR == 0 || ls.length == 1)

/-- The PHY is permanently failed (R450). -/
def State.phyFailed (s : State) (g i : Nat) : Bool := (s.phy g i).any fun k => s.fltState 1 g k == 3

/-- The PHY may leave OFF (R245). -/
def State.phyRuns (s : State) (g i : Nat) : Bool :=
  s.sgOn g && s.phyAgrees g i && !s.phyFailed g i && (s.phy g i).all fun k => s.slF g k F.SL_CTL_EN == 1 && !s.patOn 1 g k

/-- The state that a PHY takes from OFF: 1 = AN, 2 = TRAIN, 3 = ACQ. -/
def State.phyEntry (s : State) (g i : Nat) : Nat :=
  let a := s.phyHead g i
  if s.slF g a F.SL_CTL_CBR = 1 then 3
  else if s.slF g a F.SL_CTL_AN_EN = 1 then 1
  else if s.slF g a F.SL_CTL_LT_EN = 1 then 2 else 3

/-- Hidden state of a slot lane. -/
def State.slo (s : State) (g i : Nat) : SlotLane := Tab.get (fun _ => {}) s.map.lane (16 * g + i)

/-- The state with a slot lane's hidden state replaced. -/
def State.setSlo (s : State) (g i : Nat) (x : SlotLane) : State :=
  { s with map.lane := Tab.set (fun _ => {}) s.map.lane (16 * g + i) x }

/-- A lane's LOCK as its PHY takes state `v` (R245): every lane has lock in UP; in ACQ a lane keeps the lock it has; elsewhere there is none. -/
def State.lockIn (s : State) (g k v : Nat) : Nat :=
  if v = 4 then 1 else if v = 3 ∧ s.b (R.SL_STAT g k) F.SL_STAT_RAW_LOS = false then s.f (R.SL_STAT g k) F.SL_STAT_LOCK else 0

/-- Every lane of a PHY shows a state; TRAIN forgets the lane's trim reference (R340). -/
def State.setPhy (s : State) (g i v : Nat) : State :=
  s.each (s.phy g i) fun k s =>
    let s := s.setFs (R.SL_STAT g k) [(F.SL_STAT_STATE, v), (F.SL_STAT_LOCK, s.lockIn g k v)]
    let s := s.setSlo g k { s.slo g k with since := s.tick, anTicks := 0 }
    if v = 2 then
      s.setF (R.SG_TRIM_STAT g) F.SG_TRIM_STAT_REF_VALID (withBit (s.f (R.SG_TRIM_STAT g) F.SG_TRIM_STAT_REF_VALID) k false)
    else s

/-- A lane of a slot run drops out (R340). -/
def State.slotLose (s : State) (g k : Nat) : State :=
  if (s.tu (16 + g)).start.isSome then s.setTu (16 + g) { s.tu (16 + g) with lost := withBit (s.tu (16 + g)).lost k true } else s

/-- A PHY leaves UP for another state: SL_DOWN and DOWN_CNT (R245). -/
def State.phyLeave (s : State) (g i v : Nat) : State :=
  if s.slState g i = 4 then
    let s := s.each (s.phy g i) fun k s => (s.incF (R.SL_CNT g k) F.SL_CNT_DOWN_CNT 1).slotLose g k
    (s.setPhy g i v).event Ev.SL_DOWN g (s.phyHead g i) []
  else s.setPhy g i v

/-- A tap in force moves toward its target by at most one unit (R243). -/
def moveTap (tgt cur : Nat) : Nat :=
  let a := signedOf 6 tgt
  let b := signedOf 6 cur
  patternOf 6 (if b < a then b + 1 else if a < b then b - 1 else b)

/-- The transmit taps that a rate has, as places in CUR with their target fields (R243): at RATE 0 and 1 there are no c(−3) and c(−2), whose
targets are ignored (R270). -/
def tapsAt (rate : Nat) : List (Nat × Fld) :=
  (if rate < 2 then [] else [(0, F.SL_TXEQ_CM3_TGT), (1, F.SL_TXEQ_CM2_TGT)]) ++ [(2, F.SL_TXEQ_CM1_TGT), (3, F.SL_TXEQ_CP1_TGT)]

/-- One tap of CUR. -/
def curTap (k : Nat) : Fld := ⟨24 + 6 * k, 6⟩

/-- The taps in force move toward their targets, one unit each; once they have moved so, they are no longer those that link training set (R243,
R270; log entry 137). -/
def State.tapStep (s : State) (g i : Nat) : State :=
  let r := R.SL_TXEQ g i
  let old := s.f r F.SL_TXEQ_CUR
  let s := s.each (tapsAt (s.slF g i F.SL_CTL_RATE)) fun t s => s.setF r (curTap t.1) (moveTap (s.f r t.2) (s.f r (curTap t.1)))
  if s.f r F.SL_TXEQ_CUR = old then s else s.setF r F.SL_TXEQ_TRAINED 0

/-- Link training: the partner's requests (free) set the taps in force, and the targets follow (R243). -/
def State.tapTrain (s : State) (g i : Nat) : State :=
  let r := R.SL_TXEQ g i
  let s := s.each (tapsAt (s.slF g i F.SL_CTL_RATE)) fun t s =>
    let s := s.freeF r (curTap t.1)
    s.setF r t.2 (s.f r (curTap t.1))
  s.setF r F.SL_TXEQ_TRAINED 1

/-- A lane in ACQ reaches lock, another lane of its PHY still lacking it; without a signal it has none (R245). -/
def State.laneLock (s : State) (g i : Nat) (locked : List Nat) : State :=
  if s.b (R.SL_STAT g i) F.SL_STAT_RAW_LOS then s.setF (R.SL_STAT g i) F.SL_STAT_LOCK 0
  else if locked.contains (16 * g + i) && (s.phy g i).any (fun k => k != i && !s.b (R.SL_STAT g k) F.SL_STAT_LOCK) then
    s.setF (R.SL_STAT g i) F.SL_STAT_LOCK 1
  else s

/-- The receive equaliser as it is read back (R271): 8 bits a tap, and the CTLE code beside taps 8 to 11; measured, so free (log entry 1). -/
def State.rxTaps (s : State) (g i : Nat) : State :=
  let s := s.each [0, 2, 3] fun k s => s.freeF (R.SL_RXTAP g i k) F.SL_RXTAP_TAPS
  (s.freeF (R.SL_RXTAP g i 1) F.SL_RXTAP_FFE8).freeF (R.SL_RXTAP g i 1) F.SL_RXTAP_CTLE

/-- Slot-side codewords of a tick are counted (R247): corrected and uncorrectable ones are among those received. -/
def State.slotFec (s : State) (g i n k u : Nat) : State :=
  let s := s.incF (R.SL_FEC_CW g i) ⟨0, 64⟩ n
  let s := s.incF (R.SL_FEC_CORR g i) ⟨0, 64⟩ (min k n)
  (s.incF (R.SL_FEC_UNC g i) ⟨0, 64⟩ (min u (n - min k n))).perf (0x300 + 16 * g + i) (min u (n - min k n))

/-- One slot lane at a tick edge (R242, R243, R245, R247): receive taps are measured values, and codeword counts that the tick does not give are
free (log entry 1). -/
def State.slotTick (s : State) (g i : Nat) (x : TickIn) : State :=
  let st := s.slState g i
  let s := if st = 2 then s.tapTrain g i else s.tapStep g i
  let s := if st = 3 then s.laneLock g i x.slotLock else s
  let s := if st = 1 then s.setSlo g i { s.slo g i with anTicks := (s.slo g i).anTicks + 1 } else s
  let s := if st = 3 ∨ st = 4 then s.rxTaps g i else s
  if st = 4 ∧ s.slF g i F.SL_CTL_FEC ≠ 0 then
    match x.slotFec.find? fun e => e.1 == 16 * g + i with
    | some (_, n, k, u) => s.slotFec g i n k u
    | none =>
      let (n, s) := s.draw (2 ^ 60)
      let s := s.slotFec g i (n % 2 ^ 20) (n / 2 ^ 20 % 2 ^ 20) (n / 2 ^ 40)
      if n / 2 ^ 40 = 0 then s else s.perfFree (0x400 + 16 * g + i) (2 ^ 20)
  else s

/-- A PHY at a tick edge: into OFF where it may not run, out of it where it may (R245); EN cleared on a lane disarms its manager (R446). -/
def State.phyTick (s : State) (g i : Nat) : State :=
  let s := if (s.fltUnit 1 g i).armed && (s.phy g i).any (fun k => s.slF g k F.SL_CTL_EN == 0) then s.fltDisarm 1 g i else s
  if s.phyHead g i ≠ i then s
  else if !s.phyRuns g i then
    let s := if s.slState g i = 0 then s else s.phyLeave g i 0
    (s.phy g i).foldl (fun s k => s.setFs (R.SL_STAT g k) [(F.SL_STAT_STATE, 0), (F.SL_STAT_LOCK, 0)]) s
  else if s.slState g i = 0 then s.setPhy g i (s.phyEntry g i) else s

/-! ## Faults of slot PHYs (R446 to R450) -/

/-- A permanent fault holds the PHY in OFF and drops its clients; their line slots are freed in the first page that R179 allows. -/
def State.phyPermanent (s : State) (g i : Nat) : State :=
  let ls := s.phy g i
  let a := s.phyHead g i
  let s := s.each ls fun k s => s.setFltState 1 g k 3
  let s := if s.slState g i = 0 then s else s.phyLeave g i 0
  let cs := s.map.defined.filter fun c => ls.any fun k =>
    (slotSrcE (s.ends c) && s.b (R.SL_STAT g k) F.SL_STAT_RX_BOUND && s.f (R.SL_STAT g k) F.SL_STAT_RX_CLIENT == c)
      || (slotSnkE (s.ends c) && s.b (R.SL_STAT g k) F.SL_STAT_TX_BOUND && s.f (R.SL_STAT g k) F.SL_STAT_TX_CLIENT == c)
  let s := s.each cs fun c s =>
    let s := s.setF (R.MAP_CLI_STAT c) F.MAP_CLI_STAT_DROPPED 1
    { s with map.freeing := s.map.freeing ++ (s.sinkOcts c).map fun o => (c, o) }
  ((s.event Ev.SL_RETIRED g a []).fltDisarm 1 g a).trimRequest (16 + g) none

/-- A fault on a slot PHY (R447): a transient one restarts the PHY, a permanent one takes it out of service.  LT_FAIL has its own row of R245,
which says where the PHY goes. -/
def State.phyFault (s : State) (g i kind : Nat) : State :=
  let a := s.phyHead g i
  let lim := if s.slF g a F.SL_CTL_AN_EN = 0 ∧ s.slF g a F.SL_CTL_LT_EN = 0 then 200
    else s.f (R.FLT_CTL_G g) F.FLT_CTL_G_LT_RETRY_TICKS
  let (s, k) := s.fltFault 1 g a kind lim
  if k = 2 then s.phyPermanent g i
  else if k = 1 ∧ kind ≠ 7 ∧ s.slState g i ≠ 4 ∧ s.phyRuns g i = true then s.setPhy g i (s.phyEntry g i) else s

/-! ## Rows -/

/-- The one technology that a PHY advertises: its RATE and width (R244). -/
def State.anTech (s : State) (g i : Nat) : Nat × Nat := (s.slF g (s.phyHead g i) F.SL_CTL_RATE, (s.phy g i).length)

/-- The one FEC ability that a PHY advertises (R244). -/
def State.anFec (s : State) (g i : Nat) : Nat := s.slF g (s.phyHead g i) F.SL_CTL_FEC

/-- Auto-negotiation completes where the partner advertises both of the PHY's abilities (R244, R245). -/
def State.anComplete (s : State) (g : Nat) (x : AnIn) : State :=
  let i : Nat := x.lane
  if s.slState g i = 1 ∧ s.phyHead g i = i ∧ x.techs.contains (s.anTech g i) = true ∧ x.fecs.contains (s.anFec g i) = true then
    s.setPhy g i (if s.slF g i F.SL_CTL_LT_EN = 1 then 2 else 3)
  else s

/-- AN_COMPLETE (R245). -/
def execAnComplete (g : Fin 16) (x : AnIn) (s : State) : Host.Outcome State Fault Refusal := .next (s.anComplete g x)

/-- A PHY has spent another 50,000 ticks in AN (R244). -/
def State.anFail (s : State) (g i : Nat) : State :=
  let x := s.slo g i
  if s.slState g i = 1 ∧ s.phyHead g i = i ∧ 50000 ≤ x.anTicks then
    ((s.setSlo g i { x with anTicks := x.anTicks - 50000 }).incF (R.SL_CNT g i) F.SL_CNT_AN_FAIL_CNT 1).event Ev.AN_FAIL g i []
  else s

/-- AN_FAIL (R244). -/
def execAnFail (g i : Fin 16) (s : State) : Host.Outcome State Fault Refusal := .next (s.anFail g i)

/-- Every lane is trained (R243, R245): the taps that the partner asked for (free) are in force, and the targets follow them. -/
def State.trained (s : State) (g i : Nat) : State :=
  if s.slState g i = 2 ∧ s.phyHead g i = i then
    (s.each (s.phy g i) fun k s => s.tapTrain g k).setPhy g i 3
  else s

/-- TRAIN_COMPLETE (R245). -/
def execTrainComplete (g i : Fin 16) (s : State) : Host.Outcome State Fault Refusal := .next (s.trained g i)

/-- The training timer expires (R245). -/
def State.ltFail (s : State) (g i : Nat) : State :=
  if s.slState g i = 2 ∧ s.phyHead g i = i then
    let s := (s.incF (R.SL_CNT g i) F.SL_CNT_LT_FAIL_CNT 1).event Ev.LT_FAIL g i []
    (s.setPhy g i (if s.slF g i F.SL_CTL_AN_EN = 1 then 1 else 2)).phyFault g i 7
  else s

/-- LT_FAIL (R245). -/
def execLtFail (g i : Fin 16) (s : State) : Host.Outcome State Fault Refusal := .next (s.ltFail g i)

/-- Every lane of the PHY has lock (R245); the manager is armed and its retry completes (R446, R449). -/
def State.phyUp (s : State) (g i : Nat) : State :=
  if s.slState g i = 3 ∧ s.phyHead g i = i ∧ ((s.phy g i).all fun k => !s.b (R.SL_STAT g k) F.SL_STAT_RAW_LOS) = true then
    let s := (s.setPhy g i 4).event Ev.SL_UP g i []
    ((s.fltArm 1 g i).fltRetryDone 1 g i).trimStartup (16 + g)
  else s

/-- SL_UP (R245). -/
def execSlUp (g i : Fin 16) (s : State) : Host.Outcome State Fault Refusal := .next (s.phyUp g i)

/-- A lane loses lock without RAW_LOS, and its PHY goes down (R245, R447). -/
def State.phyDown (s : State) (g i : Nat) : State :=
  if s.slState g i = 4 then
    let s := s.phyLeave g i (s.phyEntry g i)
    (s.setF (R.SL_STAT g i) F.SL_STAT_LOCK 0).phyFault g i 2
  else s

/-- SL_DOWN (R245). -/
def execSlDown (g i : Fin 16) (s : State) : Host.Outcome State Fault Refusal := .next (s.phyDown g i)

/-- RAW_LOS of a slot lane asserts (R245, R447). -/
def State.slLosSet (s : State) (g i : Nat) : State :=
  let a := s.phyHead g i
  let s := s.setF (R.SL_STAT g i) F.SL_STAT_RAW_LOS 1
  let x := s.fltUnit 1 g a
  let s := if x.los.isSome then s else s.setFlt 1 g a { x with los := some s.tick, long := false }
  if s.slState g i = 4 then s.phyLeave g i (s.phyEntry g i) else s.setF (R.SL_STAT g i) F.SL_STAT_LOCK 0

/-- RAW_LOS of a slot lane clears; the PHY's timing ends with the last of its lanes. -/
def State.slLosClear (s : State) (g i : Nat) : State :=
  let a := s.phyHead g i
  let s := s.setF (R.SL_STAT g i) F.SL_STAT_RAW_LOS 0
  if (s.phy g i).any fun k => s.b (R.SL_STAT g k) F.SL_STAT_RAW_LOS then s
  else
    let x := s.fltUnit 1 g a
    let s := s.setFlt 1 g a { x with los := none, long := false }
    if x.los.isSome && !x.long then s.phyFault g i 1 else s

/-- SLOT_RAW_LOS (R245). -/
def execSlotRawLos (g i : Fin 16) (asserted : Bool) (s : State) : Host.Outcome State Fault Refusal :=
  .next (if !s.sgOn g || s.b (R.SL_STAT g i) F.SL_STAT_RAW_LOS == asserted then s
    else if asserted then s.slLosSet g i else s.slLosClear g i)

/-- SL_RETRAIN at its tick (R245, R268): the PHYs of the mask go to OFF and then as from OFF. -/
def State.slRetrain (s : State) (c : Cmd) (g mask : Nat) : State :=
  if 16 ≤ g then s.refuse c Op.SL_RETRAIN St.BAD_FIELD
  else if (bitsOf 16 mask).any fun i => (s.phy g i).any fun k => !bitOf mask k then s.refuse c Op.SL_RETRAIN St.BAD_FIELD
  else if !s.sgOn g then s.refuse c Op.SL_RETRAIN St.DOMAIN_OFF
  else
    let s := s.each ((bitsOf 16 mask).filter fun i => s.phyHead g i == i) fun i s =>
      if s.slState g i = 0 then s else (s.phyLeave g i 0).phyTick g i
    s.ok c Op.SL_RETRAIN []

/-- SL_RETRAIN (R268). -/
def execSlRetrain (cmd : Cmd) (group : BitVec 8) (mask : BitVec 16) (s : State) : Host.Outcome State Fault Refusal :=
  .next (s.slRetrain cmd group.toNat mask.toNat)

end Sys2Proof.Machine
end

