-- ==== Sys2Proof/Machine/Protect.lean ====
section
/-!
DEFINITION. Route protection and the deskew store (chapter 8): defects, requests, the active route, the selection states and the
GDDR6 channels.
-/

namespace Sys2Proof.Machine

/-! ## State of a Class B client -/

/-- Selection state (R300): 0 = NONE, 1 = WAIT, 2 = SINGLE, 3 = PROTECTED, 4 = EXCESS, 5 = NO_STORE. -/
def State.protState (s : State) (c : Nat) : Nat := s.f (R.PROT_STAT c) F.PROT_STAT_STATE

/-- The active route. -/
def State.active (s : State) (c : Nat) : Nat := s.f (R.PROT_STAT c) F.PROT_STAT_ACTIVE

/-- A client that is defined and Class B. -/
def State.isB (s : State) (c : Nat) : Bool := s.defined c && s.cls c == 1

/-- Signal fail and signal degrade shown for a route. -/
def State.sf (s : State) (c r : Nat) : Bool := s.b (R.PROT_STAT c) (if r = 0 then F.PROT_STAT_SF0 else F.PROT_STAT_SF1)
def State.sd (s : State) (c r : Nat) : Bool := s.b (R.PROT_STAT c) (if r = 0 then F.PROT_STAT_SD0 else F.PROT_STAT_SD1)

/-- The buffer of a client recentres (R259): the words skipped or repeated are delivered as errored. -/
def State.recentre (s : State) (c : Nat) : State :=
  ((s.incF (R.MAP_CLI_STAT c) F.MAP_CLI_STAT_RECENTRE_CNT 1).errCount c).event Ev.RECENTRE c noLane []

/-- The fill of a client's buffer has left its target by more than 64 words: a client with a line source end has such a buffer, and a fill that
has been described settles it. -/
def State.fillOut (s : State) (c : Nat) : Bool :=
  s.defined c && lineSrcE (s.ends c) && match (s.path c).fill with
    | some d => decide (64 < d.natAbs)
    | none => true

/-- RECENTRE (R259): the buffer is at its target again. -/
def State.recentreRow (s : State) (c : Nat) : State :=
  if s.fillOut c then
    (s.setPath c { s.path c with fill := (s.path c).fill.map fun _ => 0 }).recentre c
  else s

/-- RECENTRE (R259): the fill has left its target by more than 64 words. -/
def execRecentre (c : Fin 512) (s : State) : Host.Outcome State Fault Refusal := .next (s.recentreRow c)

/-- A selection state is entered; its counts start anew.  In PROTECTED the store delays the copy of the earlier route, written from its first
sub-frame; no other state holds a copy. -/
def State.setProt (s : State) (c v : Nat) : State :=
  let x := { s.cli c with overN := 0, underN := 0, signN := 0, aloneN := 0, goneN := 0 }
  ((s.setF (R.PROT_STAT c) F.PROT_STAT_STATE v).setCli c
    (if v = 3 then { x with store := s.f (R.PROT_STAT c) F.PROT_STAT_EARLY } else x)).storeClear c

/-- The active route changes (R289): outside PROTECTED the change recentres (R290). -/
def State.protSwitch (s : State) (c r : Nat) : State :=
  if s.active c = r then s
  else
    let s := (s.setF (R.PROT_STAT c) F.PROT_STAT_ACTIVE r).incF (R.PROT_CNT c) F.PROT_CNT_SWITCH_CNT 1
    let s := s.event Ev.PROT_SWITCH c noLane []
    let st := s.protState c
    if st = 2 ∨ st = 4 ∨ st = 5 then s.recentre c else s

/-! ## Defects and requests (R288, R289) -/

/-- The defects of the previous tick are shown; PROT_DEFECT is posted when one appears. -/
def State.protDefects (s : State) (c : Nat) : State :=
  let x := s.cli c
  let thr := s.f (R.PROT_CFG c) F.PROT_CFG_UNC_THR
  let sf0 := !s.routeOk c 0
  let sf1 := !s.routeOk c 1
  let sd0 := !sf0 && (decide (thr ≤ x.unc0) || x.jc0)
  let sd1 := !sf1 && (decide (thr ≤ x.unc1) || x.jc1)
  let new := (sf0 && !s.sf c 0) || (sf1 && !s.sf c 1) || (sd0 && !s.sd c 0) || (sd1 && !s.sd c 1)
  let s := s.setFs (R.PROT_STAT c) [(F.PROT_STAT_SF0, bit sf0), (F.PROT_STAT_SF1, bit sf1), (F.PROT_STAT_SD0, bit sd0),
    (F.PROT_STAT_SD1, bit sd1)]
  let s := s.setCli c { x with unc0 := 0, unc1 := 0, jc0 := false, jc1 := false }
  if new then s.event Ev.PROT_DEFECT c noLane [] else s

/-- The highest request present (R289, R300): 5 = FORCE, 4 = SF, 3 = SD, 2 = MANUAL, 1 = WTR, 0 = NO_REQ. -/
def State.protReq (s : State) (c : Nat) : Nat :=
  let x := s.cli c
  let a := s.active c
  let clean := fun r => !s.sf c r && !s.sd c r
  let pref := s.f (R.PROT_CFG c) F.PROT_CFG_PREF
  if x.force.isSome then 5
  else if s.sf c a && !s.sf c (1 - a) then 4
  else if s.sd c a && clean (1 - a) then 3
  else if (match x.manual with | some r => clean r | none => false) then 2
  else if s.b (R.PROT_CFG c) F.PROT_CFG_REVERTIVE && a != pref && clean pref then 1
  else 0

/-- The route that a FORCE or a MANUAL names, whether or not the request acts; 0 where there is none (R300). -/
def CliSt.named (x : CliSt) : Nat := match x.force with | some r => r | none => x.manual.getD 0

/-- The defect of the active route: 4 = SF, 3 = SD, 0 = none. -/
def State.protBad (s : State) (c : Nat) : Nat := if s.sf c (s.active c) then 4 else if s.sd c (s.active c) then 3 else 0

/-- A hold-off is loaded, and counts from the next edge on. -/
def State.holdLoad (s : State) (c d h : Nat) : State :=
  (s.setF (R.PROT_STAT c) F.PROT_STAT_HOLD_LEFT h).setCli c { s.cli c with holdKind := d, holdAt := some s.tick }

/-- The hold-off runs while its defect lasts on the active route, whatever the other route shows (R289). -/
def State.holdSet (s : State) (c : Nat) : State :=
  let d := s.protBad c
  let h := s.f (R.PROT_CFG c) F.PROT_CFG_HOLD_OFF
  if d = 0 ∨ h = 0 then (s.setF (R.PROT_STAT c) F.PROT_STAT_HOLD_LEFT 0).setCli c { s.cli c with holdKind := 0 }
  else if (s.cli c).holdKind = d then s
  else s.holdLoad c d h

/-- A wait to restore is loaded, and counts from the next edge on. -/
def State.wtrLoad (s : State) (c w : Nat) : State :=
  (s.setF (R.PROT_STAT c) F.PROT_STAT_WTR_LEFT w).setCli c { s.cli c with wtrRun := true, wtrAt := some s.tick }

/-- The request is shown and its timers start, restart or stop; FORCE, MANUAL and a hold-off of 0 act at once. -/
def State.protDecide (s : State) (c : Nat) : State :=
  let q := s.protReq c
  let x := s.cli c
  let s := s.setFs (R.PROT_STAT c) [(F.PROT_STAT_REQ, q), (F.PROT_STAT_REQ_ROUTE, x.named)]
  let s := if q = 5 ∨ q = 2 then s.protSwitch c x.named
    else if (q = 4 ∨ q = 3) ∧ s.f (R.PROT_CFG c) F.PROT_CFG_HOLD_OFF = 0 then s.protSwitch c (1 - s.active c) else s
  let s := s.holdSet c
  if q = 1 then (if x.wtrRun then s else s.wtrLoad c (s.f (R.PROT_CFG c) F.PROT_CFG_WTR))
  else (s.setF (R.PROT_STAT c) F.PROT_STAT_WTR_LEFT 0).setCli c { s.cli c with wtrRun := false }

/-- Running timers count one tick; one loaded at this very edge counts from the next. -/
def State.protCount (s : State) (c : Nat) : State :=
  let r := R.PROT_STAT c
  let x := s.cli c
  let s := if x.holdKind ≠ 0 ∧ x.holdAt ≠ some s.tick then s.setF r F.PROT_STAT_HOLD_LEFT (s.f r F.PROT_STAT_HOLD_LEFT - 1) else s
  if x.wtrRun = true ∧ x.wtrAt ≠ some s.tick then s.setF r F.PROT_STAT_WTR_LEFT (s.f r F.PROT_STAT_WTR_LEFT - 1) else s

/-! ## Selection states (R290) -/

/-- A route carries the tag. -/
def State.carries (s : State) (c r : Nat) : Bool := (s.bound c r).isSome

/-- |D| is at most 5.000 ms. -/
def State.nearD (s : State) (c : Nat) : Bool := decide ((s.i (R.PROT_DELAY c) F.PROT_DELAY_DIFF).natAbs ≤ diffMax)

/-- The transitions that a tick edge makes: both routes carry the tag. -/
def State.protStates (s : State) (c : Nat) : State :=
  let both := s.carries c 0 && s.carries c 1
  let any := s.carries c 0 || s.carries c 1
  let lone := if s.carries c 0 then 0 else 1
  let x := s.cli c
  let x := { x with
    paired := x.paired && both
    aloneN := if any && !both then (if lone = x.aloneR then min 600 (x.aloneN + 1) else 1) else 0
    aloneR := lone
    goneN := if any then 0 else min 600 (x.goneN + 1) }
  let s := s.setCli c x
  let st := s.protState c
  if st = 1 ∧ x.paired = true then s.setProt c (if s.nearD c then 3 else 4)
  else if st = 2 ∧ x.paired = true ∧ s.nearD c = true then
    let later := s.active c ≠ s.f (R.PROT_STAT c) F.PROT_STAT_EARLY
    let s := s.setProt c 3
    if later then s else s.recentre c
  else if st = 4 then s.incF (R.PROT_CNT2 c) F.PROT_CNT2_EXCESS_TICKS 1
  else s

/-- A Class B client at a tick edge. -/
def State.protTick (s : State) (c : Nat) : State :=
  if s.isB c then (((s.protStates c).protDefects c).protCount c).protDecide c else s

/-! ## Rows -/

/-- The hold-off of the defect on the active route has expired, and the other route may take over (R289). -/
def State.holdExpiry (s : State) (c : Nat) : State :=
  if s.isB c ∧ (s.cli c).holdKind ≠ 0 ∧ s.f (R.PROT_STAT c) F.PROT_STAT_HOLD_LEFT = 0 ∧ s.protReq c = (s.cli c).holdKind then
    ((s.setCli c { s.cli c with holdKind := 0 }).protSwitch c (1 - s.active c)).protDecide c
  else s

/-- HOLD_OFF_EXPIRY (R289). -/
def execHoldOffExpiry (c : Fin 512) (s : State) : Host.Outcome State Fault Refusal := .next (s.holdExpiry c)

/-- The wait to restore has expired (R289). -/
def State.wtrExpiry (s : State) (c : Nat) : State :=
  if s.isB c ∧ (s.cli c).wtrRun = true ∧ s.f (R.PROT_STAT c) F.PROT_STAT_WTR_LEFT = 0 then
    ((s.setCli c { s.cli c with wtrRun := false }).protSwitch c (s.f (R.PROT_CFG c) F.PROT_CFG_PREF)).protDecide c
  else s

/-- WTR_EXPIRY (R289). -/
def execWtrExpiry (c : Fin 512) (s : State) : Host.Outcome State Fault Refusal := .next (s.wtrExpiry c)

/-- The counts of the two copies differ (R287). -/
def State.cMismatch (s : State) (c : Nat) : State :=
  let s := s.incF (R.PROT_CNT c) F.PROT_CNT_CMIS_CNT 1
  if (s.cli c).cmisTick = some s.tick then s
  else (s.setCli c { s.cli c with cmisTick := some s.tick }).event Ev.C_MISMATCH c noLane []

/-- Words repaired and words bad on both copies are counted (R286). -/
def State.repairCount (s : State) (c one both : Nat) : State :=
  (s.incF (R.PROT_CNT c) F.PROT_CNT_REPAIR_CNT one).incF (R.PROT_CNT2 c) F.PROT_CNT2_BOTH_BAD both

/-- A sub-frame whose words the model does not hold: `c0` and `c1` are the counts of the two copies, `one` the words flagged on the active copy
alone, `both` those flagged on both. -/
def State.subframeGiven (s : State) (c c0 c1 one both : Nat) : State :=
  if c0 ≠ c1 then (if one + both = 0 then s.cMismatch c else (s.cMismatch c).errCount c)
  else if s.b (R.PROT_CFG c) F.PROT_CFG_REPAIR then
    (if both = 0 then s.repairCount c one both else (s.repairCount c one both).errCount c)
  else if one + both = 0 then s else s.errCount c

/-- A sub-frame of which the model holds both copies, or one: the active route's words, repaired from the other copy, are delivered. -/
def State.subframeHeld (s : State) (c : Nat) (a b : Option SubCopy) : State :=
  match a, b with
  | some a, some b =>
    if a.words.length ≠ b.words.length then (s.cMismatch c).deliver c a.flags
    else
      let (ws, one, both) := selectWords (s.b (R.PROT_CFG c) F.PROT_CFG_REPAIR) a.flags b.flags
      (s.repairCount c one both).deliver c ws
  | some a, none =>
    let (ws, one, both) := selectWords (s.b (R.PROT_CFG c) F.PROT_CFG_REPAIR) a.flags (a.flags.map fun w => (w.1, true))
    (s.repairCount c one both).deliver c ws
  | none, some b =>
    let (ws, one, both) := selectWords (s.b (R.PROT_CFG c) F.PROT_CFG_REPAIR) (b.flags.map fun w => (w.1, true)) b.flags
    (s.repairCount c one both).deliver c ws
  | none, none => s

/-- One sub-frame passes the selector (R286, R287): that of the copies held (log entry 130), or as it is described. -/
def State.subframe (s : State) (c c0 c1 one both : Nat) : State :=
  if !s.isB c || s.protState c != 3 then s
  else
    let (e, l, s) := s.nextPair c
    if e.isNone && l.isNone then s.subframeGiven c c0 c1 one both
    else if (s.cli c).store = s.active c then s.subframeHeld c e l else s.subframeHeld c l e

/-- SUBFRAME_SELECT (R286). -/
def execSubframeSelect (c : Fin 512) (c0 c1 one both : Nat) (s : State) : Host.Outcome State Fault Refusal :=
  .next (s.subframe c c0 c1 one both)

/-- |D| above 5.000 ms on 8 paired frames in a row (R280). -/
def State.delayExcess (s : State) (c : Nat) : State :=
  if s.isB c ∧ s.protState c = 3 ∧ 8 ≤ (s.cli c).overN then
    ((s.setProt c 4).event Ev.DELAY_EXCESS c noLane []).recentre c
  else s

/-- DELAY_EXCESS (R280). -/
def execDelayExcess (c : Fin 512) (s : State) : Host.Outcome State Fault Refusal := .next (s.delayExcess c)

/-- |D| at most 4.900 ms on 8 paired frames in a row (R280). -/
def State.delayReturn (s : State) (c : Nat) : State :=
  if s.isB c ∧ s.protState c = 4 ∧ 8 ≤ (s.cli c).underN then (s.setProt c 3).recentre c else s

/-- DELAY_RETURN (R280). -/
def execDelayReturn (c : Fin 512) (s : State) : Host.Outcome State Fault Refusal := .next (s.delayReturn c)

/-- The sign of D reversed on 8 paired frames in a row (R290): the store is rewritten from the new earlier route. -/
def State.signReverse (s : State) (c : Nat) : State :=
  if s.isB c ∧ s.protState c = 3 ∧ 8 ≤ (s.cli c).signN then
    ((s.setCli c { s.cli c with signN := 0, store := 1 - (s.cli c).store }).storeClear c).recentre c
  else s

/-- D_SIGN_REVERSE (R290). -/
def execDSignReverse (c : Fin 512) (s : State) : Host.Outcome State Fault Refusal := .next (s.signReverse c)

/-- One route alone has carried the tag for 600 ticks (R290): delivery from that route. -/
def State.singleTimeout (s : State) (c : Nat) : State :=
  if s.isB c ∧ s.protState c = 1 ∧ 600 ≤ (s.cli c).aloneN then
    (s.protSwitch c (s.cli c).aloneR).setProt c 2
  else s

/-- SINGLE_TIMEOUT (R290). -/
def execSingleTimeout (c : Fin 512) (s : State) : Host.Outcome State Fault Refusal := .next (s.singleTimeout c)

/-- Neither route has carried the tag for 600 ticks (R290). -/
def State.tagLoss (s : State) (c : Nat) : State :=
  let st := s.protState c
  if s.isB c ∧ (st = 2 ∨ st = 3 ∨ st = 4) ∧ 600 ≤ (s.cli c).goneN then s.setProt c 1 else s

/-- TAG_LOSS_TIMEOUT (R290). -/
def execTagLossTimeout (c : Fin 512) (s : State) : Host.Outcome State Fault Refusal := .next (s.tagLoss c)

/-! ## PROT_SET and PROT_REQ (R298) -/

/-- What a route-protection command reports (R401). -/
def State.protResult (s : State) (c : Nat) : List (Nat × Nat × Nat) :=
  [(32, 1, s.active c), (33, 1, s.protState c), (34, 1, s.f (R.PROT_STAT c) F.PROT_STAT_REQ)]

/-- Why a route-protection command is refused. -/
def State.protRefusal (s : State) (c : Nat) : Option Nat :=
  if 512 ≤ c then some St.BAD_FIELD
  else if !s.defined c then some St.NO_CLIENT
  else if s.cls c ≠ 1 then some St.BAD_FIELD else none

/-- The fields of PROT_CFG are in range (R300). -/
def protFieldsOk (flags unc hold wtr : Nat) : Bool :=
  decide (flags < 8) && decide (0 < unc) && decide (unc < 256) && decide (hold < 1024) && decide (0 < wtr)

/-- PROT_CFG of a client. -/
def State.setProtCfg (s : State) (c flags unc hold wtr : Nat) : State :=
  s.setFs (R.PROT_CFG c) [(F.PROT_CFG_PREF, flags % 2), (F.PROT_CFG_REVERTIVE, flags / 2 % 2), (F.PROT_CFG_REPAIR, flags / 4 % 2),
    (F.PROT_CFG_UNC_THR, unc), (F.PROT_CFG_HOLD_OFF, hold), (F.PROT_CFG_WTR, wtr)]

/-- PROT_SET at its tick: changed timers restart (R298). -/
def State.protSet (s : State) (c : Cmd) (cl flags unc hold wtr : Nat) : State :=
  match s.protRefusal cl with
  | some e => s.refuse c Op.PROT_SET e
  | none =>
    if !protFieldsOk flags unc hold wtr then s.refuse c Op.PROT_SET St.BAD_FIELD
    else
      let newH := s.f (R.PROT_CFG cl) F.PROT_CFG_HOLD_OFF ≠ hold
      let newW := s.f (R.PROT_CFG cl) F.PROT_CFG_WTR ≠ wtr
      let s := s.setProtCfg cl flags unc hold wtr
      let s := if newH ∧ (s.cli cl).holdKind ≠ 0 then s.holdLoad cl (s.cli cl).holdKind hold else s
      let s := if newW ∧ (s.cli cl).wtrRun = true then s.wtrLoad cl wtr else s
      let s := s.protDecide cl
      s.ok c Op.PROT_SET (s.protResult cl)

/-- PROT_SET (R298). -/
def execProtSet (cmd : Cmd) (client : BitVec 16) (flags uncThr : BitVec 8) (holdOff : BitVec 16) (wtr : BitVec 32) (s : State) :
    Host.Outcome State Fault Refusal :=
  .next (s.ifHolder cmd Op.PROT_SET (.protSet cmd client flags uncThr holdOff wtr) client.toNat
    (·.protSet cmd client.toNat flags.toNat uncThr.toNat holdOff.toNat wtr.toNat))

/-- PROT_REQ at its tick (R289). -/
def State.protRequest (s : State) (c : Cmd) (cl q : Nat) : State :=
  match s.protRefusal cl with
  | some e => s.refuse c Op.PROT_REQ e
  | none =>
    if 5 ≤ q then s.refuse c Op.PROT_REQ St.BAD_FIELD
    else
      let x := s.cli cl
      let x := if q = 0 then { x with force := none, manual := none }
        else if q ≤ 2 then { x with force := some (q - 1) } else { x with manual := some (q - 3) }
      let s := (s.setCli cl x).protDecide cl
      s.ok c Op.PROT_REQ (s.protResult cl)

/-- PROT_REQ (R298). -/
def execProtReq (cmd : Cmd) (client : BitVec 16) (request : BitVec 8) (s : State) : Host.Outcome State Fault Refusal :=
  .next (s.ifHolder cmd Op.PROT_REQ (.protReq cmd client request) client.toNat (·.protRequest cmd client.toNat request.toNat))

/-! ## GDDR6 (R294 to R296) -/

/-- The Mast die temperature, in 0.01 °C (R500). -/
def State.mastTemp (s : State) : Int := s.i (R.THERM_SENS 5) F.THERM_SENS_TEMP

/-- A channel has been trained at the present temperature and tick. -/
def State.gdTrained (s : State) (ch : Nat) : State :=
  s.setFs (R.GD_CH_STAT ch) [(F.GD_CH_STAT_TRAINED, 1), (F.GD_CH_STAT_TRAIN_TEMP, patternOf 16 s.mastTemp),
    (F.GD_CH_STAT_TRAIN_TICK, s.tick % 2 ^ 46)]

/-- Firmware has trained the channels (R294): those marked failed stay out, and READY needs all of them. -/
def State.gdDone (s : State) : State :=
  if !s.isOn domGDDR || s.b R.GD_STAT F.GD_STAT_READY then s
  else
    let s := s.each ((List.range 24).filter fun ch => !s.b (R.GD_CH_STAT ch) F.GD_CH_STAT_FAIL) fun ch s => s.gdTrained ch
    if s.f R.GD_STAT F.GD_STAT_CH_FAIL = 0 then
      let s := (s.setF R.GD_STAT F.GD_STAT_READY 1).mapRefresh
      s.each (s.classB.filter fun c => s.protState c == 5) fun c s => s.setProt c 1
    else s

/-- GD_TRAINING_DONE (R294). -/
def execGdTrainingDone (s : State) : Host.Outcome State Fault Refusal := .next s.gdDone

/-- A channel whose temperature has moved by more than RETRAIN_DT is retrained (R295). -/
def State.gdRetrain (s : State) (ch : Nat) : State :=
  let d := (s.mastTemp - s.i (R.GD_CH_STAT ch) F.GD_CH_STAT_TRAIN_TEMP).natAbs
  if s.isOn domGDDR && s.b (R.GD_CH_STAT ch) F.GD_CH_STAT_TRAINED && !s.b (R.GD_CH_STAT ch) F.GD_CH_STAT_FAIL
      && decide (50 * s.f R.GD_CTL F.GD_CTL_RETRAIN_DT < d) then
    (s.gdTrained ch).incF R.GD_STAT F.GD_STAT_RETRAIN_CNT 1
  else s

/-- GD_RETRAIN (R295). -/
def execGdRetrain (ch : Fin 24) (s : State) : Host.Outcome State Fault Refusal := .next (s.gdRetrain ch)

/-- The store fails (R290, R296): every Class B client goes to NO_STORE. -/
def State.storeFail (s : State) : State :=
  if s.b R.GD_STAT F.GD_STAT_READY then
    let s := (s.setF R.GD_STAT F.GD_STAT_READY 0).mapRefresh
    s.each s.classB fun c s => ((s.setProt c 5).event Ev.DSK_FAIL c noLane []).recentre c
  else s

/-- A channel fails, in training or in service (R294, R296). -/
def State.gdFail (s : State) (ch : Nat) : State :=
  if s.isOn domGDDR then
    let s := s.setFs (R.GD_CH_STAT ch) [(F.GD_CH_STAT_FAIL, 1), (F.GD_CH_STAT_TRAINED, 0)]
    (s.setF R.GD_STAT F.GD_STAT_CH_FAIL (withBit (s.f R.GD_STAT F.GD_STAT_CH_FAIL) ch true)).storeFail
  else s

/-- GD_CHANNEL_FAIL (R296). -/
def execGdChannelFail (ch : Fin 24) (s : State) : Host.Outcome State Fault Refusal := .next (s.gdFail ch)

end Sys2Proof.Machine
end

