-- ==== Sys2Proof/Machine/Clients.lean ====
section
/-!
DEFINITION. Clients of the mapper (R250 to R261, R274 to R277): the checks of CLIENT_ADD at acceptance and at its tick, placement,
modification and deletion, and what a tick edge does for a client.
-/

namespace Sys2Proof.Machine

/-! ## Reading the arguments of CLIENT_ADD -/

/-- The client is Class B; it has a second sink octet; its sinks choose their slots. -/
def ClientAddArgs.b (a : ClientAddArgs) : Bool := a.cls.toNat == 1
def ClientAddArgs.dual (a : ClientAddArgs) : Bool := bitOf a.sinkFlags.toNat 1
def ClientAddArgs.auto (a : ClientAddArgs) (copy : Nat) : Bool := bitOf a.sinkFlags.toNat (if copy = 0 then 0 else 2)
def ClientAddArgs.mask (a : ClientAddArgs) (copy : Nat) : Nat := if copy = 0 then a.mask0.toNat else a.mask1.toNat
def ClientAddArgs.cbr (a : ClientAddArgs) : Bool := a.kind.toNat == 1
def ClientAddArgs.lineSrc (a : ClientAddArgs) : Bool := lineSrcE a.ends.toNat
def ClientAddArgs.lineSnk (a : ClientAddArgs) : Bool := lineSnkE a.ends.toNat
def ClientAddArgs.slotSrc (a : ClientAddArgs) : Bool := slotSrcE a.ends.toNat
def ClientAddArgs.slotSnk (a : ClientAddArgs) : Bool := slotSnkE a.ends.toNat

/-- The nominal rate in kb/s, and the slots it takes (R29). -/
def ClientAddArgs.kb (a : ClientAddArgs) : Nat := if a.cbr then a.cbrRate.toNat else ethKb a.ethRate.toNat
def ClientAddArgs.slots (a : ClientAddArgs) : Nat := slotCount a.kb

/-- Sink octets. -/
def ClientAddArgs.sinks (a : ClientAddArgs) : List Nat :=
  if a.lineSnk then a.snk.toNat :: (if a.dual then [a.snk1Oct.toNat] else []) else []

/-- Route sets of a line source end (R274): the octet and its siblings. -/
def ClientAddArgs.route (a : ClientAddArgs) (r : Nat) : List Nat :=
  let o := if r = 0 then a.src.toNat else a.route1Oct.toNat
  let m := if r = 0 then a.sib.toNat else a.route1Sib.toNat
  (List.range 16).filter fun k => k == o || bitOf m k

/-- Octets that a client's line ends name: sinks, and the octet of each route. -/
def ClientAddArgs.octets (a : ClientAddArgs) : List Nat :=
  a.sinks ++ (if a.lineSrc then a.src.toNat :: (if a.b then [a.route1Oct.toNat] else []) else [])

/-! ## Checks (R254, R275) -/

/-- A slot end (R27, R28, R240, R251): the lanes are one whole PHY of the client's rate and kind. -/
def State.slotEndOk (s : State) (a : ClientAddArgs) (g i : Nat) : Bool :=
  let ls := s.phy g i
  let rate := s.slF g i F.SL_CTL_RATE
  s.phyHead g i == i && s.phyAgrees g i && (s.slF g i F.SL_CTL_CBR == 1) == a.cbr
    && (if a.cbr then cbrOk rate a.kb else ethLanes a.ethRate.toNat rate == some ls.length)

/-- The fields of an add whose values the manual lists hold one of them, whether or not its ends use the field (R17, R401); the fields for
which 0 is no value (CBR_RATE, UNC_THR, WTR, the masks) are judged where they are used (log entry 126). -/
def ClientAddArgs.encodingsOk (a : ClientAddArgs) : Bool :=
  decide (a.client.toNat < 512) && decide (a.kind.toNat < 2) && decide (a.ethRate.toNat < 8) && decide (a.cls.toNat < 4)
    && decide (a.ends.toNat < 4) && decide (a.src.toNat < 16) && decide (a.srcLane.toNat < 16) && decide (a.snk.toNat < 16)
    && decide (a.snkLane.toNat < 16) && decide (a.farTag.toNat < 512) && decide (a.sinkFlags.toNat < 8)
    && decide (a.snk1Oct.toNat < 16) && decide (a.route1Oct.toNat < 16) && decide (a.protFlags.toNat < 8)

/-- Field encodings of an add, and its slot ends: check 1 of R254. -/
def State.addFieldsOk (s : State) (a : ClientAddArgs) : Bool :=
  let maskOk := fun copy => a.auto copy || (maskSlots (a.mask copy)).length == a.slots
  let overlap := a.ends.toNat == 3 && a.sinks.contains a.src.toNat && !a.auto (if a.snk = a.src then 0 else 1)
    && (maskSlots (a.mask (if a.snk = a.src then 0 else 1))).any fun k => (s.rxSlots a.src.toNat a.farTag.toNat).contains k
  a.encodingsOk
    && (!a.cbr || (decide (9953280 ≤ a.kb) && decide (a.kb ≤ 212500000)))
    && (!a.slotSrc || s.slotEndOk a a.src.toNat a.srcLane.toNat)
    && (!a.slotSnk || s.slotEndOk a a.snk.toNat a.snkLane.toNat)
    && (a.ends.toNat != 2 || (s.slF a.src.toNat a.srcLane.toNat F.SL_CTL_RATE == s.slF a.snk.toNat a.snkLane.toNat F.SL_CTL_RATE))
    && (!a.dual || (a.lineSnk && a.snk1Oct != a.snk))
    && (!a.lineSnk || (maskOk 0 && (!a.dual || maskOk 1)))
    && (!a.b || (a.lineSrc && (a.route 0).all (fun k => !(a.route 1).contains k)
      && protFieldsOk a.protFlags.toNat a.uncThr.toNat a.holdOff.toNat a.wtr.toNat))
    && !overlap

/-- The domains on a client's path (R26, R42, R291). -/
def State.pathOn (s : State) (a : ClientAddArgs) : Bool :=
  let sg := (if a.slotSrc then [a.src.toNat] else []) ++ (if a.slotSnk then [a.snk.toNat] else [])
  s.usable domMAP && a.octets.all s.octUsable && sg.all s.sgUsable && (!a.b || s.usable domGDDR)

/-- The standard-mode rules of R192 and R275. -/
def State.stdRulesOk (s : State) (a : ClientAddArgs) : Bool :=
  let std := a.octets.filter fun o => s.stdMode o
  if std.isEmpty then true
  else if a.b || a.dual || a.cbr then false
  else
    let srcOk := !(a.lineSrc && s.stdMode a.src.toNat)
      || ((s.stdPhys a.src.toNat a.ethRate.toNat).any fun p => p.1 == a.srcLane.toNat)
    let snkOk := !(a.lineSnk && s.stdMode a.snk.toNat)
      || (if a.auto 0 then !(s.stdPhys a.snk.toNat a.ethRate.toNat).isEmpty
          else (s.stdPhys a.snk.toNat a.ethRate.toNat).any fun p => phySlots p == maskSlots (a.mask 0))
    srcOk && snkOk

/-- The Class A rules of R35 and R264. -/
def State.classAOk (s : State) (a : ClientAddArgs) : Bool :=
  let fec := fun g i => let v := s.slF g i F.SL_CTL_FEC; v == 0 || v == 3
  a.cls.toNat != 0 || (a.octets.all (fun o => !s.b (R.RX_OCT_STAT o) F.RX_OCT_STAT_PHASE_MODE)
    && (!a.slotSrc || fec a.src.toNat a.srcLane.toNat) && (!a.slotSnk || fec a.snk.toNat a.snkLane.toNat))

/-- The slot lanes of the ends are free in the direction used (R251). -/
def State.lanesFree (s : State) (a : ClientAddArgs) : Bool :=
  (!a.slotSrc || (s.phy a.src.toNat a.srcLane.toNat).all fun k => !s.b (R.SL_STAT a.src.toNat k) F.SL_STAT_RX_BOUND)
    && (!a.slotSnk || (s.phy a.snk.toNat a.snkLane.toNat).all fun k => !s.b (R.SL_STAT a.snk.toNat k) F.SL_STAT_TX_BOUND)

/-- Checks 1 to 6 of R254, made at acceptance. -/
def State.addAccept (s : State) (a : ClientAddArgs) : Option Nat :=
  if !s.addFieldsOk a then some St.BAD_FIELD
  else if s.defined a.client.toNat then some St.CLIENT_EXISTS
  else if !s.pathOn a then some St.DOMAIN_OFF
  else if !s.stdRulesOk a then some St.MODE_CONFLICT
  else if !s.classAOk a then some St.CLASS_CONFLICT
  else if !s.lanesFree a then some St.LANE_IN_USE
  else none

/-- The selection of one copy of an add. -/
def State.addSlots (s : State) (a : ClientAddArgs) (copy : Nat) : Option (List Nat) :=
  let o := if copy = 0 then a.snk.toNat else a.snk1Oct.toNat
  s.chooseSlots o a.slots a.ethRate.toNat (a.auto copy) (a.mask copy) (s.calBase o)

/-- Class B capacity (R36, R281, R294). -/
def State.dskRoom (s : State) (a : ClientAddArgs) : Bool :=
  !a.b || (s.b R.GD_STAT F.GD_STAT_READY && decide (s.dskKb + a.kb ≤ 3200000000)
    && decide (s.dskUsed + dskUnits a.cbr a.kb ≤ 2304))

/-- Checks 2 and 6 to 9 of R254, made at the tick. -/
def State.addTick (s : State) (a : ClientAddArgs) : Option Nat :=
  if s.defined a.client.toNat then some St.CLIENT_EXISTS
  else if !s.lanesFree a then some St.LANE_IN_USE
  else if a.lineSnk && ((s.addSlots a 0).isNone || (a.dual && (s.addSlots a 1).isNone)) then some St.NO_SLOTS
  else if !s.dskRoom a then some St.NO_DESKEW
  else if a.sinks.any fun o => s.calBusy o then some St.CAL_BUSY
  else none

/-! ## Placement -/

/-- A client number in its place among the defined ones. -/
def insertNat (c : Nat) : List Nat → List Nat
  | [] => [c]
  | x :: l => if c < x then c :: x :: l else if c = x then x :: l else x :: insertNat c l

/-- The definition registers of a new client (R273, R300). -/
def State.addDefine (s : State) (a : ClientAddArgs) : State :=
  let c := a.client.toNat
  let lanes := if a.slotSrc then (s.phy a.src.toNat a.srcLane.toNat).length
    else if a.slotSnk then (s.phy a.snk.toNat a.snkLane.toNat).length else 0
  let s := s.setFs (R.MAP_CLI_DEF c) [(F.MAP_CLI_DEF_DEFINED, 1), (F.MAP_CLI_DEF_KIND, a.kind.toNat),
    (F.MAP_CLI_DEF_ETH_RATE, if a.cbr then 0 else a.ethRate.toNat), (F.MAP_CLI_DEF_CBR_RATE, if a.cbr then a.cbrRate.toNat else 0),
    (F.MAP_CLI_DEF_CLASS, a.cls.toNat), (F.MAP_CLI_DEF_ENDS, a.ends.toNat), (F.MAP_CLI_DEF_SLOTS, a.slots)]
  let s := s.setFs (R.MAP_CLI_END c) [(F.MAP_CLI_END_SRC, a.src.toNat), (F.MAP_CLI_END_SRC_LANE, a.srcLane.toNat),
    (F.MAP_CLI_END_SNK, a.snk.toNat), (F.MAP_CLI_END_SNK_LANE, a.snkLane.toNat), (F.MAP_CLI_END_LANES, lanes),
    (F.MAP_CLI_END_FAR_TAG, if a.lineSrc then a.farTag.toNat else 0), (F.MAP_CLI_END_SIB_MASK, if a.lineSrc then a.sib.toNat else 0)]
  let s := s.setFs (R.PROT_END c) [(F.PROT_END_DUAL_SINK, bit a.dual), (F.PROT_END_SNK1_OCT, if a.dual then a.snk1Oct.toNat else 0),
    (F.PROT_END_ROUTE1_OCT, if a.b then a.route1Oct.toNat else 0), (F.PROT_END_ROUTE1_SIB, if a.b then a.route1Sib.toNat else 0)]
  let s := if a.b then
      (s.setProtCfg c a.protFlags.toNat a.uncThr.toNat a.holdOff.toNat a.wtr.toNat).setFs (R.PROT_STAT c) [
        (F.PROT_STAT_STATE, 1), (F.PROT_STAT_ACTIVE, a.protFlags.toNat % 2)]
    else s
  { s with map.defined := insertNat c s.map.defined }

/-- The slot lanes of a client's ends are bound, or unbound (R251, R255). -/
def State.bindLanes (s : State) (c : Nat) (on : Bool) : State :=
  let e := s.ends c
  let s := if slotSrcE e then
      s.each (s.phy (s.srcOct c) (s.eF c F.MAP_CLI_END_SRC_LANE)) fun k s =>
        s.setFs (R.SL_STAT (s.srcOct c) k) [(F.SL_STAT_RX_CLIENT, if on then c else 0), (F.SL_STAT_RX_BOUND, bit on)]
    else s
  if slotSnkE e then
    s.each (s.phy (s.snkOct c) (s.eF c F.MAP_CLI_END_SNK_LANE)) fun k s =>
      s.setFs (R.SL_STAT (s.snkOct c) k) [(F.SL_STAT_TX_CLIENT, if on then c else 0), (F.SL_STAT_TX_BOUND, bit on)]
  else s

/-- The slots of one copy of a new client go into the page being planned. -/
def State.addCopy (s : State) (a : ClientAddArgs) (copy : Nat) : State :=
  let o := if copy = 0 then a.snk.toNat else a.snk1Oct.toNat
  match s.addSlots a copy with
  | some l => s.calPut o ((s.calBase o).give a.client.toNat l).slots
  | none => s

/-- What a client command reports (R401): FC of frame F + 2 and head slot, for each sink. -/
def State.clientResult (s : State) (sinks : List (Option (Nat × Nat))) : List (Nat × Nat × Nat) :=
  let one := fun k off => match sinks.getD k none with
    | some (o, h) => [(off, 6, if s.stdMode o then 0 else s.calFrame o), (off + 6, 1, h)]
    | none => []
  one 0 32 ++ one 1 40

/-- The sinks of a client with their head slots in the page being planned. -/
def State.headsNow (s : State) (c : Nat) : List (Option (Nat × Nat)) :=
  (s.sinkOcts c).map fun o => some (o, ((s.calBase o).slotsOf c).headD 0)

/-- A client is added (R255). -/
def State.addPlace (s : State) (a : ClientAddArgs) : State :=
  let c := a.client.toNat
  let s := (s.setCli c {}).addDefine a
  let s := if a.lineSnk then (s.addCopy a 0) else s
  let s := if a.dual then s.addCopy a 1 else s
  (((s.headSlots c).bindLanes c true).bindEval c).mapRefresh

/-- CLIENT_ADD at its tick, the checks of acceptance having passed. -/
def State.clientAddTick (s : State) (cmd : Cmd) (a : ClientAddArgs) : State :=
  match s.addTick a with
  | some e =>
    let s := if e = St.CAL_BUSY then s.each (a.sinks.filter fun o => s.calBusy o) fun o s => s.calBusyCount o else s
    s.refuse cmd Op.CLIENT_ADD e
  | none =>
    let s := s.addPlace a
    s.ok cmd Op.CLIENT_ADD (s.clientResult (s.headsNow a.client.toNat))

/-- CLIENT_ADD (R254). -/
def execClientAdd (cmd : Cmd) (a : ClientAddArgs) (s : State) : Host.Outcome State Fault Refusal :=
  .next (s.ifHolder cmd Op.CLIENT_ADD (.clientAdd cmd a) a.client.toNat fun s => match s.addAccept a with
    | some e => s.refuse cmd Op.CLIENT_ADD e
    | none => s.clientAddTick cmd a)

/-! ## Modification and deletion (R257, R268) -/

/-- New slots for one copy of a client: its own slots count as free. -/
def State.moveSlots (s : State) (c copy : Nat) (auto : Bool) (mask : Nat) : Option (Nat × List Nat) :=
  let o := if copy = 0 then s.snkOct c else s.snk1 c
  (s.chooseSlots o (s.need c) (s.cF c F.MAP_CLI_DEF_ETH_RATE) auto mask ((s.calBase o).drop c)).map fun l => (o, l)

/-- Why a change of slots is refused before its slots are looked for. -/
def State.modifySlotsBad (s : State) (c copy : Nat) (auto : Bool) (mask : Nat) : Bool :=
  !lineSnkE (s.ends c) || s.dropped c || decide (2 ≤ copy) || (copy == 1 && !s.dual c)
    || (!auto && (maskSlots mask).length != s.need c)

/-- CLIENT_MODIFY at its tick. -/
def State.clientModify (s : State) (cmd : Cmd) (c what cls auto copy mask : Nat) : State :=
  let no := fun e => s.refuse cmd Op.CLIENT_MODIFY e
  if 512 ≤ c ∨ 4 ≤ cls ∨ 2 ≤ auto ∨ 2 ≤ copy then no St.BAD_FIELD
  else if !s.defined c then no St.NO_CLIENT
  else if what = 1 then
    (if (s.cls c = 2 ∨ s.cls c = 3) ∧ (cls = 2 ∨ cls = 3) then
      (s.setF (R.MAP_CLI_DEF c) F.MAP_CLI_DEF_CLASS cls).ok cmd Op.CLIENT_MODIFY []
     else no St.BAD_FIELD)
  else if what ≠ 2 ∨ s.modifySlotsBad c copy (auto % 2 == 1) mask = true then no St.BAD_FIELD
  else match s.moveSlots c copy (auto % 2 == 1) mask with
    | none => no St.NO_SLOTS
    | some (o, l) =>
      if s.calBusy o then (s.calBusyCount o).refuse cmd Op.CLIENT_MODIFY St.CAL_BUSY
      else
        let s := (s.calPut o (((s.calBase o).drop c).give c l).slots).headSlots c
        let hs := if copy = 0 then [some (o, l.headD 0)] else [none, some (o, l.headD 0)]
        s.ok cmd Op.CLIENT_MODIFY (s.clientResult hs)

/-- CLIENT_MODIFY (R257). -/
def execClientModify (cmd : Cmd) (client : BitVec 16) (what cls auto copy : BitVec 8) (mask : BitVec 128) (s : State) :
    Host.Outcome State Fault Refusal :=
  .next (s.ifHolder cmd Op.CLIENT_MODIFY (.clientModify cmd client what cls auto copy mask) client.toNat
    (·.clientModify cmd client.toNat what.toNat cls.toNat auto.toNat copy.toNat mask.toNat))

/-- The definition of a client is removed; counters stay. -/
def State.undefine (s : State) (c : Nat) : State :=
  let s := s.setReg (R.MAP_CLI_DEF c) (resetWord (R.MAP_CLI_DEF c))
  let s := s.setReg (R.MAP_CLI_END c) (resetWord (R.MAP_CLI_END c))
  let s := s.setF (R.MAP_CLI_STAT c) ⟨0, 41⟩ 0
  let s := s.setReg (R.PROT_END c) (resetWord (R.PROT_END c))
  let s := s.setReg (R.PROT_CFG c) (resetWord (R.PROT_CFG c))
  let s := (s.setReg (R.PROT_STAT c) (resetWord (R.PROT_STAT c))).setF (R.PROT_DELAY c) F.PROT_DELAY_DIFF 0
  { (s.setCli c {}) with
    map.defined := s.map.defined.filter (· != c), map.freeing := s.map.freeing.filter fun e => e.1 != c }

/-- CLIENT_DELETE at its tick. -/
def State.clientDelete (s : State) (cmd : Cmd) (c : Nat) : State :=
  let no := fun e => s.refuse cmd Op.CLIENT_DELETE e
  if 512 ≤ c then no St.BAD_FIELD
  else if !s.defined c then no St.NO_CLIENT
  else
    let busy := (s.sinkOcts c).filter fun o => s.calBusy o
    if !busy.isEmpty then (s.each busy fun o s => s.calBusyCount o).refuse cmd Op.CLIENT_DELETE St.CAL_BUSY
    else
      let hs := s.headsNow c
      let held := (s.sinkOcts c).filter fun o => !((s.calBase o).slotsOf c).isEmpty
      let s := s.each held fun o s => s.calPut o ((s.calBase o).drop c).slots
      let s := (((s.storeEnd c).bindLanes c false).undefine c).mapRefresh
      s.ok cmd Op.CLIENT_DELETE (s.clientResult hs)

/-- CLIENT_DELETE (R268). -/
def execClientDelete (cmd : Cmd) (client : BitVec 16) (s : State) : Host.Outcome State Fault Refusal :=
  .next (s.ifHolder cmd Op.CLIENT_DELETE (.clientDelete cmd client) client.toNat (·.clientDelete cmd client.toNat))

/-! ## At each tick edge -/

/-- A route delivers sub-frames whose latest C was not 0: C = 0 says that the far end's source cannot supply the client (R538). -/
def State.routeLive (s : State) (c r : Nat) : Bool :=
  s.routeOk c r && match s.bound c r with
    | some o =>
      s.stdMode o || match (s.rxSlots o (s.farTag c)).head? with
        | some k => Tab.get (fun _ => 0) (s.fo o).lastJc k != 0
        | none => false
    | none => false

/-- The source end supplies the client (R249): a slot PHY in UP, or a route that delivers. -/
def State.srcOk (s : State) (c : Nat) : Bool :=
  if slotSrcE (s.ends c) then s.slState (s.srcOct c) (s.eF c F.MAP_CLI_END_SRC_LANE) == 4 && s.sgUsable (s.srcOct c)
  else if s.cls c = 1 then
    let a := s.active c
    s.protState c != 1 && (s.routeLive c a || (s.protState c == 3 && s.b (R.PROT_CFG c) F.PROT_CFG_REPAIR && s.routeLive c (1 - a)))
  else s.routeLive c 0

/-- The sink end is bound and in force. -/
def State.sinkIn (s : State) (c : Nat) : Bool :=
  if lineSnkE (s.ends c) then (s.sinkOcts c).all fun o =>
    s.octUsable o && ((s.fo o).txPage.slotsOf c).length == s.need c
  else s.sgUsable (s.snkOct c)

/-- Every domain that a client's path crosses is usable (R42, R291): MAP, GDDR for Class B, the slot group of its source, and the octet of a
line source's route; the sink's own is part of its end. -/
def State.pathUsable (s : State) (c : Nat) : Bool :=
  s.usable domMAP && (s.cls c != 1 || s.usable domGDDR) && (!slotSrcE (s.ends c) || s.sgUsable (s.srcOct c))
    && (!lineSrcE (s.ends c) || (s.routes c).any fun r => match s.bound c r with | some o => s.octUsable o | none => true)

/-- The mapper carries traffic: only while this device is active, and the client's path is usable (R23, R42, R426). -/
def State.mapCarries (s : State) (c : Nat) : Bool :=
  s.pair.mapOn && s.pathUsable c && !s.dropped c && !s.shed c

/-- The client's sink emits replacement (R249): a slot sink that the mapper gives nothing to deliver, whatever the reason, among them a
fence, a shed client and a source that cannot supply it (R414, R538); a line sink whose slots are in force and whose source cannot. -/
def State.replacing (s : State) (c : Nat) (run ok : Bool) : Bool :=
  if slotSnkE (s.ends c) then s.sgUsable (s.snkOct c) && !(run && ok) else run && !ok

/-- What a client's slot sink repeats throughout the tick while it emits replacement (R249). -/
def State.replShow (s : State) (c : Nat) (on : Bool) : State :=
  let v := if on && slotSnkE (s.ends c) then some (s.fillItem c) else none
  if (s.path c).repl = v then s else s.setPath c { s.path c with repl := v }

/-- From here to the end of the tick the client's sink emits replacement: the tick counts once (R249, R454). -/
def State.replRest (s : State) (c : Nat) : State :=
  let run := s.b (R.MAP_CLI_STAT c) F.MAP_CLI_STAT_CARRYING
  if s.replacing c run (s.b (R.MAP_CLI_STAT c) F.MAP_CLI_STAT_SRC_OK) then s
  else (s.incF (R.MAP_CLI_CNT c) F.MAP_CLI_CNT_REPL_TICKS 1).replShow c true

/-- A client at a tick edge: binding, SRC_OK, CARRYING and replacement (R249, R252, R273). -/
def State.clientTick (s : State) (c : Nat) : State :=
  let s := s.bindEval c
  let ok := s.srcOk c
  let run := s.mapCarries c && s.sinkIn c
  let bound := slotSrcE (s.ends c) || (s.routes c).any fun r => (s.bound c r).isSome
  let s := s.setFs (R.MAP_CLI_STAT c) [(F.MAP_CLI_STAT_SRC_OK, bit ok), (F.MAP_CLI_STAT_CARRYING, bit (run && bound))]
  let s := if s.replacing c run ok then (s.incF (R.MAP_CLI_CNT c) F.MAP_CLI_CNT_REPL_TICKS 1).perf (perfClient 7 c) (s.replItems c s.tick) else s
  (s.replShow c (s.replacing c run ok)).protTick c

/-- Slots that wait to be freed go in the first page that R179 allows (R450). -/
def State.freeingTick (s : State) : State :=
  let ready := s.map.freeing.filter fun e => !s.calBusy e.2
  let s := { s with map.freeing := s.map.freeing.filter fun e => s.calBusy e.2 }
  s.each ready fun e s =>
    if ((s.calBase e.2).slotsOf e.1).isEmpty then s else s.calPut e.2 ((s.calBase e.2).drop e.1).slots

end Sys2Proof.Machine
end

