-- ==== Sys2Proof/Machine/Transmit.lean ====
section
/-!
DEFINITION. Commands and events of the line transmit path (chapter 3).
-/

namespace Sys2Proof.Machine

/-- The octet and its frame domain are On, and no entry of the octet domain to Retention or Off has been accepted (R107,
R112). -/
def State.txServes (s : State) (o : Nat) : Bool := s.octOn o && s.yfecOn o && !(s.txo o).entering

/-- Why TX_ENABLE (`enable`) or TX_STEP is refused before it reaches the lane's request path (R112, R425, R450, R540). -/
def State.txRefusal (s : State) (enable : Bool) (o l k : Nat) : Option Nat :=
  if 16 ≤ o ∨ 9 ≤ l ∨ k = 0 ∨ 16 ≤ k then some St.BAD_FIELD
  else if enable && !s.holdsLock then some St.NOT_ACTIVE
  else if !s.txServes o then some St.DOMAIN_OFF
  else if s.reg (R.LAUNCH o l k) = 0 then some St.BAD_FIELD
  else if s.fltState 2 o 0 = 3 then some St.SYN_CAL_FAIL
  else if (s.txl o l).reefStep.isSome then some St.REEF_HELD
  else none

/-- TX_ENABLE and TX_STEP at their tick edge. -/
def State.txRequest (s : State) (c : Cmd) (op : LaunchOp) (o l k : Nat) : State :=
  match s.txRefusal (decide (op = .enable)) o l k with
  | some e => s.refuse c op.code e
  | none =>
    let s := if op = .step then s.setTxl o l { s.txl o l with hostStep := some k } else s
    s.launchTake o l ⟨op, k, some c, .host, s.tick⟩

/-- TX_ENABLE (R107, R112). -/
def execTxEnable (cmd : Cmd) (octet lane launch : BitVec 8) (s : State) : Host.Outcome State Fault Refusal :=
  .next (s.txRequest cmd .enable octet.toNat lane.toNat launch.toNat)

/-- TX_STEP (R107, R112). -/
def execTxStep (cmd : Cmd) (octet lane launch : BitVec 8) (s : State) : Host.Outcome State Fault Refusal :=
  .next (s.txRequest cmd .step octet.toNat lane.toNat launch.toNat)

/-- TX_DISABLE at its tick edge (R112, R113, R540). -/
def State.txDisable (s : State) (c : Cmd) (o l force : Nat) : State :=
  if 16 ≤ o ∨ 9 ≤ l ∨ 2 ≤ force then s.refuse c Op.TX_DISABLE St.BAD_FIELD
  else if !s.holdsLock then s.refuse c Op.TX_DISABLE St.NOT_ACTIVE
  else if !s.octOn o || (s.txo o).entering then s.refuse c Op.TX_DISABLE St.DOMAIN_OFF
  else if force = 0 ∧ s.laneInUse o l = true then s.refuse c Op.TX_DISABLE St.LANE_IN_USE
  else
    let s := s.setTxl o l { s.txl o l with reefStep := none, resume := none, resumePost := false }
    s.launchTake o l ⟨.disable, 0, some c, .host, s.tick⟩

/-- TX_DISABLE (R112, R113). -/
def execTxDisable (cmd : Cmd) (octet lane force : BitVec 8) (s : State) : Host.Outcome State Fault Refusal :=
  .next (s.txDisable cmd octet.toNat lane.toNat force.toNat)

/-- SYN_CAL at its tick edge (R92, R93): RETRY takes synthesisers out of FAIL, and the command completes when the calibration it
starts or joins ends. -/
def State.synCalCmd (s : State) (c : Cmd) (o retry : Nat) : State :=
  if 16 ≤ o ∨ 2 ≤ retry then s.refuse c Op.SYN_CAL St.BAD_FIELD
  else if !s.octOn o || (s.txo o).entering then s.refuse c Op.SYN_CAL St.DOMAIN_OFF
  else
    let s := if retry = 1 then s.synUnfail o else s
    let (s, ok) := s.synCal o
    if ok then s.setTxo o { s.txo o with waiting := (s.txo o).waiting ++ [{ c with eff := s.tick }] }
    else s.refuse c Op.SYN_CAL St.SYN_CAL_FAIL

/-- SYN_CAL (R92). -/
def execSynCal (cmd : Cmd) (octet retry : BitVec 8) (s : State) : Host.Outcome State Fault Refusal :=
  .next (s.synCalCmd cmd octet.toNat retry.toNat)

/-- The temperature trigger (R91, R92): the calibration it starts begins at the next tick edge; with the other synthesiser in FAIL
it posts SYN_DRIFT.  The comparison of each 100 ticks is that of the ticks whose number is a multiple of 100 (log entry 127). -/
def State.synTempCheck (s : State) (o : Nat) : State :=
  let y := if s.syn o 0 = 5 then 0 else 1
  if s.octOn o && decide (s.tick % 100 = 0) && s.b (R.TX_SYN_CTL o) F.TX_SYN_CTL_AUTO_CAL && s.synRun o && !s.synBusy o
      && !s.synWarm o y then
    if s.syn o (1 - y) = 6 then s.event Ev.SYN_DRIFT o noLane []
    else s.setTxo o { s.txo o with calNext := true }
  else s

/-- SYN_TEMP_CHECK (R91). -/
def execSynTempCheck (o : Fin 16) (s : State) : Host.Outcome State Fault Refusal := .next (s.synTempCheck o)

/-- A calibrating synthesiser is locked and calibrated (R93): it aligns to the running one, or enters RUN at the next edge. -/
def State.synCalComplete (s : State) (o y : Nat) : State :=
  if s.syn o y = 3 ∧ (s.txo o).runNext ≠ y + 1 then
    let s := s.setReg (R.TX_SYN_CAL o y) 0
    let s := (s.setI (R.TX_SYN_CAL o y) F.TX_SYN_CAL_CAL_TEMP (s.octTemp o)).setF (R.TX_SYN_CAL o y) F.TX_SYN_CAL_CAL_TICK
      (s.tick % 2 ^ 48)
    let x := s.txo o
    let s := s.setTxo o (if y = 0 then { x with validA := true } else { x with validB := true })
    if s.synRun o then s.setSyn o y 4 else s.synSoon o y false
  else s

/-- SYN_CAL_COMPLETE (R93). -/
def execSynCalComplete (o : Fin 16) (syn : Fin 2) (s : State) : Host.Outcome State Fault Refusal :=
  .next (s.synCalComplete o syn)

/-- A calibration has not completed within 300 ticks (R93). -/
def State.synCalTimeout (s : State) (o y : Nat) : State :=
  if s.syn o y = 3 ∧ s.synEnt o y + 300 ≤ s.tick ∧ (s.txo o).runNext ≠ y + 1 then s.synFail o y Ev.SYN_CAL_FAIL else s

/-- SYN_CAL_TIMEOUT (R93). -/
def execSynCalTimeout (o : Fin 16) (syn : Fin 2) (s : State) : Host.Outcome State Fault Refusal :=
  .next (s.synCalTimeout o syn)

/-- A synthesiser in LOCK locks (R93): it enters RUN at the next tick edge. -/
def State.synRelock (s : State) (o y : Nat) : State := if s.syn o y = 2 then s.synSoon o y false else s

/-- SYN_RELOCK (R93). -/
def execSynRelock (o : Fin 16) (syn : Fin 2) (s : State) : Host.Outcome State Fault Refusal := .next (s.synRelock o syn)

/-- A relock has not ended within 100 ticks (R93): a full calibration follows. -/
def State.synRelockTimeout (s : State) (o y : Nat) : State :=
  if s.syn o y = 2 ∧ s.synEnt o y + 100 ≤ s.tick ∧ (s.txo o).runNext ≠ y + 1 then
    (s.setSyn o y 3).setTxo o { (s.setSyn o y 3).txo o with calSyn := y + 1 }
  else s

/-- SYN_RELOCK_TIMEOUT (R93). -/
def execSynRelockTimeout (o : Fin 16) (syn : Fin 2) (s : State) : Host.Outcome State Fault Refusal :=
  .next (s.synRelockTimeout o syn)

/-- An aligning synthesiser has matched the running one on 8 measurements (R93): the handover is made at the next tick edge. -/
def State.synHandover (s : State) (o y : Nat) : State :=
  if s.syn o y = 4 then s.synSoon o y true else s

/-- HANDOVER (R93). -/
def execHandover (o : Fin 16) (syn : Fin 2) (s : State) : Host.Outcome State Fault Refusal := .next (s.synHandover o syn)

/-- Alignment has not ended within 100 ticks (R93). -/
def State.synAlignFail (s : State) (o y : Nat) : State :=
  if s.syn o y = 4 ∧ s.synEnt o y + 100 ≤ s.tick ∧ (s.txo o).runNext ≠ y + 1 then s.synFail o y Ev.SYN_ALIGN_FAIL else s

/-- SYN_ALIGN_FAIL (R93). -/
def execSynAlignFail (o : Fin 16) (syn : Fin 2) (s : State) : Host.Outcome State Fault Refusal := .next (s.synAlignFail o syn)

/-- The running synthesiser loses lock (R93, R95): one in ALIGN runs at the next edge; otherwise a calibration starts. -/
def State.synUnlock (s : State) (o : Nat) : State :=
  if s.synRun o then
    let y := if s.syn o 0 = 5 then 0 else 1
    let s := (s.setSyn o y 1).incF (R.TX_SYN_STAT o) F.TX_SYN_STAT_UNLOCK_CNT 1
    let s := s.event Ev.SYN_UNLOCK o noLane []
    let s := s.setTxo o { s.txo o with lossTick := some s.tick }
    if s.syn o (1 - y) = 4 then s.synSoon o (1 - y) false else (s.synCal o).1
  else s

/-- SYN_UNLOCK (R93). -/
def execSynUnlock (o : Fin 16) (s : State) : Host.Outcome State Fault Refusal := .next (s.synUnlock o)

/-- The octet's transmit fault manager classifies a fault (R448 to R450): a retry calibrates again and lets the lanes ramp back;
a permanent fault keeps them dark. -/
def State.octTxFault (s : State) (o kind : Nat) (back : List (Nat × Nat)) : State :=
  let (s, k) := s.fltFault 2 o 0 kind 200
  if k = 1 then
    let s := ((s.synUnfail o).synCal o).1
    s.each back fun e s => s.setTxl o e.1 { s.txl o e.1 with resume := some e.2, resumePost := false }
  else if k = 2 then
    let s := s.each lanes9 fun l s => s.setTxl o l { s.txl o l with resume := none }
    s.event Ev.OCT_TX_FAIL o noLane []
  else s

/-- No synthesiser has reached RUN within PLL_LOCK_TIMEOUT of the loss (R95): every lit lane ramps down. -/
def State.synNone (s : State) (o : Nat) : State :=
  match (s.txo o).lossTick with
  | some t =>
    if t + s.f (R.TX_SYN_CTL o) F.TX_SYN_CTL_PLL_LOCK_TIMEOUT ≤ s.tick ∧ s.synRun o = false then
      let s := s.setTxo o { s.txo o with lossTick := none }
      let lit := lanes9.filter fun l => s.txState o l == 2 || s.txState o l == 3 || s.txState o l == 4
      let back := lit.map fun l => (l, (s.laneResumeStep o l).getD 0)
      let s := s.event Ev.SYN_NONE o noLane []
      let s := s.each lit fun l s => s.launchSelf o l .disable 0 .domain
      s.octTxFault o 8 back
    else s
  | none => s

/-- SYN_NONE (R95). -/
def execSynNone (o : Fin 16) (s : State) : Host.Outcome State Fault Refusal := .next (s.synNone o)

/-- A lane has waited PLL_LOCK_TIMEOUT for a synthesiser (R96). -/
def State.lockTimeout (s : State) (o l : Nat) : State :=
  if s.txState o l = 1 ∧ (s.txl o l).start + s.f (R.TX_SYN_CTL o) F.TX_SYN_CTL_PLL_LOCK_TIMEOUT ≤ s.tick
      ∧ s.synRun o = false then
    let x := s.txl o l
    let s := (s.setTxl o l { x with cur := none, doneTick := s.tick }).setTxState o l 0
    match x.cur with | some r => s.launchDone o l r St.LOCK_TIMEOUT 0 | none => s
  else s

/-- LOCK_TIMEOUT (R96). -/
def execLockTimeout (o : Fin 16) (l : Fin 9) (s : State) : Host.Outcome State Fault Refusal := .next (s.lockTimeout o l)

end Sys2Proof.Machine
end

