-- ==== Sys2Proof/Machine/Faults.lean ====
section
/-!
DEFINITION. Fault managers' timed events and FLT_CLEAR (R447 to R450, R476).
-/

namespace Sys2Proof.Machine

/-- A fault on any manager (R447): the unit concerned does what R449 and R450 give it. -/
def State.unitFault (s : State) (k u l kind : Nat) : State :=
  if k = 0 then s.laneFault u l kind else if k = 1 then s.phyFault u l kind else s.octTxFault u kind []

/-- RAW_LOS has been held for LOS_MAX ticks, or for LOS_MAX more (R447); the manager of a slot PHY is that of its start lane. -/
def State.losLong (s : State) (k u l : Nat) : State :=
  if !s.fltLosLong k u l || s.fltState k u l == 2 || s.fltState k u l == 3 then s
  else
    let s := s.setFlt k u l { s.fltUnit k u l with los := some s.tick, long := true }
    s.unitFault k u l 6

/-- LOS_LONG (R447). -/
def execLosLong (slot : Bool) (u l : Fin 16) (s : State) : Host.Outcome State Fault Refusal :=
  .next (if slot then (if s.phyHead u l = l then s.losLong 1 u l else s) else if l.val < 9 then s.losLong 0 u l else s)

/-- A retry has missed its limit, which is a fault of its own (R449). -/
def State.retryTimeout (s : State) (k u l : Nat) : State := if s.fltLate k u l then s.unitFault k u l 9 else s

/-- RETRY_TIMEOUT (R449). -/
def execRetryTimeout (k : Fin 3) (u l : Fin 16) (s : State) : Host.Outcome State Fault Refusal :=
  .next (if k.val = 0 ∧ 9 ≤ l.val then s else s.retryTimeout k u (if k.val = 2 then 0 else l))

/-- The arguments of FLT_CLEAR name a manager: a line lane, the start lane of a slot PHY, or an octet's transmitters (R476). -/
def State.fltNamed (s : State) (k u l : Nat) : Bool :=
  decide (u < 16) && (if k = 0 then decide (l < 9) else if k = 1 then decide (l < 16) && s.phyHead u l == l else k == 2)

/-- FLT_CLEAR at its tick (R476): the windows are emptied, and PERMANENT ends on every lane of a slot PHY and on an octet's
transmitters. -/
def State.fltClearCmd (s : State) (c : Cmd) (k u l : Nat) : State :=
  if !s.fltNamed k u l then s.refuse c Op.FLT_CLEAR St.BAD_FIELD
  else if !s.isOn (if k = 1 then domSG u else domOct u) then s.refuse c Op.FLT_CLEAR St.DOMAIN_OFF
  else
    let before := s.fltState k u l
    let s := if k = 1 then s.each (s.phy u l) fun i s => s.fltClear 1 u i
      else s.fltClear k u (if k = 2 then 0 else l)
    s.ok c Op.FLT_CLEAR [(32, 1, before)]

/-- FLT_CLEAR (R476). -/
def execFltClear (cmd : Cmd) (kind unit lane : BitVec 8) (s : State) : Host.Outcome State Fault Refusal :=
  .next (s.fltClearCmd cmd kind.toNat unit.toNat lane.toNat)

end Sys2Proof.Machine
end

