-- ==== Sys2Proof/Machine/Rings.lean ====
section
/-!
DEFINITION. Host rings (chapter 11): ring operations, doorbells, the writing of completions, events and telemetry, interrupts,
AUDIT, RING_RESYNC, NOP, and what happens to the link and the endpoint.
-/

namespace Sys2Proof.Machine

/-! ## Ring operations (R374 to R376, R398) -/

/-- RING_OP_STAT after an operation: DONE, with its error and ring (R375, R408). -/
def State.ringOpDone (s : State) (r err : Nat) : State :=
  s.setReg R.RING_OP_STAT (BitVec.ofNat 64 (1 + 2 * err + 16 * r))

/-- ERR codes (R408). -/
def errEXISTS : Nat := 1
def errNO_RING : Nat := 2
def errBAD : Nat := 3
def errIN_USE : Nat := 4

/-- A write to RING_OP reaches the ring engine only while its domain is On (R465). -/
def State.ringOp (s : State) (g : State → State) : State :=
  match s.blockedBy R.RING_OP with
  | some d => s.offAccess R.RING_OP d 3 true false 0
  | none => g s

/-- RING_CTX_D of a ring (R408). -/
def Ring.ctxD (q : Ring) : Word :=
  BitVec.ofNat 64 (q.head + 2 ^ 16 * q.tail + 2 ^ 32 * q.expHseq + 2 ^ 48 * q.state + 2 ^ 51 * q.cause)

/-- OUTSTANDING as R399 gives it: commands for an SQ, reservations for a CQ, 0 for the others. -/
def Ring.outstanding (q : Ring) : Nat := if q.typ = 1 then q.outst else if q.typ = 2 then q.resv else 0

/-- RING_CTX_E of a ring (R408). -/
def Ring.ctxE (q : Ring) : Word := BitVec.ofNat 64 (q.lastDseq + 2 ^ 32 * q.outstanding + 2 ^ 48 * q.dbHseq)

/-- RING_CTX_B of a ring (R408). -/
def Ring.ctxB (q : Ring) : Word :=
  BitVec.ofNat 64 (q.typ + 2 ^ 3 * q.log2 + 2 ^ 8 * q.vector + 2 ^ 19 * bit q.intEn + 2 ^ 20 * q.modCount
    + 2 ^ 28 * q.modTicks + 2 ^ 36 * q.cq)

/-- READ copies a ring's whole context into the RING_CTX registers (R374). -/
def State.ringRead (s : State) (r : Nat) : State :=
  let q := s.ring r
  ((((((s.setReg R.RING_CTX_A (BitVec.ofNat 64 q.base)).setReg R.RING_CTX_B q.ctxB).setReg R.RING_CTX_C q.ctxC).setReg
    R.RING_CTX_D q.ctxD).setReg R.RING_CTX_E q.ctxE)).ringOpDone r 0

/-- RING_OP with OP = READ (R374). -/
def execRingOpRead (ring : Fin 65536) (s : State) : Host.Outcome State Fault Refusal :=
  .next (s.ringOp (·.ringRead ring))

/-- The ring that the staging registers describe (R373, R376, R408). -/
def State.stagedRing (s : State) : Ring :=
  let b := R.RING_CTX_B
  let typ := s.f b F.RING_CTX_B_TYPE
  { typ := typ, base := s.f R.RING_CTX_A F.RING_CTX_A_BASE * 4096, log2 := s.f b F.RING_CTX_B_LOG2_SIZE,
    vector := s.f b F.RING_CTX_B_VECTOR, intEn := s.b b F.RING_CTX_B_INT_EN, modCount := s.f b F.RING_CTX_B_MOD_COUNT,
    modTicks := s.f b F.RING_CTX_B_MOD_TICKS, cq := s.f b F.RING_CTX_B_CQ, ctxC := s.reg R.RING_CTX_C,
    expHseq := if typ = 1 then s.f R.RING_CTX_C F.RING_CTX_C_INIT_HSEQ else 0, state := 1, tqFrom := s.tick }

/-- Whether a CREATE is refused with BAD (R373, R375, R408). -/
def State.createBad (s : State) (r : Nat) (q : Ring) : Bool :=
  decide (q.typ < 1) || decide (5 < q.typ) || decide (q.log2 < 4) || decide (16 < q.log2) || decide (q.modCount = 0)
    || (q.typ == 1 && (s.ring q.cq).typ != 2)
    || (r == 0 && !(q.typ == 1 && q.cq == 1)) || (r == 1 && q.typ != 2)
    || (q.typ == 4 && (tqPeriod q.ctxC == 0 || tqSections q.ctxC == 0))

/-- CREATE (R375, R376). -/
def State.ringCreate (s : State) (r : Nat) : State :=
  let q := s.stagedRing
  if (s.ring r).typ ≠ 0 then s.ringOpDone r errEXISTS
  else if s.createBad r q then s.ringOpDone r errBAD
  else (s.setRing r { q with tqLast := if q.typ = 4 then s.totals q.ctxC else [] }).ringOpDone r 0

/-- RING_OP with OP = CREATE (R376). -/
def execRingOpCreate (ring : Fin 65536) (s : State) : Host.Outcome State Fault Refusal :=
  .next (s.ringOp (·.ringCreate ring))

/-- Whether a ring is in use, so that DESTROY is refused (R375). -/
def State.ringInUse (s : State) (r : Nat) : Bool :=
  let q := s.ring r
  (q.typ == 1 && decide (0 < q.outst))
    || (q.typ == 2 && (decide (0 < q.resv) || s.host.rings.any fun x => x.2.typ == 1 && x.2.cq == r))
    || (q.typ == 5 && ((List.range 16).any (fun o => s.f (R.HALY_CTL o) F.HALY_CTL_MQ_RING == r)
        || (List.range 2).any fun p => s.f (R.TP_CTL p) F.TP_CTL_MQ_RING == r))
    || (s.b R.SAMP_CTL F.SAMP_CTL_EN && s.f R.SAMP_CTL F.SAMP_CTL_RING == r)

/-- DESTROY (R375). -/
def State.ringDestroy (s : State) (r : Nat) : State :=
  if (s.ring r).typ = 0 then s.ringOpDone r errNO_RING
  else if s.ringInUse r then s.ringOpDone r errIN_USE
  else (s.setRing r {}).ringOpDone r 0

/-- RING_OP with OP = DESTROY (R375). -/
def execRingOpDestroy (ring : Fin 65536) (s : State) : Host.Outcome State Fault Refusal :=
  .next (s.ringOp (·.ringDestroy ring))

/-- A ring can be resynchronised: it is an SQ, and HEAD lies below its size (R398). -/
def State.resyncOk (s : State) (r head : Nat) : Bool := (s.ring r).typ == 1 && decide (head < (s.ring r).size)

/-- A resync sets HEAD and the expected HSEQ and puts the ring in RUN (R398). -/
def State.resync (s : State) (r head hseq : Nat) : State :=
  s.setRing r { s.ring r with head := head, expHseq := hseq, state := 1 }

/-- RING_OP with OP = RESYNC acts at once; the expected HSEQ comes from RING_CTX_C (R398). -/
def execRingOpResync (ring : Fin 65536) (head : BitVec 16) (s : State) : Host.Outcome State Fault Refusal :=
  .next (s.ringOp fun s =>
    if s.resyncOk ring head.toNat then
      (s.resync ring head.toNat (s.f R.RING_CTX_C F.RING_CTX_C_INIT_HSEQ)).ringOpDone ring 0
    else s.ringOpDone ring errBAD)

/-- RING_RESYNC at its tick (R398): the named ring is checked again. -/
def State.ringResyncCmd (s : State) (c : Cmd) (ring head hseq : Nat) : State :=
  if ring = 0 ∨ ¬ s.resyncOk ring head then s.refuse c Op.RING_RESYNC St.BAD_FIELD
  else (s.resync ring head hseq).ok c Op.RING_RESYNC []

/-- RING_RESYNC (R398). -/
def execRingResync (cmd : Cmd) (ring head expHseq : BitVec 16) (s : State) : Host.Outcome State Fault Refusal :=
  .next (s.ringResyncCmd cmd ring.toNat head.toNat expHseq.toNat)

/-- NOP does nothing and completes (R401). -/
def execNop (cmd : Cmd) (s : State) : Host.Outcome State Fault Refusal := .next (s.ok cmd Op.NOP [])

/-! ## AUDIT (R399) -/

/-- The 16-byte record of a ring. -/
def Ring.auditBytes (q : Ring) : List Byte :=
  leBytes 2 q.head ++ leBytes 2 q.tail ++ leBytes 2 q.expHseq ++ leBytes 1 (q.typ + 8 * q.state) ++ leBytes 1 q.cause
    ++ leBytes 4 q.lastDseq ++ leBytes 2 q.outstanding ++ leBytes 2 (if q.typ = 1 then q.cq else 0)

/-- With FREEZE, every SQ of the range other than ring 0 that is in RUN enters HOLD. -/
def State.freeze (s : State) (first count : Nat) : State :=
  let rs := (s.host.rings.filter fun x =>
    decide (first ≤ x.1) && decide (x.1 < first + count) && x.1 != 0 && x.2.typ == 1 && x.2.state == 1).map (·.1)
  s.each rs fun r s => s.setRing r { s.ring r with state := 3 }

/-- The records of AUDIT's snapshot.  FREEZE and the snapshot act at the same edge; a frozen ring's record shows HOLD, as
in the worked example. -/
def State.audit (s : State) (c : Cmd) (first count freeze addr : Nat) : State :=
  let s := if freeze % 2 = 1 then s.freeze first count else s
  let bytes := (List.range count).flatMap fun k => (s.ring (first + k)).auditBytes
  (s.dma addr bytes).ok c Op.AUDIT [(32, 3, count), (40, 8, s.tick)]

/-- AUDIT (R399); an argument outside its listed encodings completes with BAD_FIELD (R17). -/
def execAudit (cmd : Cmd) (first : BitVec 16) (count : BitVec 24) (freeze : BitVec 8) (addr : BitVec 64) (s : State) :
    Host.Outcome State Fault Refusal :=
  .next (if count.toNat = 0 ∨ 65536 < first.toNat + count.toNat ∨ 2 ≤ freeze.toNat ∨ addr.toNat % 64 ≠ 0 then
      s.refuse cmd Op.AUDIT St.BAD_FIELD
    else s.audit cmd first.toNat count.toNat freeze.toNat addr.toNat)

/-! ## Doorbells (R378, R379) -/

/-- A doorbell that R379 discards: logged with BAR = 1 and counted. -/
def State.doorbellBad (s : State) (r : Nat) (v : Word) : State :=
  (s.logEntry ⟨8 * r, logREFUSED, true, false, 3, 63, 1, s.tick, v⟩).incF R.RING_CNT F.RING_CNT_DB_BAD 1

/-- A doorbell to a ring that is not created (R379). -/
def State.doorbellIgnored (s : State) : State := s.incF R.RING_CNT F.RING_CNT_DB_IGNORED 1

/-- A doorbell of a submission ring (R378, R379).  It halts the ring where TAIL would make it hold more than 2^n - 1
entries, which the new TAIL can do only by lying at or beyond the ring's size. -/
def State.sqDoorbell (s : State) (r tail hseq : Nat) (v : Word) : State :=
  let q := s.ring r
  if q.typ = 0 then s.doorbellIgnored
  else if tail = q.tail then s
  else if q.size ≤ tail then (s.doorbellBad r v).halt r 4
  else s.setRing r { q with tail := tail, dbHseq := hseq }

/-- A doorbell of a device-written ring (R378, R379). -/
def State.headDoorbell (s : State) (r head : Nat) (v : Word) : State :=
  let q := s.ring r
  let moved := (head + q.size - q.head) % q.size
  if q.typ = 0 then s.doorbellIgnored
  else if head = q.head then s
  else if q.size ≤ head ∨ q.held < moved then s.doorbellBad r v
  else s.setRing r { q with head := head, unread := freeEntries moved q.unread, signalled := false }

/-- A doorbell by the type of the ring it names. -/
def State.doorbell (s : State) (r : Nat) (v : Word) : State :=
  let s := s.perf 0xB04 1
  if (s.ring r).typ = 1 then s.sqDoorbell r (v.toNat % 65536) (v.toNat / 65536 % 65536) v
  else s.headDoorbell r (v.toNat % 65536) v

/-- SQ_DOORBELL: a BAR2 write to a submission ring; on a ring of another type it is that ring's doorbell (R379). -/
def execSqDoorbell (ring : Fin 65536) (v : BitVec 64) (s : State) : Host.Outcome State Fault Refusal :=
  .next (s.doorbell ring v)

/-- HEAD_DOORBELL: a BAR2 write to a device-written ring; on a submission ring it is that ring's doorbell (R379). -/
def execHeadDoorbell (ring : Fin 65536) (v : BitVec 64) (s : State) : Host.Outcome State Fault Refusal :=
  .next (s.doorbell ring v)

/-! ## Writing of records -/

/-- COMPLETION_WRITE: the oldest completion is written, unless the link is down or the endpoint is in D3hot, where it is held
(R372, R389, R608); a customer task's completion goes to its inbox all the same. -/
def State.completionWrite (s : State) : State :=
  match s.host.compQ with
  | [] => s
  | c :: q =>
    if s.canWrite then { s with host.compQ := q }.deliverCompletion c
    else match (c :: q).find? fun (x : CompRec) => decide (65536 ≤ x.ring) with
      | some x => { s with host.compQ := (c :: q).erase x }.deliverCompletion x
      | none => s

/-- COMPLETION_WRITE (R389). -/
def execCompletionWrite (s : State) : Host.Outcome State Fault Refusal := .next s.completionWrite

/-- EVENT_WRITE: the oldest event goes to every ring that subscribes to its category (R392, R394). -/
def State.eventWrite (s : State) : State :=
  match s.host.evQ with
  | [] => s
  | e :: q => { s with host.evQ := q }.deliverEvent e

/-- EVENT_WRITE (R392). -/
def execEventWrite (s : State) : Host.Outcome State Fault Refusal := .next s.eventWrite

/-- TELEMETRY_WRITE: the oldest telemetry record is written to its ring, with the tick of its snapshot (R403). -/
def State.telemetryWrite (s : State) : State :=
  match s.host.recQ with
  | [] => s
  | x :: q =>
    let s := { s with host.recQ := q }
    if (s.ring x.ring).typ = 4 then s.writeRecord x.ring x.kind x.tick x.entries else s

/-- TELEMETRY_WRITE (R403). -/
def execTelemetryWrite (s : State) : Host.Outcome State Fault Refusal := .next s.telemetryWrite

/-- MSIX_SIGNAL: a ring whose interrupt condition holds signals its vector, and signals again only after a head doorbell
(R393). -/
def State.msixSignal (s : State) (r : Nat) : State :=
  if s.intReady r && s.canWrite then
    let q := s.ring r
    { s.setRing r { q with signalled := true } with host.msix := s.host.msix ++ [q.vector] }
  else s

/-- MSIX_SIGNAL (R393). -/
def execMsixSignal (ring : Fin 65536) (s : State) : Host.Outcome State Fault Refusal := .next (s.msixSignal ring)

/-! ## Link and endpoint -/

/-- The endpoint stops writing records, at the present tick (R372, R608). -/
def State.stopRecords (s : State) : State :=
  if s.canWrite then { s with host.downTick := s.tick, host.downDrops := 0 } else s

/-- Event, telemetry and message records that were produced while the endpoint could not write are dropped, each with its DSEQ (R372). -/
def State.flushDown (s : State) : State :=
  let recs := s.host.recQ
  let s := recs.foldl (fun s x => if (s.ring x.ring).typ = 4 then s.writeRecord x.ring x.kind x.tick x.entries else s)
    { s with host.recQ := [] }
  let evs := s.host.evQ
  evs.foldl (fun s e => s.deliverEvent e) { s with host.evQ := [] }

/-- The endpoint writes records again: held completions first, then one LINK_DOWN event (R372, R608). -/
def State.resumeRecords (s : State) : State :=
  let held := s.host.compQ
  let s := { s with host.compQ := [] }
  let s := held.foldl (fun s c => s.deliverCompletion c) s
  s.event Ev.LINK_DOWN noObj noLane [s.tick - s.host.downTick, s.host.downDrops, held.length]

/-- LINK_DOWN (R372). -/
def execLinkDown (s : State) : Host.Outcome State Fault Refusal :=
  .next { s.stopRecords with host.linkUp := false }

/-- LINK_UP: a link that returns, in D0, resumes records; the first link-up after a reset reports nothing (R372). -/
def State.linkUpOp (s : State) : State :=
  if s.host.linkUp then s
  else
    let w := if s.host.everUp then s.flushDown else s
    let s' := { w with host.linkUp := true, host.everUp := true }
    if s.host.everUp && !s.host.d3 then s'.resumeRecords else s'

/-- LINK_UP (R372). -/
def execLinkUp (s : State) : Host.Outcome State Fault Refusal := .next s.linkUpOp

/-- A Function Level Reset destroys every ring context and every record not yet written; accepted commands stay (R371). -/
def State.flr (s : State) : State :=
  { s with
    host.rings := [], host.accAt := [], host.evQ := [], host.compQ := [], host.recQ := [], host.epoch := s.host.epoch + 1, host.rrRing := 0,
    host.rrCount := 0, host.d3 := false }

/-- FUNCTION_LEVEL_RESET (R371). -/
def execFunctionLevelReset (s : State) : Host.Outcome State Fault Refusal := .next s.flr

/-- PERST_N low resets the PCIe link and the endpoint with the effects of a Function Level Reset (R552); its release leaves
the link to train. -/
def execPerstN (low : Bool) (s : State) : Host.Outcome State Fault Refusal :=
  .next (if low then { s.stopRecords.flr with host.linkUp := false } else s)

/-- D3HOT_ENTRY: fetching and writing stop (R608). -/
def execD3hotEntry (s : State) : Host.Outcome State Fault Refusal := .next { s.stopRecords with host.d3 := true }

/-- D0_RETURN: fetching resumes and held completions are written first (R608). -/
def State.d0Return (s : State) : State :=
  if s.host.d3 then
    let s' := { s.flushDown with host.d3 := false }
    if s.host.linkUp then s'.resumeRecords else s'
  else s

/-- D0_RETURN (R608). -/
def execD0Return (s : State) : Host.Outcome State Fault Refusal := .next s.d0Return

end Sys2Proof.Machine
end

