-- ==== Sys2Proof/Machine/Crypto.lean ====
section
/-!
DEFINITION. The hash and the signatures that R19 names: SHA-384 (FIPS 180-4), ECDSA on brainpoolP384r1 (RFC 5639), and the key derivation of R567.  PRESUMED (log
entry 139): their constants and steps are those of the standards, which the manual cites and does not repeat.
-/

namespace Sys2Proof.Machine

/-! ## SHA-384 -/

/-- Words of the hash wrap at 64 bits. -/
def w64 (n : Nat) : Nat := n % 2 ^ 64

/-- A 64-bit rotation to the right. -/
def rotr (k x : Nat) : Nat := (x / 2 ^ k) ||| w64 (x * 2 ^ (64 - k))

/-- The four sums of the hash. -/
def bigS0 (x : Nat) : Nat := rotr 28 x ^^^ rotr 34 x ^^^ rotr 39 x
def bigS1 (x : Nat) : Nat := rotr 14 x ^^^ rotr 18 x ^^^ rotr 41 x
def smallS0 (x : Nat) : Nat := rotr 1 x ^^^ rotr 8 x ^^^ (x / 2 ^ 7)
def smallS1 (x : Nat) : Nat := rotr 19 x ^^^ rotr 61 x ^^^ (x / 2 ^ 6)

/-- Round constants 0 to 15. -/
def shaK0 : List Nat :=
  [0x428A2F98D728AE22, 0x7137449123EF65CD, 0xB5C0FBCFEC4D3B2F, 0xE9B5DBA58189DBBC,
   0x3956C25BF348B538, 0x59F111F1B605D019, 0x923F82A4AF194F9B, 0xAB1C5ED5DA6D8118,
   0xD807AA98A3030242, 0x12835B0145706FBE, 0x243185BE4EE4B28C, 0x550C7DC3D5FFB4E2,
   0x72BE5D74F27B896F, 0x80DEB1FE3B1696B1, 0x9BDC06A725C71235, 0xC19BF174CF692694]
/-- Round constants 16 to 31. -/
def shaK1 : List Nat :=
  [0xE49B69C19EF14AD2, 0xEFBE4786384F25E3, 0x0FC19DC68B8CD5B5, 0x240CA1CC77AC9C65,
   0x2DE92C6F592B0275, 0x4A7484AA6EA6E483, 0x5CB0A9DCBD41FBD4, 0x76F988DA831153B5,
   0x983E5152EE66DFAB, 0xA831C66D2DB43210, 0xB00327C898FB213F, 0xBF597FC7BEEF0EE4,
   0xC6E00BF33DA88FC2, 0xD5A79147930AA725, 0x06CA6351E003826F, 0x142929670A0E6E70]
/-- Round constants 32 to 47. -/
def shaK2 : List Nat :=
  [0x27B70A8546D22FFC, 0x2E1B21385C26C926, 0x4D2C6DFC5AC42AED, 0x53380D139D95B3DF,
   0x650A73548BAF63DE, 0x766A0ABB3C77B2A8, 0x81C2C92E47EDAEE6, 0x92722C851482353B,
   0xA2BFE8A14CF10364, 0xA81A664BBC423001, 0xC24B8B70D0F89791, 0xC76C51A30654BE30,
   0xD192E819D6EF5218, 0xD69906245565A910, 0xF40E35855771202A, 0x106AA07032BBD1B8]
/-- Round constants 48 to 63. -/
def shaK3 : List Nat :=
  [0x19A4C116B8D2D0C8, 0x1E376C085141AB53, 0x2748774CDF8EEB99, 0x34B0BCB5E19B48A8,
   0x391C0CB3C5C95A63, 0x4ED8AA4AE3418ACB, 0x5B9CCA4F7763E373, 0x682E6FF3D6B2B8A3,
   0x748F82EE5DEFB2FC, 0x78A5636F43172F60, 0x84C87814A1F0AB72, 0x8CC702081A6439EC,
   0x90BEFFFA23631E28, 0xA4506CEBDE82BDE9, 0xBEF9A3F7B2C67915, 0xC67178F2E372532B]
/-- Round constants 64 to 79. -/
def shaK4 : List Nat :=
  [0xCA273ECEEA26619C, 0xD186B8C721C0C207, 0xEADA7DD6CDE0EB1E, 0xF57D4F7FEE6ED178,
   0x06F067AA72176FBA, 0x0A637DC5A2C898A6, 0x113F9804BEF90DAE, 0x1B710B35131C471B,
   0x28DB77F523047D84, 0x32CAAB7B40C72493, 0x3C9EBE0A15C9BEBC, 0x431D67C49C100D4C,
   0x4CC5D4BECB3E42B6, 0x597F299CFC657E2A, 0x5FCB6FAB3AD6FAEC, 0x6C44198C4A475817]

/-- The round constants. -/
def shaK : List Nat := shaK0 ++ shaK1 ++ shaK2 ++ shaK3 ++ shaK4

/-- The initial value of SHA-384. -/
def shaInit : List Nat :=
  [0xCBBB9D5DC1059ED8, 0x629A292A367CD507, 0x9159015A3070DD17, 0x152FECD8F70E5939,
   0x67332667FFC00B31, 0x8EB44A8768581511, 0xDB0C2E0D64F98FA7, 0x47B5481DBEFA4FA4]

/-- Number `i` of a list, 0 beyond its end. -/
def natAt (l : List Nat) (i : Nat) : Nat := (l[i]?).getD 0

/-- The message schedule grows by `n` words; the latest word stands first. -/
def shaGrow : Nat → List Nat → List Nat
  | 0, w => w
  | n + 1, w => shaGrow n (w64 (smallS1 (natAt w 1) + natAt w 6 + smallS0 (natAt w 14) + natAt w 15) :: w)

/-- One round on the eight working words. -/
def shaRound (v : List Nat) (kw : Nat × Nat) : List Nat :=
  match v with
  | [a, b, c, d, e, f, g, h] =>
    let t1 := h + bigS1 e + ((e &&& f) ^^^ ((2 ^ 64 - 1 - e) &&& g)) + kw.1 + kw.2
    let t2 := bigS0 a + ((a &&& b) ^^^ (a &&& c) ^^^ (b &&& c))
    [w64 (t1 + t2), a, b, c, w64 (d + t1), e, f, g]
  | _ => v

/-- The number that bytes spell with the most significant byte first. -/
def ofBeBytes (b : List Byte) : Nat := b.foldl (fun n x => 256 * n + x.toNat) 0

/-- One block of 128 bytes. -/
def shaBlock (h : List Nat) (b : List Byte) : List Nat :=
  let w := (List.range 16).map fun i => ofBeBytes ((b.drop (8 * i)).take 8)
  let v := (shaK.zip (shaGrow 64 w.reverse).reverse).foldl shaRound h
  List.zipWith (fun x y => w64 (x + y)) h v

/-- The bytes that pad a message of `n` bytes to whole blocks. -/
def shaPad (n : Nat) : List Byte :=
  (0x80 : Byte) :: (List.replicate ((239 - n % 128) % 128) (0 : Byte) ++ (leBytes 16 (8 * n)).reverse)

/-- The blocks of a padded message, in turn. -/
def shaBlocks : Nat → List Nat → List Byte → List Nat
  | 0, h, _ => h
  | n + 1, h, b => shaBlocks n (shaBlock h (b.take 128)) (b.drop 128)

/-- The 48 bytes of a SHA-384 digest. -/
def sha384 (b : List Byte) : List Byte :=
  let m := b ++ shaPad b.length
  ((shaBlocks (m.length / 128) shaInit m).take 6).flatMap fun x => (leBytes 8 x).reverse

/-! ## ECDSA on brainpoolP384r1 -/

/-- The field prime, the coefficients, the base point and the order of the curve. -/
def bpP : Nat := 0x8CB91E82A3386D280F5D6F7E50E641DF152F7109ED5456B412B1DA197FB71123ACD3A729901D1A71874700133107EC53
def bpA : Nat := 0x7BC382C63D8C150C3C72080ACE05AFA0C2BEA28E4FB22787139165EFBA91F90F8AA5814A503AD4EB04A8C7DD22CE2826
def bpB : Nat := 0x04A8C7DD22CE28268B39B55416F0447C2FB77DE107DCD2A62E880EA53EEB62D57CB4390295DBC9943AB78696FA504C11
def bpGx : Nat := 0x1D1C64F068CF45FFA2A63A81B7C13F6B8847A3E77EF14FE3DB7FCAFE0CBD10E8E826E03436D646AAEF87B2E247D4AF1E
def bpGy : Nat := 0x8ABE1D7520F9C2A45CB1EB8E95CFD55262B70B29FEEC5864E19C054FF99129280E4646217791811142820341263C5315
def bpN : Nat := 0x8CB91E82A3386D280F5D6F7E50E641DF152F7109ED5456B31F166E6CAC0425A7CF3AB6AF6B7FC3103B883202E9046565

/-- `b ^ e` modulo `m`, with `k` bits of the exponent. -/
def powMod (m : Nat) : Nat → Nat → Nat → Nat
  | 0, _, _ => 1 % m
  | k + 1, b, e => (if e % 2 = 1 then b else 1) * powMod m k (b * b % m) (e / 2) % m

/-- The inverse modulo a prime of 384 bits. -/
def invMod (m x : Nat) : Nat := powMod m 384 x (m - 2)

/-- The sum of two points; none is the point at infinity. -/
def ptAdd (p q : Option (Nat × Nat)) : Option (Nat × Nat) :=
  match p, q with
  | none, q => q
  | p, none => p
  | some (x1, y1), some (x2, y2) =>
    if x1 = x2 ∧ (y1 + y2) % bpP = 0 then none
    else
      let l := if x1 = x2 then (3 * x1 * x1 + bpA) * invMod bpP (2 * y1 % bpP) % bpP
        else (y2 + bpP - y1) * invMod bpP ((x2 + bpP - x1) % bpP) % bpP
      let x3 := (l * l + 2 * bpP - x1 - x2) % bpP
      some (x3, (l * (x1 + bpP - x3) + bpP - y1) % bpP)

/-- A point times a number, with `k` bits of the number. -/
def ptMul : Nat → Option (Nat × Nat) → Nat → Option (Nat × Nat)
  | 0, _, _ => none
  | k + 1, p, n => let r := ptMul k (ptAdd p p) (n / 2); if n % 2 = 1 then ptAdd p r else r

/-- A pair of coordinates is a point of the curve. -/
def onCurve (x y : Nat) : Bool :=
  decide (x < bpP) && decide (y < bpP) && y * y % bpP == (x * x * x + bpA * x + bpB) % bpP

/-- An ECDSA signature over bytes with a private key and a nonce: r then s, little-endian, 48 bytes each (R6, R568). -/
def ecdsaSign (d k : Nat) (msg : List Byte) : List Byte :=
  match ptMul 384 (some (bpGx, bpGy)) k with
  | some (x, _) => leBytes 48 (x % bpN) ++ leBytes 48 (invMod bpN k * (ofBeBytes (sha384 msg) + x % bpN * d) % bpN)
  | none => leBytes 96 0

/-! ## HKDF with SHA-384 (R567) -/

/-- HMAC with SHA-384, for keys of at most 128 bytes. -/
def hmac384 (key msg : List Byte) : List Byte :=
  let k := key ++ List.replicate (128 - key.length) (0 : Byte)
  sha384 (k.map (· ^^^ 0x5C) ++ sha384 (k.map (· ^^^ 0x36) ++ msg))

/-- HKDF: extraction, then one block of expansion. -/
def hkdf384 (salt ikm info : List Byte) : List Byte := hmac384 (hmac384 salt ikm) (info ++ [1])

/-- An ECDSA signature (r, s) over bytes verifies under a public key (x, y).  The numbers are little-endian, 48 bytes each (R6, R561). -/
def sigOk (msg sig key : List Byte) : Bool :=
  let r := ofLeBytes (sig.take 48)
  let t := ofLeBytes ((sig.drop 48).take 48)
  let x := ofLeBytes (key.take 48)
  let y := ofLeBytes ((key.drop 48).take 48)
  if r = 0 ∨ bpN ≤ r ∨ t = 0 ∨ bpN ≤ t ∨ onCurve x y = false then false
  else
    let w := invMod bpN t
    let z := ofBeBytes (sha384 msg)
    match ptAdd (ptMul 384 (some (bpGx, bpGy)) (z * w % bpN)) (ptMul 384 (some (x, y)) (r * w % bpN)) with
    | some (px, _) => px % bpN == r
    | none => false

end Sys2Proof.Machine
end

