-- ==== Sys2Proof/Machine/Flash.lean ====
section
/-!
DEFINITION. The boot flash (R559 to R561): its bytes, the directory, the repair table and the images in the slots.
-/

namespace Sys2Proof.Machine

/-! ## Bytes -/

/-- An erased flash byte. -/
def flashBlank (_ : Nat) : Byte := 0xFF

/-- `n` bytes of the flash from an address on. -/
def State.flashBytes (s : State) (a n : Nat) : List Byte := (List.range n).map fun k => Tab.get flashBlank s.sec.flash (a + k)

/-- Bytes are stored in the flash from an address on. -/
def State.flashStore (s : State) (a : Nat) (b : List Byte) : State :=
  { s with sec.flash := b.zipIdx.foldl (fun t x => Tab.set flashBlank t (a + x.2) x.1) s.sec.flash }

/-- A 64 KiB sector is erased. -/
def State.flashErase (s : State) (a : Nat) : State :=
  { s with sec.flash := s.sec.flash.filter fun e => decide (e.1 / 0x10000 ≠ a / 0x10000) }

/-- A sector is erased and written anew from its start. -/
def State.flashSector (s : State) (a : Nat) (b : List Byte) : State := (s.flashErase a).flashStore (a / 0x10000 * 0x10000) b

/-- A field of bytes, least significant byte first. -/
def fieldOf (b : List Byte) (off n : Nat) : Nat := ofLeBytes ((b.drop off).take n)

/-- The CRC-32C in the last four bytes matches the ones before. -/
def crcPasses (b : List Byte) : Bool := decide (fieldOf b (b.length - 4) 4 = crc32c (b.take (b.length - 4)))

/-! ## The directory (R560) -/

/-- The record of a directory copy. -/
def State.dirRecord (s : State) (k : Nat) : List Byte := s.flashBytes (0x10000 * k) 64

/-- The copy that the root core uses: its CRC passes, and its SEQ is the higher one. -/
def State.dirCopy (s : State) : Option Nat :=
  let a := s.dirRecord 0
  let b := s.dirRecord 1
  if crcPasses a && crcPasses b then some (if fieldOf a 8 4 < fieldOf b 8 4 then 1 else 0)
  else if crcPasses a then some 0 else if crcPasses b then some 1 else none

/-- PREF, TRY and SEQ of the directory in force; 0 when neither copy is valid. -/
def State.dirNow (s : State) : Nat × Nat × Nat :=
  match s.dirCopy with
  | some k => (fieldOf (s.dirRecord k) 3 1, fieldOf (s.dirRecord k) 4 1, fieldOf (s.dirRecord k) 8 4)
  | none => (0, 0, 0)

/-- The directory is written: to the other copy, with SEQ one higher. -/
def State.dirWrite (s : State) (pref try_ : Nat) : State :=
  let k := match s.dirCopy with | some k => 1 - k | none => 0
  let b := leBytes 2 0xD1C7 ++ leBytes 1 1 ++ leBytes 1 pref ++ leBytes 1 try_ ++ leBytes 3 0 ++ leBytes 4 (s.dirNow.2.2 + 1)
    ++ List.replicate 48 (0 : Byte)
  s.flashSector (0x10000 * k) (b ++ leBytes 4 (crc32c b))

/-! ## The repair table (R560, R461) -/

/-- The number of a row within the device. -/
def rowKey (die mac row : Nat) : Nat := 2 ^ 17 * die + 2 ^ 9 * mac + row

/-- The repair table as the flash holds it. -/
def State.repairBytes (s : State) : List Byte := s.flashBytes 0x20000 524

/-- The rows of the table, oldest first; none where its CRC, its MAGIC or its count is bad. -/
def State.repairTable (s : State) : Option (List Nat) :=
  let b := s.repairBytes
  let n := fieldOf b 2 1
  if crcPasses b && fieldOf b 0 2 == 0x9E11 && decide (n ≤ 64) then
    some ((List.range n).map fun k => rowKey (fieldOf b (8 + 8 * k) 1) (fieldOf b (9 + 8 * k) 2) (fieldOf b (11 + 8 * k) 2))
  else none

/-- Firmware rewrites the table from the rows journalled, the oldest 64 of them. -/
def State.repairWrite (s : State) : State :=
  let keys := (s.mem.repair.map (·.1)).take 64
  let es := keys.flatMap fun k => leBytes 1 (k / 2 ^ 17) ++ leBytes 2 (k / 2 ^ 9 % 256) ++ leBytes 2 (k % 512) ++ leBytes 3 0
  let b := leBytes 2 0x9E11 ++ leBytes 1 keys.length ++ leBytes 5 0 ++ es ++ List.replicate (512 - es.length) (0 : Byte)
  s.flashSector 0x20000 (b ++ leBytes 4 (crc32c b))

/-! ## Images (R561, R562) -/

/-- The largest body of an image TYPE. -/
def bodyLimit (typ : Nat) : Nat := if typ = 1 then 1048064 else if typ = 2 then 11533824 else 262144

/-- The SHA-384 of bytes as the number that its 48 bytes, in order, spell in memory (R6; log entry 139). -/
def shaOf (b : List Byte) : Nat := ofLeBytes (sha384 b)

/-- MAGIC, TYPE, STEPPING, SERIAL and BODY_LEN of an image header are as R562 asks. -/
def headerOk (serial typ : Nat) (h : List Byte) : Bool :=
  fieldOf h 0 4 == 0x5A7E1B0C && fieldOf h 4 1 == typ && fieldOf h 6 1 == 0xB0
    && (fieldOf h 32 8 == 0 || fieldOf h 32 8 == serial) && decide (fieldOf h 16 4 ≤ bodyLimit typ)

/-- The signature of an image verifies and its body has the hash that the header gives. -/
def contentOk (h body : List Byte) : Bool :=
  sigOk (h.take 384) ((h.drop 384).take 96) ((h.drop 88).take 96) && shaOf body == fieldOf h 40 48

/-- The flash address of an image: slot 0 or 1, TYPE 1 or 2. -/
def imageAddr (slot typ : Nat) : Nat := 0x40000 + 0xC00000 * slot + 0x100000 * (typ - 1)

/-- The header of an image in a slot. -/
def State.imageHeader (s : State) (slot typ : Nat) : List Byte := s.flashBytes (imageAddr slot typ) 512

/-- The body of an image in a slot. -/
def State.imageBody (s : State) (slot typ : Nat) : List Byte :=
  s.flashBytes (imageAddr slot typ + 512) (fieldOf (s.imageHeader slot typ) 16 4)

/-- VERSION of a slot: that of its first-stage image. -/
def State.slotVersion (s : State) (slot : Nat) : Nat := fieldOf (s.imageHeader slot 1) 8 2

/-- An image of a slot meets every condition of R562 but the rollback count. -/
def State.imageOk (s : State) (slot typ : Nat) : Bool :=
  let h := s.imageHeader slot typ
  headerOk (s.reg R.GLB_SERIAL).toNat typ h && fieldOf h 5 1 == 0
    && [Config.vendorKey 0, Config.vendorKey 1].contains (shaOf ((h.drop 88).take 96)) && contentOk h (s.imageBody slot typ)
    && decide (fieldOf h 8 2 ≤ 64)

/-- The rollback count (R563). -/
def State.rollback (s : State) : Nat := s.f R.SEC_FUSE_STAT F.SEC_FUSE_STAT_ROLLBACK

/-- A slot is bootable: both its images are valid and carry the same VERSION, at least the rollback count (R562). -/
def State.bootable (s : State) (slot : Nat) : Bool :=
  s.imageOk slot 1 && s.imageOk slot 2 && fieldOf (s.imageHeader slot 2) 8 2 == s.slotVersion slot
    && decide (s.rollback ≤ s.slotVersion slot)

/-- The measurement of a slot's image: the SHA-384 of its header and body (R568). -/
def State.measure (s : State) (slot typ : Nat) : Nat := shaOf (s.imageHeader slot typ ++ s.imageBody slot typ)

end Sys2Proof.Machine
end

