-- ==== Sys2Proof/Machine/Memory.lean ====
section
/-!
DEFINITION. Memory integrity (R452 to R463): the Hsiao code, errors found in stored words, refresh of the long-lived tables,
machine checks and split writes.
-/

namespace Sys2Proof.Machine

/-! ## Soft repair (R460, R461) -/

/-- The macros of a die (R460). -/
def macrosOf (die : Nat) : Nat := if die = 0 then 192 else 16

/-- A row becomes a candidate: one SOFT_REPAIR entry is journalled for it, with its cause and the spare row that it has been given
(0xFF: none), and the repair table is rewritten (R461, R560). -/
def State.repairAdd (s : State) (key cause spare : Nat) : State :=
  if s.mem.repair.any fun e => e.1 == key then s
  else
    let n := (Tab.get (fun _ => ([], 0)) s.mem.rows key).2
    let die := key / 2 ^ 17
    let mac := key / 2 ^ 9 % 256
    let s : State := { s with mem.repair := s.mem.repair ++ [(key, cause, 0)] }
    let s := s.jrnAdd 3 (leBytes 1 die ++ leBytes 2 mac ++ leBytes 2 (key % 512) ++ leBytes 1 cause ++ leBytes 1 spare
      ++ leBytes 1 0 ++ leBytes 4 n ++ leBytes 1 0)
    s.repairWrite.event Ev.SOFT_REPAIR noObj noLane [256 * die + mac, key % 512]

/-- A corrected error on an SRAM row is remembered for the hour (R461). -/
def State.rowError (s : State) (die mac word : Nat) : State :=
  let key := rowKey die mac (word / 64 % 512)
  let x := Tab.get (fun _ => ([], 0)) s.mem.rows key
  let ts := x.1.filter fun t => decide (s.tick < t + 360000000)
  let ts := if ts.contains s.tick then ts else s.tick :: ts
  let s := { s with mem.rows := Tab.set (fun _ => ([], 0)) s.mem.rows key (ts, satAdd 32 x.2 1) }
  if s.f R.MEM_ECC_CTL F.MEM_ECC_CTL_SOFT_THR ≤ ts.length then s.repairAdd key 2 0xFF else s

/-! ## Errors found by hardware readers (R452 to R454) -/

/-- A memory that R481 names. -/
def memNamed (space idx : Nat) : Bool :=
  if space < 5 then decide (idx < macrosOf space) else if space = 6 then decide (idx < 4)
  else decide (space = 7) && decide (idx < 24)

/-- MEM_ID of a memory (R481). -/
def memId (space idx : Nat) : Nat := 256 * space + idx

/-- The contexts of clients and of their protection, which commands write (R456). -/
def contextReg (id : RegId) : Bool := [RegId.MAP_CLI_DEF, .MAP_CLI_END, .PROT_END, .PROT_CFG].contains id

/-- The fields of a long-lived table word that refresh restores: those that are written, by the host, by a command or by hardware. -/
def tableMask (a : Nat) : Word :=
  match regAt a with
  | some (r, _) =>
    r.fields.foldl (fun m x =>
      if x.acc = .rw ∨ x.acc = .rwl ∨ contextReg r.id = true then m ||| (maskW x.fld.w <<< x.fld.lo) else m) 0
  | none => 0

/-- The registers of AON retained storage (R471). -/
def retained (id : RegId) : Bool :=
  [RegId.EDAC_CLR, .LR_CTL, .IN_CTL, .WDT_CTL, .THERM_CTL, .THERM_LVL, .ENG_THERM_LVL, .REEF_CTL, .AVS_CTL, .PMB_CTL, .PMB_DEV,
    .SEC_START_DOM].contains id

/-- The words of long-lived tables (R456): set-up of the OCT, SG, MAP and HALY blocks, and AON retained storage. -/
def longLived (a : Nat) : Bool :=
  match regAt a with
  | some (r, _) => (decide (0x100000 ≤ a) || retained r.id) && tableMask a != 0
  | none => false

/-- The fields of a mask of a register's word replaced. -/
def State.mergeReg (s : State) (a : Nat) (m w : Word) : State := s.setReg a ((s.reg a &&& ~~~m) ||| (w &&& m))

/-- A poisoned table word: until it is rewritten the hardware uses the reset value of each of its fields (R458). -/
def State.poisonTable (s : State) (a : Nat) : State :=
  if longLived a && (Tab.get (fun _ => none) s.mem.bad a).isNone then
    { s with mem.bad := Tab.set (fun _ => none) s.mem.bad a (some (s.reg a)) }.mergeReg a (tableMask a) (resetWord a)
  else s

/-- A poisoned entry of the calendar page in force: `k` is 128 octet + slot (R458). -/
def State.poisonCal (s : State) (k : Nat) : State :=
  if k < 2048 ∧ (((s.fo (k / 128)).txPage.tag (k % 128)).isSome && !s.mem.badCal.any fun b => b.1 == k) = true then
    { s with mem.badCal := s.mem.badCal ++ [(k, s.tick)] }
  else s

/-- One word of client data is errored (R454): a 64-bit word touches one or two 66-bit blocks, or seven or eight 10-bit words; which it is, is
free (log entry 1). -/
def State.errWord (s : State) (c : Nat) : State :=
  let (v, s) := s.draw 2
  s.errAdd c (if s.cbr c then 7 + v else 1 + v)

/-- What a reader's memory means to the rest of the device: 1 = words of client `obj`, in its region of the deskew store the word `addr` of
it (R285), 2 = control state of client `obj`, 3 = the
long-lived table word at BAR0 offset `obj`, 4 = the context of ring `obj`, 5 = the word at `addr` of the capture buffer `obj`, 6 = an entry of
the calendar page in force, `obj` = 128 octet + slot; 0 = none of these (R453, R454, R458). -/
def State.eccUse (s : State) (space use obj addr : Nat) : State :=
  match use with
  | 1 => if !s.defined obj then s else if space = 7 then s.storePoison obj addr else s.errWord obj
  | 2 => if s.defined obj then ((s.errWord obj).replRest obj).recentre obj else s
  | 3 => s.poisonTable obj
  | 4 => if (s.ring obj).typ = 0 then s else s.halt obj 3
  | 5 =>
    if obj < 16 then
      { s with obs.damaged := Tab.set (fun _ => []) s.obs.damaged obj ((addr / 8 % 131072) :: (Tab.get (fun _ => []) s.obs.damaged obj)
          |>.eraseDups) }.incF (R.CAP_BUF_A obj) F.CAP_BUF_A_DAMAGED 1
    else s
  | 6 => s.poisonCal obj
  | _ => s

/-- A corrected word: counted and logged; the stored word stays (R452). -/
def State.eccCorrected (s : State) (space idx addr syn pos use obj : Nat) : State :=
  let s := s.setFs R.MEM_CORR_LOG [(F.MEM_CORR_LOG_MEM_ID, memId space idx), (F.MEM_CORR_LOG_POS, pos),
    (F.MEM_CORR_LOG_SYNDROME, syn), (F.MEM_CORR_LOG_TICK, s.tick % 2 ^ 38)]
  let s := s.setReg R.MEM_CORR_ADDR (BitVec.ofNat 64 addr)
  let s := if use = 3 ∧ longLived obj = true then { s with mem.corr := obj :: s.mem.corr.erase obj } else s
  if space < 5 then
    let s := s.incF (R.MEM_CNT space) F.MEM_CNT_CORR 1
    (if 64 ≤ pos then s.incF (R.MEM_CNT space) F.MEM_CNT_CHK_ONLY 1 else s).rowError space idx addr
  else if space = 6 then s.incF (R.D2D_CNT idx) F.D2D_CNT_CORR 1 else s

/-- An uncorrectable word: counted, logged, and passed on poisoned (R454); ECC_UNCORR once per memory per tick. -/
def State.eccUncorrectable (s : State) (space idx addr syn use obj : Nat) : State :=
  let s := s.setFs R.MEM_UNC_LOG [(F.MEM_UNC_LOG_MEM_ID, memId space idx), (F.MEM_UNC_LOG_SYNDROME, syn),
    (F.MEM_UNC_LOG_POISON, bit (syn = 0xFF)), (F.MEM_UNC_LOG_TICK, s.tick % 2 ^ 44)]
  let s := s.setReg R.MEM_UNC_ADDR (BitVec.ofNat 64 addr)
  let s := if space < 5 then s.incF (R.MEM_CNT space) F.MEM_CNT_UNC 1
    else if space = 6 then s.incF (R.D2D_CNT idx) F.D2D_CNT_UNC 1 else s
  let s := s.eccUse space use obj addr
  let m := memId space idx
  if s.mem.posted.contains m then s
  else { s with mem.posted := m :: s.mem.posted }.event Ev.ECC_UNCORR noObj noLane [m, addr]

/-- A reader finds a word with its check byte (R452). -/
def State.eccFound (s : State) (space idx addr data chk use obj : Nat) : State :=
  let syn := hsiaoSynd data chk
  if !memNamed space idx || syn == 0 then s
  else match hsiaoPos syn with
    | some pos => s.eccCorrected space idx addr syn pos use obj
    | none => s.eccUncorrectable space idx addr syn use obj

/-- ECC_ERROR (R452 to R454). -/
def execEccError (space : Fin 8) (idx : BitVec 8) (addr data : BitVec 64) (chk : BitVec 8) (use : Fin 7) (obj : Nat) (s : State) :
    Host.Outcome State Fault Refusal :=
  .next (s.eccFound space idx.toNat addr.toNat data.toNat chk.toNat use obj)

/-! ## Machine checks (R455) -/

/-- A control core reads an uncorrectable word: what firmware cannot rebuild stops it, with LAST_FAULT = 4 (R455). -/
def State.mcheck (s : State) (core addr : Nat) (recovers : Bool) : State :=
  let s := s.event Ev.MCHECK noObj noLane [core, addr]
  if recovers then s else { s.setF R.WDT_STAT F.WDT_STAT_LAST_FAULT 4 with pwr.fwStopped := true }

/-- MCHECK (R455). -/
def execMcheck (core : Fin 4) (addr : BitVec 64) (recovers : Bool) (s : State) : Host.Outcome State Fault Refusal :=
  .next (s.mcheck core addr.toNat recovers)

/-! ## Refresh (R456 to R459) -/

/-- A visit to a word whose copy is good: a poisoned word is rewritten from the copy, a corrected one with its values (R457). -/
def State.refreshFix (s : State) (a : Nat) : State :=
  let fix := fun (s : State) => s.incF R.REFRESH_STAT F.REFRESH_STAT_REFRESH_FIX 1
  match Tab.get (fun _ => none) s.mem.bad a with
  | some w => fix ({ s with mem.bad := Tab.erase s.mem.bad a, mem.corr := s.mem.corr.erase a }.mergeReg a (tableMask a) w)
  | none => if s.mem.corr.contains a then fix { s with mem.corr := s.mem.corr.erase a } else s

/-- A visit whose copy is uncorrectable (R459): the copy is taken from the hardware word, or the word is lost and keeps its reset
values. -/
def State.refreshLost (s : State) (a : Nat) : State :=
  match Tab.get (fun _ => none) s.mem.bad a with
  | some _ =>
    let s := { s with mem.bad := Tab.erase s.mem.bad a }.incF R.REFRESH_STAT F.REFRESH_STAT_LOST_CNT 1
    s.event Ev.TABLE_LOST (a / 0x10000) noLane [a, 1]
  | none => s.refreshFix a

/-- Firmware visits a word while refresh is enabled (R457). -/
def State.tableRefresh (s : State) (a : Nat) (copyOk : Bool) : State :=
  if longLived a && s.b R.MEM_ECC_CTL F.MEM_ECC_CTL_REFRESH_EN && (s.blockedBy a).isNone then
    (if copyOk then s.refreshFix a else s.refreshLost a)
  else s

/-- At a tick edge firmware rewrites the contexts and calendar entries that readers reported poisoned in the tick before (R457, log entry 80):
no command lands on such a word. -/
def State.refreshTick (s : State) : State :=
  if !s.b R.MEM_ECC_CTL F.MEM_ECC_CTL_REFRESH_EN || !s.isOn domCTRL then s
  else
    let ctx := (s.mem.bad.map (·.1)).filter fun a => match regAt a with | some (r, _) => contextReg r.id | none => false
    let s := s.each ctx fun a s => if (s.blockedBy a).isNone then s.refreshFix a else s
    let due := s.mem.badCal.filter fun b => decide (b.2 < s.tick)
    { s with mem.badCal := s.mem.badCal.filter fun b => decide (s.tick ≤ b.2) }.incF R.REFRESH_STAT F.REFRESH_STAT_REFRESH_FIX due.length

/-- TABLE_REFRESH (R457). -/
def execTableRefresh (addr : Nat) (copyOk : Bool) (s : State) : Host.Outcome State Fault Refusal :=
  .next (s.tableRefresh addr copyOk)

/-! ## Split writes (R463) -/

/-- A word of an SRAM macro exists (R460). -/
def wordNamed (die mac word : Nat) : Bool := decide (die < 5) && decide (mac < macrosOf die) && decide (word < 32768)

/-- The number of a word within the device. -/
def wordKey (die mac word : Nat) : Nat := 2 ^ 23 * die + 2 ^ 15 * mac + word

/-- A word of a macro holds the data and check bits given. -/
def State.testStore (s : State) (key : Nat) (w : Nat × Nat) : State :=
  { s with mem.test := Tab.set (fun _ => none) s.mem.test key (some w), mem.inTest := true }

/-- The word as it is read: what is stored there; where the state does not hold the word, its data are free (log entry 1), with the check
byte that every stored word carries (R40, R452), and the state holds them from then on. -/
def State.testWord (s : State) (key : Nat) : (Nat × Nat) × State :=
  match Tab.get (fun _ => none) s.mem.test key with
  | some w => (w, s)
  | none =>
    let (d, s) := s.draw (2 ^ 64)
    let w := (d, hsiaoCheck d)
    (w, s.testStore key w)

/-- A split write stores data and check bits as given. -/
def State.testWrite (s : State) (key d c : Nat) : State :=
  let s := s.testStore key (d, c)
  { s with mem.written := key :: s.mem.written.erase key }

/-- The test ends: words written in it hold data 0 with correct check bits (R463); refresh restores table words among them. -/
def State.testEnd (s : State) : State :=
  { s with mem.test := s.mem.written.map fun k => (k, some (0, hsiaoCheck 0)), mem.written := [], mem.inTest := false }

/-- Outside a test the device uses its macros, so that what they hold is free again from the next edge on (R463; log entry 1). -/
def State.testTick (s : State) : State := if s.mem.inTest then s else { s with mem.test := [] }

/-- After GLB_LOCK is set, only macros of a Yard die whose octets and slot groups hold no client and have no lane enabled may be
tested (R463). -/
def State.testAllowed (s : State) (die : Nat) : Bool :=
  !s.b R.GLB_LOCK F.GLB_LOCK_LOCK || (decide (1 ≤ die) && (List.range 4).all fun k =>
    let o := 4 * (die - 1) + k
    !s.clientsHold o && (lanes9.all fun l => s.txState o l == 0)
      && (List.range 16).all fun i => s.slF o i F.SL_CTL_EN == 0 && !s.b (R.SL_STAT o i) F.SL_STAT_RX_BOUND
        && !s.b (R.SL_STAT o i) F.SL_STAT_TX_BOUND)

/-- MEM_TEST at its tick (R463, R476). -/
def State.memTest (s : State) (c : Cmd) (op die mac word d k : Nat) : State :=
  if 3 ≤ op ∨ ¬ wordNamed die mac word then s.refuse c Op.MEM_TEST St.BAD_FIELD
  else if !s.testAllowed die then s.refuse c Op.MEM_TEST St.MEM_BUSY
  else if op = 0 then (s.testWrite (wordKey die mac word) d k).ok c Op.MEM_TEST []
  else if op = 1 then
    let (w, s) := s.testWord (wordKey die mac word)
    s.ok c Op.MEM_TEST [(32, 8, w.1), (40, 1, w.2), (41, 1, hsiaoSynd w.1 w.2)]
  else s.testEnd.ok c Op.MEM_TEST []

/-- MEM_TEST (R476). -/
def execMemTest (cmd : Cmd) (op die : BitVec 8) (macroIx word : BitVec 16) (data : BitVec 64) (chk : BitVec 8) (s : State) :
    Host.Outcome State Fault Refusal :=
  .next (s.memTest cmd op.toNat die.toNat macroIx.toNat word.toNat data.toNat chk.toNat)

/-- A write to MEM_TEST_CTL starts its operation at once, before GLB_LOCK is set (R463, R615). -/
def State.memTestCtl (s : State) (v : Word) (size : Nat) (fw : Bool) : State :=
  let die := F.MEM_TEST_CTL_DIE.of v
  let mac := F.MEM_TEST_CTL_MACRO.of v
  let key := wordKey die mac (F.MEM_TEST_CTL_WORD.of v)
  let op := F.MEM_TEST_CTL_OP.of v
  if s.b R.GLB_LOCK F.GLB_LOCK_LOCK then s.logW R.MEM_TEST_CTL logLOCKED size fw v
  else if op = 3 ∨ ¬ wordNamed die mac (F.MEM_TEST_CTL_WORD.of v) then s.logW R.MEM_TEST_CTL logVALUE size fw v
  else
    let s := s.setReg R.MEM_TEST_CTL (v &&& maskW 28)
    if op = 0 then s.testWrite key (s.f R.MEM_TEST_DATA F.MEM_TEST_DATA_DATA) (s.f R.MEM_TEST_CHK F.MEM_TEST_CHK_CHK)
    else if op = 1 then
      let (w, s) := s.testWord key
      (s.setReg R.MEM_TEST_DATA (BitVec.ofNat 64 w.1)).setFs R.MEM_TEST_CHK [(F.MEM_TEST_CHK_CHK, w.2),
        (F.MEM_TEST_CHK_SYNDROME, hsiaoSynd w.1 w.2)]
    else s.testEnd

/-- A write that names another operation is that operation's (R463). -/
def testOp (op : Nat) (v : Word) : Word := F.MEM_TEST_CTL_OP.put v op

/-- MEM_TEST_WRITE (R463). -/
def execMemTestWrite (v : BitVec 64) (s : State) : Host.Outcome State Fault Refusal :=
  .next (s.memTestCtl (testOp 0 v) 3 false)

/-- MEM_TEST_READ (R463). -/
def execMemTestRead (v : BitVec 64) (s : State) : Host.Outcome State Fault Refusal :=
  .next (s.memTestCtl (testOp 1 v) 3 false)

/-- MEM_TEST_EXIT (R463). -/
def execMemTestExit (v : BitVec 64) (s : State) : Host.Outcome State Fault Refusal :=
  .next (s.memTestCtl (testOp 2 v) 3 false)

end Sys2Proof.Machine
end

