-- ==== Sys2Proof/Machine/Patterns.lean ====
section
/-!
DEFINITION. Test patterns and the checker that compares received bits with them (R579, R581).
-/

namespace Sys2Proof.Machine

/-! ## Patterns (R579) -/

/-- A pattern as its bits: a shift register with its length and taps, a period repeated, or no pattern whose bits the manual gives. -/
inductive Pattern where
  | lfsr (n : Nat) (taps : List Nat)
  | cyc (bits : List Bool)
  | none
  deriving DecidableEq, Repr

/-- Half a square wave of `n` symbols at the highest or the lowest level: two bits a symbol on PAM4 lanes, one on NRZ lanes. -/
def squareHalf (pam high : Bool) (n : Nat) : List Bool :=
  if pam then (List.replicate n [high, false]).flatten else List.replicate n high

/-- The pattern of a code.  PRBS13Q and PRBS31Q are the bits of PRBS13 and PRBS31, Gray-coded (PRESUMED: log entry 128); SSPRQ has no bits here
(log entry 140). -/
def patternOfCode (pam : Bool) (code sq : Nat) (user : List Bool) : Pattern :=
  match code with
  | 1 => .lfsr 7 [7, 6]
  | 2 => .lfsr 9 [9, 5]
  | 3 => .lfsr 13 [13, 12, 2, 1]
  | 4 => .lfsr 15 [15, 14]
  | 5 => .lfsr 31 [31, 28]
  | 6 => .lfsr 13 [13, 12, 2, 1]
  | 7 => .lfsr 31 [31, 28]
  | 9 => .cyc (squareHalf pam true sq ++ squareHalf pam false sq)
  | 10 => .cyc user
  | _ => .none

/-- The next bit of a shift register whose latest bits stand first. -/
def lfsrNext (taps : List Nat) (reg : List Bool) : Bool := taps.foldl (fun x k => xor x (reg.getD (k - 1) false)) false

/-- `m` bits of a shift register. -/
def lfsrBits (n : Nat) (taps : List Nat) : Nat → List Bool → List Bool
  | 0, _ => []
  | m + 1, reg => let b := lfsrNext taps reg; b :: lfsrBits n taps m ((b :: reg).take n)

/-- The place in a period that follows its last bits, the latest first; none where no rotation matches. -/
def cycPlace (bits reg : List Bool) : Option Nat :=
  (List.range bits.length).find? fun k => (bits.drop k ++ bits.take k) == reg.reverse

/-- Bits that a generator puts out from the `k`-th on: a PRBS from a register, a periodic pattern from its own bit (R579). -/
def patternBits (p : Pattern) (k m : Nat) (reg : List Bool) : List Bool :=
  match p with
  | .lfsr n taps => lfsrBits n taps m reg
  | .cyc bits => (List.range m).map fun i => bits.getD ((k + i) % bits.length) false
  | .none => []

/-! ## The checker (R581) -/

/-- What a checker reports: bits compared and in error while locked, whether it is locked, and its changes of LOCK in order. -/
structure ChkOut where
  st : ChkSt
  lock : Bool
  bits : Nat := 0
  errs : Nat := 0
  turns : List Bool := []
  deriving DecidableEq, Repr

/-- A checker that seeds takes another bit; an all-zero register seeds no PRBS (log entry 140). -/
def chkSeed (p : Pattern) (c : ChkSt) (b : Bool) : ChkSt :=
  match p with
  | .lfsr n _ =>
    let reg := (b :: c.reg).take n
    { reg := reg, pos := if reg.length = n ∧ reg.contains true = true then some 0 else none }
  | .cyc bits =>
    let reg := (b :: c.reg).take bits.length
    { reg := reg, pos := if reg.length = bits.length then cycPlace bits reg else none }
  | .none => {}

/-- The bit that a seeded checker expects, and the checker that has moved on. -/
def chkNext (p : Pattern) (c : ChkSt) (k : Nat) : Bool × ChkSt :=
  match p with
  | .lfsr n taps => let b := lfsrNext taps c.reg; (b, { c with reg := (b :: c.reg).take n })
  | .cyc bits => (bits.getD (k % bits.length) false, { c with pos := some ((k + 1) % bits.length) })
  | .none => (false, c)

/-- A checker takes one bit: an error before LOCK seeds it again, 1,024 bits without error set LOCK, and more than 256 errors in a window of 1,024
bits lose it (the windows: log entry 140). -/
def chkBit (p : Pattern) (o : ChkOut) (b : Bool) : ChkOut :=
  match o.st.pos with
  | none => { o with st := chkSeed p o.st b }
  | some k =>
    let (e, c) := chkNext p o.st k
    let bad := bit (e != b)
    if o.lock then
      let c := { c with win := c.win + 1, bad := c.bad + bad }
      let o := { o with bits := o.bits + 1, errs := o.errs + bad }
      if 256 < c.bad then { o with st := {}, lock := false, turns := o.turns ++ [false] }
      else { o with st := if c.win = 1024 then { c with win := 0, bad := 0 } else c }
    else if bad = 1 then { o with st := chkSeed p {} b }
    else if c.good + 1 = 1024 then { o with st := { c with good := 0 }, lock := true, turns := o.turns ++ [true] }
    else { o with st := { c with good := c.good + 1 } }

/-- The 160 bits of a lane's user pattern. -/
def State.patUser (s : State) (a : Nat) : List Bool :=
  natBits 160 ((s.reg (a + 32)).toNat + 2 ^ 64 * (s.reg (a + 40)).toNat + 2 ^ 128 * (s.reg (a + 48)).toNat)

/-- A lane carries PAM4: a line lane, or a slot lane at RATE 2 or above (R240, R579). -/
def State.patPam (s : State) (t i l : Nat) : Bool := t == 0 || (t == 1 && decide (2 ≤ s.f (R.SL_CTL i l) F.SL_CTL_RATE))

/-- The pattern of a lane's checker. -/
def State.chkPattern (s : State) (t i l : Nat) : Pattern :=
  let a := patBase t i l
  patternOfCode (s.patPam t i l) (s.f a F.PAT_CTL_CHK) (s.f a F.PAT_CTL_SQ_HALF) (s.patUser a)

/-- A lane's checker. -/
def State.chk (s : State) (k : Nat) : ChkSt := Tab.get (fun _ => {}) s.obs.chk k

/-- The state with a lane's checker replaced. -/
def State.setChk (s : State) (k : Nat) (x : ChkSt) : State := { s with obs.chk := Tab.set (fun _ => {}) s.obs.chk k x }

end Sys2Proof.Machine
end

