-- ==== Sys2Proof/Machine/Inputs.lean ====
section
/-!
DEFINITION. Conditioned inputs (R467 to R469) and the SMBus status page (R475).
-/

namespace Sys2Proof.Machine

/-- An input whose storm is latched is masked (R469). -/
def State.stormed (s : State) (x : Nat) : Bool := bitOf (s.f R.IN_STORM F.IN_STORM_STORM) x

/-- Inputs for which a latched storm holds IN_LEVEL: ENG_FAULT_N and REEF_IN_N (R469). -/
def stormHolds (x : Nat) : Bool := decide (x < 16) || x == 20

/-- IN_LEVEL follows the filtered level of an input; a change of an engine fault acts on its clears (R492, R493), and those of
PAIR_LOCK and PAIR_PRESENT_N show in PAIR_STAT (R412, R442). -/
def State.inLevel (s : State) (x : Nat) (v : Bool) : State :=
  let s' := s.setF R.IN_LEVEL F.IN_LEVEL_LEVEL (withBit (s.f R.IN_LEVEL F.IN_LEVEL_LEVEL) x v)
  if x < 16 then State.clearChange s s' 0
  else if x = 18 then s'.setF R.PAIR_STAT F.PAIR_STAT_LOCK_IN (bit v)
  else if x = 19 then
    (if s.b R.PAIR_STAT F.PAIR_STAT_PRESENT = v then s'
     else (s'.setF R.PAIR_STAT F.PAIR_STAT_PRESENT (bit v)).event Ev.PRESENT_CHANGE noObj noLane [])
  else s'

/-- An edge is accepted (R468): counted, posted with EV_EN, and passed on unless a storm holds the level. -/
def State.inputEdge (s : State) (x : Nat) (v : Bool) : State :=
  if bitOf s.pwr.inRaw x = v then s
  else
    let s := { s with
      pwr.inRaw := withBit s.pwr.inRaw x v
      pwr.inEdges := Tab.set (fun _ => 0) s.pwr.inEdges x (Tab.get (fun _ => 0) s.pwr.inEdges x + 1) }
    let s := s.incF (R.IN_CTL x) F.IN_CTL_EDGE_CNT 1
    let s := if s.b (R.IN_CTL x) F.IN_CTL_EV_EN && !s.stormed x then s.eventC Ev.INPUT_EDGE x noLane (!v) [] else s
    if s.stormed x && stormHolds x then s else s.inLevel x v

/-- INPUT_EDGE (R468). -/
def execInputEdge (x : Fin 21) (asserted : Bool) (s : State) : Host.Outcome State Fault Refusal :=
  .next (s.inputEdge x asserted)

/-- At a tick edge the inputs that accepted more than STORM_MAX edges in the tick are noted, and the counts start anew. -/
def State.stormTick (s : State) : State :=
  let due := (s.pwr.inEdges.filter fun e => decide (s.f (R.IN_CTL e.1) F.IN_CTL_STORM_MAX < e.2)).map (·.1)
  { s with pwr.stormDue := due, pwr.inEdges := [] }

/-- IN_STORM latches at the tick edge after a storm (R469). -/
def State.inputStorm (s : State) (x : Nat) : State :=
  if s.pwr.stormDue.contains x then
    let s := { s with pwr.stormDue := s.pwr.stormDue.erase x }
    if s.stormed x then s
    else (s.setF R.IN_STORM F.IN_STORM_STORM (withBit (s.f R.IN_STORM F.IN_STORM_STORM) x true)).event Ev.INPUT_STORM x noLane []
  else s

/-- INPUT_STORM (R469). -/
def execInputStorm (x : Fin 21) (s : State) : Host.Outcome State Fault Refusal := .next (s.inputStorm x)

/-- A write of 1 clears storm bits; a held level then follows its input again (R469). -/
def State.stormClear (s : State) (v : Nat) : State :=
  let xs := (bitsOf 21 v).filter fun x => s.stormed x
  s.each xs fun x s =>
    let s := s.setF R.IN_STORM F.IN_STORM_STORM (withBit (s.f R.IN_STORM F.IN_STORM_STORM) x false)
    if stormHolds x && bitOf (s.f R.IN_LEVEL F.IN_LEVEL_LEVEL) x != bitOf s.pwr.inRaw x then s.inLevel x (bitOf s.pwr.inRaw x) else s

/-! ## The status page (R475) -/

/-- The highest reading of the sensors of a die, in 0.01 °C (R500, R533). -/
def State.dieTemp (s : State) (d : Nat) : Int :=
  ((List.range 8).map fun k => s.i (R.THERM_SENS (8 * d + k)) F.THERM_SENS_TEMP).foldl max (s.i (R.THERM_SENS (8 * d)) F.THERM_SENS_TEMP)

/-- The status page as AON hardware refreshes it at a tick edge. -/
def State.statusPage (s : State) : List Byte :=
  entryOf [(0, 8, (s.reg R.GLB_SERIAL).toNat), (8, 1, 0xB0), (9, 1, s.f R.GLB_ID F.GLB_ID_ORDER),
    (10, 2, patternOf 16 (s.dieTemp 0)), (12, 2, patternOf 16 (s.dieTemp 1)), (14, 2, patternOf 16 (s.dieTemp 2)),
    (16, 2, patternOf 16 (s.dieTemp 3)), (18, 2, patternOf 16 (s.dieTemp 4)), (20, 1, s.f R.WDT_STAT F.WDT_STAT_LAST_FAULT),
    (21, 1, s.f R.PAIR_STAT F.PAIR_STAT_STATE), (24, 8, s.tick)] |>.take 32

/-- SMBUS_STATUS_READ: a block read with command code 0x20 returns the page of the latest tick edge (R475); before the first edge,
the page as it would stand. -/
def execSmbusStatusRead (s : State) : Host.Outcome State Fault Refusal := .next 
  { s with pwr.smbus := if s.pwr.page.isEmpty then s.statusPage else s.pwr.page }

end Sys2Proof.Machine
end

