-- ==== Sys2Proof/Machine/PairOps.lean ====
section
/-!
DEFINITION. The pair and its lock (R410 to R432): states, acquisition, fencing, and the records and messages of the Shroud link.
-/

namespace Sys2Proof.Machine

/-! ## States (R413) -/

/-- PAIR_STAT.STATE: 0 = INIT, 1 = ACTIVE, 2 = SYNCING, 3 = STANDBY, 4 = FENCED. -/
def State.pairState (s : State) : Nat := s.f R.PAIR_STAT F.PAIR_STAT_STATE

/-- The device's ROLE. -/
def State.role (s : State) : Nat := s.f R.PAIR_STAT F.PAIR_STAT_ROLE

/-- PAIR_CTL.AUTO. -/
def State.pairAuto (s : State) : Bool := s.b R.PAIR_CTL F.PAIR_CTL_AUTO

/-- A change of state posts ROLE_CHANGE. -/
def State.setPair (s : State) (v : Nat) : State :=
  if s.pairState = v then s
  else (s.setF R.PAIR_STAT F.PAIR_STAT_STATE v).event Ev.ROLE_CHANGE noObj noLane [s.pairState, v]

/-- PAIR_LAST: the tick and the code of the last takeover, release or fence (R442). -/
def State.pairLast (s : State) (ev : Nat) : State :=
  s.setFs R.PAIR_LAST [(F.PAIR_LAST_TICK, s.tick % 2 ^ 48), (F.PAIR_LAST_EVENT, ev)]

/-- The device drives PAIR_LOCK and asserts PAIR_ACTIVE_N (R412, R429): the mapper follows at the next tick edge, or at once with a
release notice (R432). -/
def State.pairAcquire (s : State) (cause : Nat) : State :=
  let s := s.setFs R.PAIR_STAT [(F.PAIR_STAT_HOLDER, 1), (F.PAIR_STAT_LOCK_IN, 1)]
  let s := ((s.incF R.PAIR_CNT F.PAIR_CNT_TAKEOVER_CNT 1).pairLast cause).setPair 1
  { s with pair.freeAt := none, pair.mapNext := some (cause, s.tick), pair.notice := none, pair.bulk := none, pair.bulkDue := false }

/-- The holder stops carrying and releases both pins (R414, R432). -/
def State.pairDrop (s : State) : State :=
  { s.setF R.PAIR_STAT F.PAIR_STAT_HOLDER 0 with pair.mapOn := false, pair.mapNext := none, pair.bulk := none, pair.unacked := [] }

/-- The mapper becomes active (R429): Class B clients of a receiving end start in WAIT (R431), clients on retired lanes are
re-planned where the mirrored pages differ, and TAKEOVER is posted with the tick of acquisition. -/
def State.pairActivate (s : State) : State :=
  match s.pair.mapNext with
  | some (cause, t) =>
    let s := { s with pair.mapOn := true, pair.mapNext := none }
    let s := s.each (s.map.defined.filter fun c => s.isB c) fun c s => s.setProt c 1
    let s := if s.b R.PAIR_STAT F.PAIR_STAT_PLAN_DIFF then
        (s.each (List.range 16) fun o s => s.replan o).setF R.PAIR_STAT F.PAIR_STAT_PLAN_DIFF 0 else s
    s.eventAt t Ev.TAKEOVER noObj noLane false [cause]
  | none => s

/-- The holder fences (R414): cause 1 = heartbeat, 2 = DUAL_ACTIVE; LAST_FAULT shows it (R472). -/
def State.pairFence (s : State) (cause : Nat) : State :=
  if s.pairState = 1 then
    (((s.pairDrop.pairLast 6).setF R.WDT_STAT F.WDT_STAT_LAST_FAULT 5).setPair 4).event Ev.FENCED noObj noLane [cause]
  else s

/-- The pair arbiter drops to INIT, its pins released (R411, R413). -/
def State.pairReset (s : State) : State :=
  let role := s.role
  let lock := s.b R.PAIR_STAT F.PAIR_STAT_LOCK_IN && !s.holdsLock
  let present := s.b R.PAIR_STAT F.PAIR_STAT_PRESENT
  let s := (s.setReg R.PAIR_STAT 0).setFs R.PAIR_STAT [(F.PAIR_STAT_ROLE, role), (F.PAIR_STAT_LOCK_IN, bit lock),
    (F.PAIR_STAT_PRESENT, bit present)]
  { s with pair := { freeAt := if lock then none else some s.tick, out := s.pair.out } }

/-! ## The Shroud link (R416 to R419) -/

/-- SHRD_STAT.LINK: 0 = DOWN, 1 = CLOCK, 2 = ALIGN, 3 = DESKEW, 4 = UP, 5 = LOOP. -/
def State.shrdLink (s : State) : Nat := s.f R.SHRD_STAT F.SHRD_STAT_LINK

/-- The link runs only while SHRD is On and SHRD_CTL.EN is set. -/
def State.shrdRuns (s : State) : Bool := s.isOn domSHRD && s.b R.SHRD_CTL F.SHRD_CTL_EN

/-- The link is UP. -/
def State.shrdUp (s : State) : Bool := s.shrdRuns && s.shrdLink == 4

/-- The state of a Shroud lane. -/
def State.shrdLane (s : State) (n : Nat) : Nat := s.f (R.SHRD_LANE_STAT n) F.SHRD_LANE_STAT_STATE

/-- A Shroud lane enters a state: LANE_LOCK and CLK_LOCK follow. -/
def State.setShrdLane (s : State) (n v : Nat) : State :=
  let s := s.setF (R.SHRD_LANE_STAT n) F.SHRD_LANE_STAT_STATE v
  if n = 8 then s.setF R.SHRD_STAT F.SHRD_STAT_CLK_LOCK (bit (v = 3))
  else s.setF R.SHRD_STAT F.SHRD_STAT_LANE_LOCK (withBit (s.f R.SHRD_STAT F.SHRD_STAT_LANE_LOCK) n (decide (v = 3)))

/-- The link leaves UP: SHRD_DOWN is posted (R418). -/
def State.shrdDown (s : State) (link : Nat) : State :=
  let was := s.shrdLink == 4
  let s := s.setF R.SHRD_STAT F.SHRD_STAT_LINK link
  if was then { s.eventC Ev.SHRD_DOWN noObj noLane false [] with pair.downPosted := true } else s

/-- A data lane starts its search (R417). -/
def State.shrdSearch (s : State) (n : Nat) : State :=
  let s := { s with pair.badTicks := Tab.set (fun _ => 0) s.pair.badTicks n 0 }
  (s.setFs (R.SHRD_LANE_STAT n) [(F.SHRD_LANE_STAT_FINE, 0), (F.SHRD_LANE_STAT_WINDOW, 0), (F.SHRD_LANE_STAT_SEARCH_TICKS, 0),
    (F.SHRD_LANE_STAT_COARSE_HIT, 0), (F.SHRD_LANE_STAT_EXACT, 0)]).setShrdLane n 1

/-- The whole link starts again from clock lock. -/
def State.shrdRestart (s : State) (link : Nat) : State :=
  (s.each lanes9 fun n s => s.setShrdLane n 0).shrdDown link

/-- The link at a tick edge: it starts when it may run, and goes down when it may not; Retention keeps the lanes' alignment
(R518). -/
def State.shrdTick (s : State) : State :=
  if s.domState domSHRD = 1 then s.shrdDown 0
  else if !s.shrdRuns then (if s.shrdLink = 0 then s else s.shrdRestart 0)
  else if s.f R.SHRD_CTL F.SHRD_CTL_LOOP ≠ 0 then (if s.shrdLink = 5 then s else s.shrdRestart 5)
  else if s.shrdLink = 5 ∨ (s.shrdLink = 0 ∧ s.b R.SHRD_STAT F.SHRD_STAT_CLK_LOCK = false) then s.shrdRestart 1 else s

/-! ## Mirrored state (R421, R424) -/

/-- The mirrored registers (R424). -/
def mirroredRegs : List Nat :=
  (List.range 16).flatMap fun o =>
    [R.SG_LAYOUT o, R.FRM_CTL o, R.TX_FRAME_CTL o, R.LOOP_CTL o, R.ACQ_CTL o, R.HALY_CTL o, R.HALY_DET o, R.HALY_SHARE o]
      ++ (List.range 16).map fun i => R.SL_CTL o i

/-- A register that the mirror carries. -/
def mirrored (a : Nat) : Bool := a == R.MAP_CTL || mirroredRegs.contains a

/-- One record: its type, tick and body (R421). -/
def shrdRecord (typ tick : Nat) (body : List Byte) : List Byte :=
  leBytes 1 typ ++ leBytes 1 0 ++ leBytes 2 body.length ++ leBytes 4 tick ++ body

/-- SETUP records: pairs of offset and value, at most 4,000 in one record. -/
def setupRecords : Nat → Nat → List (Nat × Word) → List Byte
  | 0, _, _ => []
  | _, _, [] => []
  | n + 1, t, l =>
    shrdRecord 1 t ((l.take 4000).flatMap fun x => leBytes 8 x.1 ++ leBytes 8 x.2.toNat) ++ setupRecords n t (l.drop 4000)

/-- IMAGE records of consecutive image bytes from an offset on, at most 32,768 bytes in one record (LEN has 16 bits). -/
def imageRecords : Nat → Nat → Nat → List Byte → List Byte
  | 0, _, _, _ => []
  | n + 1, t, off, b =>
    if b.isEmpty then []
    else shrdRecord 9 t (leBytes 4 off ++ b.take 32768) ++ imageRecords n t (off + 32768) (b.drop 32768)

/-- The body of the RING entry of a ring. -/
def State.ringBody (s : State) (r : Nat) : List Byte :=
  leBytes 2 r ++ leBytes 6 0 ++ leBytes 8 (s.ring r).ctxD.toNat ++ leBytes 8 (s.ring r).ctxE.toNat

/-- The transmit page that a CAL record shows at a tick edge, with ANNOUNCE and SWITCH_FC: the page staged for this tick, one announced that is
not yet in force, or the page in force from this tick's frame on (R41, R178). -/
def State.calShown (s : State) (o : Nat) : CalPage × Nat × Nat :=
  match (s.fo o).plan, (s.fo o).txNext with
  | some p, _ => (p, 1, s.calFrame o % 2 ^ 16)
  | none, some (p, t) => if t + 2 ≤ s.tick then (p, 0, 0) else (p, 1, s.f (R.CAL_STAT o) F.CAL_STAT_TX_SWITCH_FC)
  | none, none => ((s.fo o).txPage, 0, 0)

/-- The body of an octet's CAL record: the octet, then a transmit page laid out as the CAL_COPY payload (R311, R421). -/
def State.calBody (s : State) (o : Nat) : List Byte :=
  let (p, ann, sw) := s.calShown o
  leBytes 1 o ++ leBytes 2 (s.f (R.FRM_CTL o) F.FRM_CTL_TAG_TX) ++ leBytes 1 p.seq ++ leBytes 1 ann ++ leBytes 2 sw ++ leBytes 2 0
    ++ (List.range 128).flatMap fun k => leBytes 2 (calEntry (p.tag k))

/-- The body of an octet's LANE record. -/
def State.laneBody (s : State) (o : Nat) : List Byte := leBytes 1 o ++ lanes9.flatMap fun l => leBytes 1 (s.txState o l)

/-- The body of an octet's TRIM record. -/
def State.trimBody (s : State) (o : Nat) : List Byte :=
  leBytes 1 o ++ lanes9.flatMap fun l => leBytes 8 (s.reg (R.TRIM_Q o l)).toNat ++ leBytes 8 (s.reg (R.TRIM_TX o l)).toNat

/-- The body of the TIME record. -/
def State.timeBody (s : State) : List Byte :=
  leBytes 8 s.tick ++ leBytes 8 (s.tickIdx + 2 ^ 17 * s.time.active + 2 ^ 18 * bit (decide (s.time.off ≠ 0)) + 2 ^ 19 * s.time.refUse)
    ++ leBytes 8 (patternOf 64 (offShown s.time.off)) ++ leBytes 8 (s.reg (R.DOM_INCR 0)).toNat ++ leBytes 8 (s.reg (R.DOM_INCR 1)).toNat

/-- Keyed bodies of mirrored state: (key, type, body). -/
def State.mirrorBodies (s : State) : List (Nat × Nat × List Byte) :=
  (s.host.rings.map fun r => (r.1, 3, s.ringBody r.1))
    ++ (List.range 16).map (fun o => (2 ^ 17 + o, 4, s.calBody o))
    ++ (List.range 16).map (fun o => (2 ^ 18 + o, 5, s.laneBody o))
    ++ (List.range 16).map (fun o => (2 ^ 19 + o, 6, s.trimBody o))

/-- The records of the changes applied at this tick (R420, R421), and the state that has sent them. -/
def State.tickRecords (s : State) : List Byte × State :=
  let changed := s.mirrorBodies.filter fun x => Tab.get (fun _ => []) s.pair.seen x.1 != x.2.2
  let gone := (s.pair.seen.filter fun e => decide (e.1 < 65536) && (s.ring e.1).typ == 0).map fun e => (e.1, 3, s.ringBody e.1)
  let recs := setupRecords 64 s.tick s.pair.setupOut ++ s.pair.cmdOut.flatMap (shrdRecord 2 s.tick ·)
    ++ (changed ++ gone).flatMap (fun x => shrdRecord x.2.1 s.tick x.2.2) ++ shrdRecord 7 s.tick s.timeBody
    ++ s.pair.ageOut.flatMap (shrdRecord 8 s.tick ·)
  let seen := changed.foldl (fun m x => Tab.insert m x.1 x.2.2) (gone.foldl (fun m x => Tab.erase m x.1) s.pair.seen)
  (recs, { s with pair.setupOut := [], pair.cmdOut := [], pair.ageOut := [], pair.seen := seen })

/-- The image of the complete mirrored state (R423): tick b, the length, then records (its layout: log entry 50). -/
def State.pairImage (s : State) : List Byte :=
  let regs := (R.MAP_CTL :: mirroredRegs).filter fun a => s.reg a != resetWord a
  let recs := setupRecords 64 s.tick (regs.map fun a => (a, s.reg a)) ++ s.pair.cliCmds.flatMap (fun e => shrdRecord 2 s.tick e.2)
    ++ s.mirrorBodies.flatMap fun x => shrdRecord x.2.1 s.tick x.2.2
  leBytes 8 s.tick ++ leBytes 4 recs.length ++ recs

/-! ## Messages (R420) -/

/-- The output timescale in 2^-16 ns, `cyc` cycles after the tick edge. -/
def State.outUnits (s : State) (cyc : Nat) : Nat := (s.outAt cyc / ((offUnit * 2 ^ 24 : Nat) : Int)).toNat

/-- A count of 2^-16 ns in the 12-byte layout of R320. -/
def unitsTs (u : Nat) : Nat := u % 2 ^ 16 + 2 ^ 16 * ((u / 2 ^ 16) % 1000000000) + 2 ^ 48 * ((u / 2 ^ 16 / 1000000000) % 2 ^ 48)

/-- A message: header, records and CRC. -/
def State.shrdMessage (s : State) (kind flags alive ack first last rel tx : Nat) (recs : List Byte) : List Byte :=
  let b := leBytes 2 0xA55A ++ leBytes 1 kind ++ leBytes 1 (flags + 2 * s.role + bit s.holdsLock + 8 * bit s.pairAuto)
    ++ leBytes 2 alive ++ leBytes 2 ack ++ leBytes 8 first ++ leBytes 8 last ++ leBytes 8 rel ++ leBytes 4 recs.length
    ++ leBytes 12 (unitsTs tx) ++ leBytes 12 (unitsTs s.pair.rxTime) ++ leBytes 4 0 ++ recs
  b ++ leBytes 4 (crc32c b)

/-- A message goes out on the Shroud link. -/
def State.shrdSend (s : State) (m : List Byte) : State := ({ s with pair.out := s.pair.out ++ [m] }.perf 0xB05 1).chkFrame 2 true

/-- A STATUS is sent, `cyc` cycles after the tick edge (R420). -/
def State.statusSend (s : State) (cyc : Nat) : State :=
  let a := (s.pair.aliveS + 1) % 65536
  let tx := s.outUnits cyc
  let m := s.shrdMessage 2 (4 * bit s.pair.synced) a s.pair.ackM 0 (s.pair.lastTick.getD 0) 0 tx []
  let s := { s with pair.aliveS := a, pair.sentS := ((⟨a, tx, 0, 0⟩ : ShrdSent) :: s.pair.sentS).take 64 }
  (s.setF R.PAIR_MIR_STAT F.PAIR_MIR_STAT_TX_ALIVE a).shrdSend m

/-- PENDING, BULK_LEFT and IMAGE of PAIR_MIR_STAT (R442). -/
def State.mirStat (s : State) : State :=
  let pend : Nat := (s.pair.unacked.map fun x => x.2.length).foldl (· + ·) 0
  let left := match s.pair.bulk with | some (_, im, a) => (im.length - a + 131071) / 131072 | none => 0
  let s := s.setFs R.PAIR_MIR_STAT [(F.PAIR_MIR_STAT_PENDING, min 1023 ((pend + 1023) / 1024)),
    (F.PAIR_MIR_STAT_BULK_LEFT, min 255 left)]
  match s.pair.bulk with
  | some (_, im, _) => s.setF R.PAIR_MIR_STAT F.PAIR_MIR_STAT_IMAGE (min 31 ((im.length + 1048575) / 1048576))
  | none => s

/-- Bulk synchronisation starts at the present tick (R423): what was not acknowledged is part of the image. -/
def State.bulkStart (s : State) : State :=
  let s := s.incF R.PAIR_CNT F.PAIR_CNT_STALE_CNT 1
  { s with pair.bulk := some (s.tick, s.pairImage, 0), pair.unacked := [], pair.bulkDue := false }

/-- The tick of a staged PAIR_RELEASE that lands at the next edge (R432). -/
def State.releaseStaged (s : State) : Bool :=
  s.staged.any fun x => x.due == s.time.next && opcodeOf x.cmd == some Op.PAIR_RELEASE

/-- The holder's MIRROR of the tick (R420, R422, R423). -/
def State.mirrorSend (s : State) : State :=
  if !s.holdsLock then { s with pair.setupOut := [], pair.cmdOut := [], pair.ageOut := [] }
  else
    let (recs, s) := s.tickRecords
    let content := s.pair.unacked ++ [(s.tick, recs)]
    let size : Nat := (content.map fun x => x.2.length).foldl (· + ·) 0
    let s := if 245760 < size then s.event Ev.MIRROR_STALE noObj noLane [] else s
    let s := if decide (245760 < size) || s.pair.bulkDue then s.bulkStart else { s with pair.unacked := content }
    if !s.shrdUp then s.mirStat
    else
      let content := s.pair.unacked
      let old := (content.filter fun x => x.1 != s.tick).length
      let s := if old = 0 then s
        else (s.incF R.PAIR_CNT F.PAIR_CNT_RESEND_CNT 1).event Ev.MIRROR_RESEND noObj noLane [old]
      let deltas := content.flatMap (·.2)
      let (img, iend) := match s.pair.bulk with
        | some (_, im, a) =>
          let n := min 131072 (245700 - deltas.length)
          (imageRecords 8 s.tick a ((im.drop a).take n), min im.length (a + n))
        | none => ([], 0)
      let a := (s.pair.aliveM + 1) % 65536
      let tx := s.outUnits 375
      let first := match content with | x :: _ => x.1 | [] => s.tick
      let m := s.shrdMessage 1 (4 * bit s.pair.bulk.isSome + 16 * bit s.releaseStaged) a s.pair.ackS first s.tick
        (if s.releaseStaged then s.time.next else 0) tx (deltas ++ img)
      let s := { s with pair.aliveM := a, pair.sentM := ((⟨a, tx, s.tick, iend⟩ : ShrdSent) :: s.pair.sentM).take 64 }
      ((s.setF R.PAIR_MIR_STAT F.PAIR_MIR_STAT_TX_ALIVE a).shrdSend m).mirStat

end Sys2Proof.Machine
end

