-- ==== Sys2Proof/Machine/Pair.lean ====
section
/-!
DEFINITION. Commands and events of the pair and of the Shroud link, and the check-engine channels (chapter 12).
-/

namespace Sys2Proof.Machine

/-! ## PAIR_LOCK (R412, R413) -/

/-- PAIR_LOCK becomes free after the filter: a standby with AUTO acquires it; without it, or while synchronising, PAIR_UNSAFE. -/
def State.lockFree (s : State) : State :=
  if s.holdsLock || s.pair.freeAt.isSome then s
  else
    let s := { s.setF R.PAIR_STAT F.PAIR_STAT_LOCK_IN 0 with pair.freeAt := some s.tick, pair.unsafePosted := false }
    if s.pairState = 3 ∧ s.pairAuto = true then
      if s.pair.notice.isSome then (s.pairAcquire 4).pairActivate else s.pairAcquire 1
    else if s.pairState = 2 ∨ s.pairState = 3 then s.event Ev.PAIR_UNSAFE noObj noLane []
    else s

/-- PAIR_LOCK_FREE (R412). -/
def execPairLockFree (s : State) : Host.Outcome State Fault Refusal := .next s.lockFree

/-- In INIT the line has stayed free: for 1 ms without a twin, for 100 ms with one (R412). -/
def State.initTimer (s : State) : State :=
  match s.pair.freeAt with
  | some t =>
    if s.pairState ≠ 0 ∨ s.sec.held = true then s
    else if !s.b R.PAIR_STAT F.PAIR_STAT_PRESENT then (if t + 100 ≤ s.tick then s.pairAcquire 1 else s)
    else if s.tick < t + 10000 then s
    else if s.role = 0 then s.pairAcquire 1
    else if s.pair.unsafePosted then s
    else { s with pair.unsafePosted := true }.event Ev.PAIR_UNSAFE noObj noLane []
  | none => s

/-- PAIR_INIT_TIMER (R412). -/
def execPairInitTimer (s : State) : Host.Outcome State Fault Refusal := .next s.initTimer

/-- RESULT of PAIR_TAKEOVER and PAIR_RELEASE: STATE after, and a tick (R438). -/
def State.pairResult (s : State) (t : Nat) : List (Nat × Nat × Nat) := [(32, 1, s.pairState), (40, 8, t)]

/-- PAIR_LOCK has been low for a tick while this device does not drive it (R413): the twin holds it, and a release that waited for
that completes (R432). -/
def State.lockTaken (s : State) : State :=
  if s.holdsLock then s
  else
    let s := { s.setF R.PAIR_STAT F.PAIR_STAT_LOCK_IN 1 with pair.freeAt := none }
    let s := if s.pairState = 0 then { s.setPair 2 with pair.synced := false } else s
    match s.pair.released with
    | some (c, t) => { s with pair.released := none }.completeAt c Op.PAIR_RELEASE St.OK t (s.pairResult t)
    | none => s

/-- PAIR_LOCK_TAKEN (R413). -/
def execPairLockTaken (s : State) : Host.Outcome State Fault Refusal := .next s.lockTaken

/-- FENCE: firmware has missed FENCE_TICKS heartbeats with FENCE_EN set (R414). -/
def execFence (s : State) : Host.Outcome State Fault Refusal :=
  .next (if s.b R.PAIR_CTL F.PAIR_CTL_FENCE_EN then s.pairFence 1 else s)

/-- PAIR_TAKEOVER at its tick edge (R412, R438). -/
def State.pairTakeover (s : State) (c : Cmd) (force : Nat) : State :=
  let op := Op.PAIR_TAKEOVER
  let st := s.pairState
  if 2 ≤ force then s.refuse c op St.BAD_FIELD
  else if st = 1 ∨ st = 4 then s.refuse c op St.NOT_STANDBY
  else match s.pair.freeAt with
    | none => s.refuse c op St.LOCK_HELD
    | some t =>
      if force = 0 ∧ t + 5000 ≤ s.tick then s.refuse c op St.LOCK_WINDOW
      else if force = 0 ∧ st = 0 then s.refuse c op St.PAIR_UNSYNCED
      else
        let s := s.pairAcquire (2 + force)
        s.ok c op (s.pairResult s.tick)

/-- PAIR_TAKEOVER (R412). -/
def execPairTakeover (cmd : Cmd) (force : BitVec 8) (s : State) : Host.Outcome State Fault Refusal :=
  .next (s.pairTakeover cmd force.toNat)

/-- PAIR_RELEASE at its tick (R432): the command completes when the twin takes the lock, or when this device has to take it back. -/
def State.pairRelease (s : State) (c : Cmd) : State :=
  if s.pairState ≠ 1 then s.refuse c Op.PAIR_RELEASE St.NOT_ACTIVE
  else if !s.b R.PAIR_STAT F.PAIR_STAT_TWIN_SYNCED || !s.pair.twinAuto then s.refuse c Op.PAIR_RELEASE St.PAIR_UNSYNCED
  else
    let s := (s.pairDrop.pairLast 5).setPair 2
    { s with pair.released := some (c, s.tick), pair.synced := false }

/-- PAIR_RELEASE (R432). -/
def execPairRelease (cmd : Cmd) (s : State) : Host.Outcome State Fault Refusal := .next (s.pairRelease cmd)

/-- 100 us after a release the lock is still free: the device acquires it again (R432). -/
def State.releaseCheck (s : State) : State :=
  match s.pair.released with
  | some (c, t) =>
    if s.tick < t + 10 ∨ s.pair.freeAt.isNone = true then s
    else
      let s := { s with pair.released := none }.pairAcquire 1
      s.completeAt c Op.PAIR_RELEASE St.TAKEOVER_FAIL t (s.pairResult t)
  | none => s

/-- RELEASE_CHECK (R432). -/
def execReleaseCheck (s : State) : Host.Outcome State Fault Refusal := .next s.releaseCheck

/-- No message has been accepted for PAIR_MISS_TICKS ticks (R422). -/
def State.hbLost (s : State) : State :=
  if s.b R.PAIR_STAT F.PAIR_STAT_HB_LOST || decide (s.pair.miss < s.f R.PAIR_CTL F.PAIR_CTL_PAIR_MISS_TICKS) then s
  else
    let s := (s.setF R.PAIR_STAT F.PAIR_STAT_HB_LOST 1).eventC Ev.HB_LOST noObj noLane false []
    if s.pairState = 3 then { s.setPair 2 with pair.synced := false } else s

/-- HB_LOST (R422). -/
def execHbLost (s : State) : Host.Outcome State Fault Refusal := .next s.hbLost

/-! ## Received messages (R415, R420 to R427) -/

/-- The records of a message: (type, tick, body). -/
def shrdRecords : Nat → List Byte → List (Nat × Nat × List Byte)
  | 0, _ => []
  | n + 1, b =>
    if b.length < 8 then []
    else
      let len := ofLeBytes ((b.drop 2).take 2)
      (ofLeBytes (b.take 1), ofLeBytes ((b.drop 4).take 4), (b.drop 8).take len) :: shrdRecords n (b.drop (8 + len))

/-- The tick that a record's low 32 bits name, not before `first` (R421). -/
def recTick (first low : Nat) : Nat := first + (low + 2 ^ 32 - first % 2 ^ 32) % 2 ^ 32

/-- Pairs of offset and value in a SETUP body. -/
def setupPairs : Nat → List Byte → List (Nat × Word)
  | 0, _ => []
  | n + 1, b =>
    if b.length < 16 then []
    else (ofLeBytes (b.take 8), BitVec.ofNat 64 (ofLeBytes ((b.drop 8).take 8))) :: setupPairs n (b.drop 16)

/-- A CAL record puts the mirrored page in force; a slot on a lane that this device has retired sets PLAN_DIFF (R426). -/
def State.calMirror (s : State) (b : List Byte) : State :=
  let o := ofLeBytes (b.take 1)
  let num := fun a n => ofLeBytes ((b.drop (1 + a)).take n)
  if 16 ≤ o then s
  else
    let slots := (List.range 128).foldl (fun m k =>
      match calTag (num (8 + 2 * k) 2) with | some t => Tab.set (fun _ => none) m k (some t) | none => m) []
    let s := s.setFo o { s.fo o with txPage := ⟨num 2 1, slots⟩, txNext := none, plan := none }
    let s := s.setF (R.CAL_STAT o) F.CAL_STAT_TX_SEQ (num 2 1)
    if slots.any fun e => s.txLaneLost o (e.1 / 16) then s.setF R.PAIR_STAT F.PAIR_STAT_PLAN_DIFF 1 else s

/-- An accepted record acts on the non-holder (R424): set-up and commands at the next tick edge, the others at once. -/
def State.applyRecord (s : State) (typ : Nat) (b : List Byte) : State :=
  match typ with
  | 1 => { s with pair.setupQ := s.pair.setupQ ++ (setupPairs 4096 b).filter fun x => mirrored x.1 }
  | 2 => { s with pair.cmdQ := s.pair.cmdQ ++ [b] }
  | 3 =>
    let r := ofLeBytes (b.take 2)
    let w := fun a => BitVec.ofNat 64 (ofLeBytes ((b.drop a).take 8))
    { s with pair.rings := Tab.set (fun _ => none) s.pair.rings r (some (w 8, w 16)) }
  | 4 => s.calMirror b
  | 5 => { s with pair.lanes := Tab.set (fun _ => []) s.pair.lanes (ofLeBytes (b.take 1)) ((b.drop 1).map (·.toNat)) }
  | 6 => { s with pair.trim := Tab.set (fun _ => []) s.pair.trim (ofLeBytes (b.take 1)) (b.drop 1) }
  | 7 => { s with pair.time := b }
  | 8 => { s with jrn.partner := jrnRoom 196608 s.jrn.partner ++ [b] }
  | _ => s

/-- The records of an image replace the mirrored state (R423): clients and set-up that it does not name go. -/
def State.applyImage (s : State) (recs : List (Nat × Nat × List Byte)) : State :=
  let named := recs.flatMap fun r => if r.1 = 1 then (setupPairs 4096 r.2.2).map (·.1) else []
  let lost := (R.MAP_CTL :: mirroredRegs).filter fun a => s.reg a != resetWord a && !named.contains a
  let dels := s.map.defined.map fun c => descBytes (.clientDelete ⟨0, 0, 0, 0⟩ (BitVec.ofNat 16 c))
  let s := { s with
    pair.rings := [], pair.setupQ := lost.map fun a => (a, resetWord a), pair.cmdQ := dels, pair.cliCmds := [] }
  s.each recs fun r s => s.applyRecord r.1 r.2.2

/-- IMAGE bytes are gathered in ascending order; offset 0 starts a new image (R423). -/
def State.imageBytes (s : State) (b : List Byte) : State :=
  let off := ofLeBytes (b.take 4)
  if off = 0 then { s with pair.img := some (b.drop 4), pair.held := [], pair.haveImage := false, pair.synced := false }
  else match s.pair.img with
    | some im => if off = im.length then { s with pair.img := some (im ++ b.drop 4) } else s
    | none => s

/-- A complete image is applied, then the deltas of later ticks; SYNCED is set (R413, R423). -/
def State.imageDone (s : State) : State :=
  match s.pair.img with
  | some im =>
    let b := ofLeBytes (im.take 8)
    let len := ofLeBytes ((im.drop 8).take 4)
    if im.length < 12 ∨ im.length < 12 + len then s
    else
      let held := s.pair.held.filter fun r => decide (b < r.1)
      let s : State := { s with pair.img := none, pair.held := [] }
      let s := s.applyImage (shrdRecords im.length ((im.drop 12).take len))
      let s := s.each held fun r s => s.applyRecord r.2.1 r.2.2
      let s : State := { s with pair.synced := true, pair.haveImage := true }
      let s := s.event Ev.SYNC_DONE noObj noLane [im.length]
      if s.pairState = 2 then s.setPair 3 else s
  | none => s

/-- A MIRROR on a device that does not hold the lock (R422). -/
def State.mirrorTake (s : State) (alive first last rel flags : Nat) (recs : List (Nat × Nat × List Byte)) (tx : Nat) : State :=
  let recs := recs.map fun r => (recTick first r.2.1, r.1, r.2.2)
  let starts := recs.any fun r => r.2.1 == 9 && ofLeBytes (r.2.2.take 4) == 0
  let next := match s.pair.lastTick with | some t => decide (first ≤ t + 1) | none => false
  if !starts && !next then
    (if s.pairState = 3 then { s.setPair 2 with pair.synced := false, pair.img := none } else { s with pair.img := none })
  else
    let s := if (s.pair.ackM + 1) % 65536 = alive then s else s.incF R.PAIR_CNT F.PAIR_CNT_JUMP_CNT 1
    let done := s.pair.lastTick.getD 0
    let fresh := recs.filter fun r => r.2.1 != 9 && (starts || decide (done < r.1))
    let s := { s with
      pair.ackM := alive, pair.rxTime := tx, pair.lastTick := some last,
      pair.notice := if bitOf flags 4 then some rel else none }
    let s := s.setF R.PAIR_MIR_STAT F.PAIR_MIR_STAT_ACK_ALIVE alive
    let s := s.each (recs.filter fun r => r.2.1 == 9) fun r s => s.imageBytes r.2.2
    let s := if s.pair.img.isSome then { s with pair.held := s.pair.held ++ fresh }
      else s.each fresh fun r s => s.applyRecord r.2.1 r.2.2
    s.imageDone

/-- A STATUS on the holder (R422, R423): content is acknowledged, and an unsynchronised twin is sent the image. -/
def State.statusTake (s : State) (alive ack flags tx : Nat) : State :=
  let s := { s with pair.ackS := alive, pair.rxTime := tx, pair.twinAuto := bitOf flags 3 }
  let s := s.setF R.PAIR_STAT F.PAIR_STAT_TWIN_SYNCED (bit (bitOf flags 2))
  let s := match s.pair.sentM.find? fun e => e.alive == ack with
    | some e =>
      let s := { s with
        pair.unacked := s.pair.unacked.filter fun x => decide (e.last < x.1)
        pair.bulk := match s.pair.bulk with
          | some (b, im, a) => if im.length ≤ max a e.img then none else some (b, im, max a e.img)
          | none => none }
      s.setF R.PAIR_MIR_STAT F.PAIR_MIR_STAT_ACK_ALIVE ack
    | none => s
  (if bitOf flags 2 || s.pair.bulk.isSome then s else { s with pair.bulkDue := true }).mirStat

/-- PAIR_TWIN_DT from an exchange (R427, R330): `t2` and `t3` are the twin's times, `t1` and `t4` this device's. -/
def State.twinTime (s : State) (sent : List ShrdSent) (ack t2 t3 t4 : Nat) : State :=
  match sent.find? fun e => e.alive == ack with
  | some e =>
    let dt := roundDiv (((t2 : Int) - e.tx) - ((t4 : Int) - t3)) 2
    let s := s.setReg R.PAIR_TWIN_DT (BitVec.ofInt 64 dt)
    let far := decide (4000 * 2 ^ 16 < dt.natAbs)
    if s.b R.PAIR_STAT F.PAIR_STAT_TWIN_TIME = far then s
    else (s.setF R.PAIR_STAT F.PAIR_STAT_TWIN_TIME (bit far)).eventC Ev.TWIN_TIME noObj noLane (!far) [patternOf 64 dt]
  | none => s

/-- An accepted message ends the count of ticks without one (R422). -/
def State.hbHeard (s : State) : State :=
  let s := { s with pair.miss := 0 }.perf 0xB06 1
  if s.b R.PAIR_STAT F.PAIR_STAT_HB_LOST then
    (s.setF R.PAIR_STAT F.PAIR_STAT_HB_LOST 0).eventC Ev.HB_LOST noObj noLane true []
  else s

/-- A message from the Shroud link, received `cyc` cycles after the tick edge (R415, R420, R422).  A device in INIT or FENCED answers a MIRROR
and applies nothing of it (log entry 52). -/
def State.shrdRx (s : State) (cyc : Nat) (b : List Byte) : State :=
  let num := fun a n => ofLeBytes ((b.drop a).take n)
  let len := num 32 4
  let body := b.take (b.length - 4)
  let kind := num 2 1
  let flags := num 3 1
  if !s.shrdRuns || !(s.shrdLink == 4 || s.shrdLink == 5) then s
  else
    let good := decide (b.length = 68 + len) && crc32c body == num (b.length - 4) 4
    let s := s.chkFrame 3 good
    if !good || num 0 2 != 0xA55A || !(kind == 1 || kind == 2) then s
    else if flags / 2 % 2 = s.role then s.incF R.PAIR_CNT F.PAIR_CNT_LOOPED 1
    else
      let holder := s.holdsLock
      let s := if holder && bitOf flags 0 then
          let s := (s.setF R.PAIR_STAT F.PAIR_STAT_DUAL 1).event Ev.DUAL_ACTIVE noObj noLane []
          if s.role = 1 then s.pairFence 2 else s
        else s
      let now := s.outUnits cyc
      let ts := fun a => (tsUnits (num a 12)).toNat
      if holder then
        if kind = 2 ∧ s.holdsLock = true then
          ((s.hbHeard.twinTime s.pair.sentM (num 6 2) (ts 48) (ts 36) now).statusTake (num 4 2) (num 6 2) flags now)
        else s
      else if kind = 1 then
        let s := s.hbHeard.twinTime s.pair.sentS (num 6 2) (ts 48) (ts 36) now
        let s := if s.pairState = 2 ∨ s.pairState = 3 then
            s.mirrorTake (num 4 2) (num 8 8) (num 16 8) (num 24 8) flags (shrdRecords b.length ((b.drop 64).take len)) now
          else s
        let (d, s) := s.draw 626
        { s with pair.got := true }.statusSend (cyc + d)
      else s

/-- MIRROR_RX (R422). -/
def execMirrorRx (bytes : List Byte) (cyc : Fin 6250) (s : State) : Host.Outcome State Fault Refusal :=
  .next (s.shrdRx cyc bytes)

/-- STATUS_RX (R422). -/
def execStatusRx (bytes : List Byte) (cyc : Fin 6250) (s : State) : Host.Outcome State Fault Refusal :=
  .next (if s.holdsLock || ofLeBytes ((bytes.drop 2).take 1) != 1 then s.shrdRx cyc bytes else s)

/-- STATUS_SEND: no MIRROR has arrived by 9.0 us (R420). -/
def execStatusSend (s : State) : Host.Outcome State Fault Refusal :=
  .next (if s.holdsLock || s.pair.got || !s.shrdUp then s else { s with pair.got := true }.statusSend 5625)

/-! ## Mirrored work at a tick edge (R424, R426) -/

/-- A mirrored command runs without a completion. -/
def State.runMirrored (s : State) (b : List Byte) : State :=
  let c : Cmd := ⟨0, ofLeBytes ((b.drop 2).take 2), ofLeBytes ((b.drop 8).take 8), s.host.epoch + 1⟩
  let s := { s with host.outstanding := s.host.outstanding + 1 }
  match cmdOf c b [] (ofLeBytes (b.take 1)) with
  | some (.clientAdd c a) => (s.clientAddTick c a).mirrorOf (.clientAdd c a) a.client.toNat false
  | some (.clientModify c cl w k au cp m) =>
    (s.clientModify c cl.toNat w.toNat k.toNat au.toNat cp.toNat m.toNat).mirrorOf (.clientModify c cl w k au cp m) cl.toNat false
  | some (.clientDelete c cl) => (s.clientDelete c cl.toNat).mirrorOf (.clientDelete c cl) cl.toNat true
  | some (.protSet c cl f u h w) =>
    (s.protSet c cl.toNat f.toNat u.toNat h.toNat w.toNat).mirrorOf (.protSet c cl f u h w) cl.toNat false
  | some (.protReq c cl q) => (s.protRequest c cl.toNat q.toNat).mirrorOf (.protReq c cl q) cl.toNat false
  | _ => { s with host.outstanding := s.host.outstanding - 1 }

/-- Mirrored commands of the tick; the pages stay those that the CAL records give. -/
def State.runMirroredAll (s : State) : State :=
  let q := s.pair.cmdQ
  if q.isEmpty then s
  else
    let pages := (List.range 16).map fun o => (s.fo o).txPage
    let s := { s with pair.cmdQ := [] }.each q fun b s => s.runMirrored b
    s.each (List.range 16) fun o s => s.setFo o { s.fo o with txPage := pages.getD o {}, txNext := none, plan := none }

/-- The lanes of an octet follow the last LANE record (R426). -/
def State.mirrorLanes (s : State) (o : Nat) : State :=
  match Tab.get (fun _ => []) s.pair.lanes o with
  | [] => s
  | st =>
    s.each lanes9 fun l s =>
      let v := st.getD l 0
      let lit := v == 3 || v == 4
      if lit && s.octOn o && s.txState o l == 0 && !s.txRetired o l && !s.laneCleared o l && (s.txl o l).reefStep.isNone then
        s.launchSelf o l .enable ((s.txl o l).hostStep.getD 1) .domain
      else if v = 0 ∧ (s.txLit o l ∨ s.txState o l = 1 ∨ s.txState o l = 2) ∧ (s.txl o l).pend.isNone = true then
        s.launchSelf o l .disable 0 .domain
      else s

/-- The pair at a tick edge: an acquisition takes effect, messages missed are counted, and a non-holder follows the mirror. -/
def State.pairTick (s : State) : State :=
  let s := s.pairActivate
  let s := { s with pair.miss := s.pair.miss + 1, pair.got := false }
  if s.holdsLock || !(s.pairState == 2 || s.pairState == 3) then s
  else s.runMirroredAll.each (List.range 16) fun o s => s.mirrorLanes o

/-! ## PAIR_AUDIT and PAIR_RESYNC (R438) -/

/-- The 16-byte record of a ring from the partner's image; TYPE and the CQ are not in a RING record and are free (log entry 1). -/
def partnerRecord (w : Option (Word × Word)) (v : Nat) : List Byte :=
  match w with
  | some (d, e) =>
    let f := fun (w : Word) lo n => (Fld.of ⟨lo, n⟩ w)
    leBytes 2 (f d 0 16) ++ leBytes 2 (f d 16 16) ++ leBytes 2 (f d 32 16) ++ leBytes 1 (v % 8 + 8 * f d 48 3) ++ leBytes 1 (f d 51 3)
      ++ leBytes 4 (f e 0 32) ++ leBytes 2 (f e 32 16) ++ leBytes 2 (v / 8)
  | none => List.replicate 16 0

/-- The records of a range of the partner's rings. -/
def State.partnerRecords : Nat → State → Nat → List Byte × State
  | 0, s, _ => ([], s)
  | n + 1, s, r =>
    let (v, s) := s.draw (2 ^ 19)
    let (l, s) := State.partnerRecords n s (r + 1)
    (partnerRecord (Tab.get (fun _ => none) s.pair.rings r) v ++ l, s)

/-- PAIR_AUDIT at its tick (R438). -/
def State.pairAudit (s : State) (c : Cmd) (first count addr : Nat) : State :=
  let op := Op.PAIR_AUDIT
  if count = 0 ∨ 65536 < first + count ∨ addr % 64 ≠ 0 then s.refuse c op St.BAD_FIELD
  else if !s.pair.haveImage || !(s.pairState == 1 || s.pairState == 2 || s.pairState == 3) then s.refuse c op St.PAIR_UNSYNCED
  else
    let (b, s) := State.partnerRecords count s first
    (s.dma addr b).ok c op [(32, 3, count), (40, 8, s.pair.lastTick.getD 0)]

/-- PAIR_AUDIT (R438). -/
def execPairAudit (cmd : Cmd) (first : BitVec 16) (count : BitVec 24) (addr : BitVec 64) (s : State) :
    Host.Outcome State Fault Refusal := .next (s.pairAudit cmd first.toNat count.toNat addr.toNat)

/-- PAIR_RESYNC at its tick (R423). -/
def State.pairResync (s : State) (c : Cmd) : State :=
  if s.pairState ≠ 1 then s.refuse c Op.PAIR_RESYNC St.NOT_ACTIVE
  else if !s.shrdUp then s.refuse c Op.PAIR_RESYNC St.SHRD_DOWN
  else
    let s := s.bulkStart.mirStat
    s.ok c Op.PAIR_RESYNC [(32, 4, (match s.pair.bulk with | some (_, im, _) => im.length | none => 0)), (40, 8, s.tick)]

/-- PAIR_RESYNC (R423). -/
def execPairResync (cmd : Cmd) (s : State) : Host.Outcome State Fault Refusal := .next (s.pairResync cmd)

/-! ## The Shroud link (R417 to R419) -/

/-- This device, or its twin, is SYNCING or STANDBY (R438): a twin that answers with STATUS messages is one of them. -/
def State.pairBusy (s : State) : Bool :=
  s.pairState == 2 || s.pairState == 3 || (s.holdsLock && !s.b R.PAIR_STAT F.PAIR_STAT_HB_LOST && decide (s.pair.ackS ≠ 0))

/-- SHRD_LOOP (R419, R438). -/
def State.shrdLoop (s : State) (c : Cmd) (mode force : Nat) : State :=
  let op := Op.SHRD_LOOP
  if 4 ≤ mode ∨ 2 ≤ force then s.refuse c op St.BAD_FIELD
  else if !s.isOn domSHRD then s.refuse c op St.DOMAIN_OFF
  else if force = 0 ∧ s.pairBusy = true then s.refuse c op St.PAIR_BUSY
  else
    let s := s.each (List.range 8) fun n s => s.setF (R.PAT_CTL_S n) F.PAT_CTL_LOOP mode
    ((s.setF R.SHRD_CTL F.SHRD_CTL_LOOP mode).shrdTick).ok c op []

/-- SHRD_LOOP (R419). -/
def execShrdLoop (cmd : Cmd) (mode force : BitVec 8) (s : State) : Host.Outcome State Fault Refusal :=
  .next (s.shrdLoop cmd mode.toNat force.toNat)

/-- The forwarded clock locks: the data lanes start their search (R417). -/
def State.shrdClock (s : State) : State :=
  if s.shrdRuns && s.shrdLink == 1 then
    let s := (s.setShrdLane 8 3).setF R.SHRD_STAT F.SHRD_STAT_LINK 2
    s.each (List.range 8) fun n s => s.shrdSearch n
  else s

/-- SHRD_CLOCK_LOCK (R417). -/
def execShrdClockLock (s : State) : Host.Outcome State Fault Refusal := .next s.shrdClock

/-- A lane's search steps on from the result of an interval (R417, R210 to R213): EXACT twice gives LOCK; a coarse hit slips one bit,
none slips the 64-bit window. -/
def State.shrdStep (s : State) (n : Nat) (coarse exact : Bool) : State :=
  let r := R.SHRD_LANE_STAT n
  let st := s.shrdLane n
  let s := s.incF r F.SHRD_LANE_STAT_SEARCH_TICKS 1
  if exact then s.setShrdLane n (st + 1)
  else
    let s := s.setShrdLane n 1
    if coarse then s.setF r F.SHRD_LANE_STAT_FINE ((s.f r F.SHRD_LANE_STAT_FINE + 1) % 64)
    else s.setFs r [(F.SHRD_LANE_STAT_FINE, 0), (F.SHRD_LANE_STAT_WINDOW, 1 - s.f r F.SHRD_LANE_STAT_WINDOW)]

/-- The result of a lane's interval (R417, R418): invalid headers are counted, and a lane in search steps on.  With all eight lanes
in LOCK the link deskews. -/
def State.shrdResult (s : State) (n : Nat) (coarse exact : Bool) (errs : Nat) : State :=
  let st := s.shrdLane n
  if !s.shrdRuns || st == 0 || st == 4 then s
  else
    let s := s.incF (R.SHRD_LANE_CNT n) F.SHRD_LANE_CNT_HDR_ERR errs
    let s := s.setFs (R.SHRD_LANE_STAT n) [(F.SHRD_LANE_STAT_COARSE_HIT, bit coarse), (F.SHRD_LANE_STAT_EXACT, bit exact)]
    let s := { s with
      pair.badTicks := Tab.set (fun _ => 0) s.pair.badTicks n
        (if st = 3 ∧ 16 < errs then Tab.get (fun _ => 0) s.pair.badTicks n + 1 else 0) }
    let s := if st = 3 then s else s.shrdStep n coarse exact
    if s.f R.SHRD_STAT F.SHRD_STAT_LANE_LOCK = 255 ∧ (s.shrdLink = 0 ∨ s.shrdLink = 2) then
      s.setF R.SHRD_STAT F.SHRD_STAT_LINK 3
    else s

/-- SHRD_LANE_RESULT (R417). -/
def execShrdLaneResult (n : Fin 8) (coarse exact : Bool) (errs : BitVec 16) (s : State) : Host.Outcome State Fault Refusal :=
  .next (s.shrdResult n coarse exact errs.toNat)

/-- The lanes deskew on a marker block: the link is UP (R417). -/
def State.shrdUpGo (s : State) (skews : List Int) : State :=
  if s.shrdRuns && s.shrdLink == 3 then
    let s := s.each (List.range 8) fun n s =>
      s.setI (R.SHRD_LANE_STAT n) F.SHRD_LANE_STAT_SKEW (clampInt (-128) 127 (skews.getD n 0))
    let big := ((List.range 8).map fun n => (skews.getD n 0).natAbs).foldl max 0
    let s := s.setFs R.SHRD_STAT [(F.SHRD_STAT_LINK, 4), (F.SHRD_STAT_SKEW, min 255 big)]
    if s.pair.downPosted then { s with pair.downPosted := false }.eventC Ev.SHRD_DOWN noObj noLane true [] else s
  else s

/-- SHRD_UP (R417). -/
def execShrdUp (skews : List Int) (s : State) : Host.Outcome State Fault Refusal := .next (s.shrdUpGo skews)

/-- A lane with too many invalid headers on two ticks in a row loses LOCK (R418). -/
def State.shrdLose (s : State) (n : Nat) : State :=
  if s.shrdLane n = 3 ∧ 2 ≤ Tab.get (fun _ => 0) s.pair.badTicks n then
    let s := s.incF (R.SHRD_LANE_CNT n) F.SHRD_LANE_CNT_LOCK_LOSS 1
    (s.shrdSearch n).shrdDown 0
  else s

/-- SHRD_LANE_LOSS (R418). -/
def execShrdLaneLoss (n : Fin 8) (s : State) : Host.Outcome State Fault Refusal := .next (s.shrdLose n)

/-- A lane has no LOCK after 255 ticks of search: the link starts again from clock lock (R418). -/
def State.shrdAlignFail (s : State) (n : Nat) : State :=
  let st := s.shrdLane n
  if (st = 1 ∨ st = 2) ∧ s.f (R.SHRD_LANE_STAT n) F.SHRD_LANE_STAT_SEARCH_TICKS = 255 then
    (s.shrdRestart 1).event Ev.SHRD_ALIGN_FAIL noObj n []
  else s

/-- SHRD_ALIGN_FAIL (R418). -/
def execShrdAlignFail (n : Fin 8) (s : State) : Host.Outcome State Fault Refusal := .next (s.shrdAlignFail n)

/-! ## Check-engine channels for software (R433 to R436, R445) -/

/-- Width of a polynomial, its initial value and its final XOR (R434). -/
def chkWidth (p : Nat) : Nat := if p < 2 then 32 else if p = 2 then 16 else 64
def chkInit (p : Nat) : Nat := if p < 2 then 0xFFFFFFFF else if p = 2 then 0xFFFF else 0
def chkFinal (p : Nat) : Nat := if p < 2 then 0xFFFFFFFF else 0

/-- One byte into the register of a polynomial, in its own bit orientation (R433, R434). -/
def chkByte (p r b : Nat) : Nat :=
  match p with
  | 0 => crcByteR 0x82F63B78 r b
  | 1 => crcByteR 0xEDB88320 r b
  | 2 => crcByteL 16 0x1021 r b
  | _ => crcByteL 64 0x42F0E1EBA9EA3693 r b

/-- Bytes into a channel's running value. -/
def State.chkFeed (s : State) (ch : Nat) (bs : List Byte) : State :=
  let p := s.f (R.CHK_CTL ch) F.CHK_CTL_POLY
  let v := (s.reg (R.CHK_VAL ch)).toNat % 2 ^ chkWidth p
  s.setReg (R.CHK_VAL ch) (BitVec.ofNat 64 (bs.foldl (fun r b => chkByte p r b.toNat) v))

/-- A write to a channel's registers: discarded where MAP is not On (R465). -/
def State.chkWrite (s : State) (a size : Nat) (fw : Bool) (v : Word) (g : State → State) : State :=
  match s.blockedBy a with
  | some d => s.offAccess a d size true fw v
  | none => g s

/-- A write to CHK_CTL (R436): a stream channel's is read-only; START loads the initial value. -/
def State.chkCtl (s : State) (ch size : Nat) (fw : Bool) (v : Word) : State :=
  s.chkWrite (R.CHK_CTL ch) size fw v fun s =>
    if ch < 8 then s
    else
      let s := s.setFs (R.CHK_CTL ch) [(F.CHK_CTL_EN, F.CHK_CTL_EN.of v), (F.CHK_CTL_MODE, F.CHK_CTL_MODE.of v),
        (F.CHK_CTL_POLY, F.CHK_CTL_POLY.of v)]
      if F.CHK_CTL_START.of v = 1 then
        (s.setReg (R.CHK_VAL ch) (BitVec.ofNat 64 (chkInit (F.CHK_CTL_POLY.of v)))).setF (R.CHK_CTL ch) F.CHK_CTL_RES_VALID 0
      else s

/-- CHK_START (R436). -/
def execChkStart (ch : Fin 32) (v : BitVec 64) (s : State) : Host.Outcome State Fault Refusal :=
  .next (s.chkCtl ch 3 false (F.CHK_CTL_START.put v 1))

/-- CHK_DATA takes whole words on an enabled software channel (R436). -/
def State.chkData (s : State) (ch size : Nat) (fw : Bool) (v : Word) : State :=
  s.chkWrite (R.CHK_DATA ch) size fw v fun s =>
    if ch < 8 ∨ size ≠ 3 ∨ s.b (R.CHK_CTL ch) F.CHK_CTL_EN = false then s.logW (R.CHK_DATA ch) logREFUSED size fw v
    else s.chkFeed ch (leBytes 8 v.toNat)

/-- CHK_DATA_WRITE (R436). -/
def execChkDataWrite (ch : Fin 32) (v : BitVec 64) (s : State) : Host.Outcome State Fault Refusal :=
  .next (s.chkData ch 3 false v)

/-- CHK_TAIL ends the frame with 0 to 7 bytes and posts the result (R436). -/
def State.chkTail (s : State) (ch size : Nat) (fw : Bool) (v : Word) : State :=
  s.chkWrite (R.CHK_TAIL ch) size fw v fun s =>
    if ch < 8 ∨ size ≠ 3 ∨ s.b (R.CHK_CTL ch) F.CHK_CTL_EN = false then s.logW (R.CHK_TAIL ch) logREFUSED size fw v
    else
      let s := s.chkFeed ch ((leBytes 7 v.toNat).take (F.CHK_TAIL_COUNT.of v))
      let p := s.f (R.CHK_CTL ch) F.CHK_CTL_POLY
      let s := s.setReg (R.CHK_RES ch) (BitVec.ofNat 64 ((s.reg (R.CHK_VAL ch)).toNat ^^^ chkFinal p))
      (s.setF (R.CHK_CTL ch) F.CHK_CTL_RES_VALID 1).chkFrame ch true

/-- CHK_TAIL_WRITE (R436). -/
def execChkTailWrite (ch : Fin 32) (v : BitVec 64) (s : State) : Host.Outcome State Fault Refusal :=
  .next (s.chkTail ch 3 false v)

/-- CHK_VAL is writable in CONTEXT mode only (R433, R445). -/
def State.chkVal (s : State) (ch size : Nat) (fw : Bool) (v : Word) : State :=
  s.chkWrite (R.CHK_VAL ch) size fw v fun s =>
    if ch < 8 ∨ s.b (R.CHK_CTL ch) F.CHK_CTL_MODE = false then s.logW (R.CHK_VAL ch) logREFUSED size fw v
    else s.setReg (R.CHK_VAL ch) v

/-- CHK_VAL_WRITE (R433). -/
def execChkValWrite (ch : Fin 32) (v : BitVec 64) (s : State) : Host.Outcome State Fault Refusal :=
  .next (s.chkVal ch 3 false v)

end Sys2Proof.Machine
end

