-- ==== Sys2Proof/Machine/Power.lean ====
section
/-!
DEFINITION. Power domains (R518 to R527, R530): requests, agents, entries, exits and wakes.
-/

namespace Sys2Proof.Machine

/-- Hidden state of a domain. -/
def State.dom (s : State) (d : Nat) : DomSt := Tab.get (fun _ => {}) s.pwr.dom d

/-- The state with a domain's hidden state replaced. -/
def State.setDom (s : State) (d : Nat) (x : DomSt) : State := { s with pwr.dom := Tab.set (fun _ => {}) s.pwr.dom d x }

/-- PWR_DOM_STAT.TRANS replaced. -/
def State.setTrans (s : State) (d v : Nat) : State := s.setF (R.PWR_DOM_STAT d) F.PWR_DOM_STAT_TRANS v

/-- The octet of a domain, and the slot group of one. -/
def octOf (d : Nat) : Option Nat := if 7 ≤ d ∧ d < 23 then some (d - 7) else none
def sgOf (d : Nat) : Option Nat := if 23 ≤ d ∧ d < 39 then some (d - 23) else none

/-- Causes of refusal (R548). -/
def causeCLASS : Nat := 1
def causeWAKE : Nat := 2
def causeDEPENDENT : Nat := 3
def causeTWIN : Nat := 4
def causeCONV : Nat := 5
def causePARENT : Nat := 6
def causeBAD : Nat := 7
def causeSUPPLY : Nat := 8
def causeSTATE : Nat := 9

/-! ## What a domain loses at Off (R519) -/

/-- The bits of a register that survive Off although no write sets them: retirements and conversions (R234), the fault managers'
verdicts, what the clients' contexts and calendar pages show, and what only firmware sets (log entry 60). -/
def offKept (id : RegId) : Word :=
  let all : Word := ~~~(0 : Word)
  let m := fun (x : Fld) => (maskW x.w <<< x.lo : Word)
  match id with
  | .RETIRE_STAT | .CONV_STAT | .FLT_LANE | .FLT_SL | .FLT_OCT_STAT | .MAP_CLI_DEF | .MAP_CLI_END | .MAP_CLI_STAT | .PROT_END
  | .PROT_CFG | .PROT_STAT | .MAP_STAT | .DSK_STAT | .RX_OCT_STAT | .RX_PI | .CAL_STAT => all
  | .TX_LANE_STAT => m F.TX_LANE_STAT_STATE
  | .ACQ_STAT => m F.ACQ_STAT_CLK_MODE ||| m F.ACQ_STAT_READ_POS
  | .ACQ_LANE_STAT => m F.ACQ_LANE_STAT_STATE ||| m F.ACQ_LANE_STAT_LANE_STATE
  | .SL_STAT => m F.SL_STAT_RX_CLIENT ||| m F.SL_STAT_RX_BOUND ||| m F.SL_STAT_TX_CLIENT ||| m F.SL_STAT_TX_BOUND
  | _ => 0

/-- A counter's value is added to the base from which telemetry counts, before the counter goes back to 0 (R403). -/
def State.baseAdd (s : State) (a : Nat) (x : Fld) : State :=
  { s with
    host.rcBase := Tab.set (fun _ => 0) s.host.rcBase (64 * a + x.lo) (Tab.get (fun _ => 0) s.host.rcBase (64 * a + x.lo) + s.f a x) }

/-- A register's word goes back to its reset value but for the bits of a mask; counters cleared so stay in the totals. -/
def State.loseWord (s : State) (a : Nat) (keep : Word) : State :=
  let s := match regAt a with
    | some (r, _) => s.each (r.fields.filter fun (x : FieldDef) => x.acc == Acc.rc) fun x s => s.baseAdd a x.fld
    | none => s
  s.setReg a ((s.reg a &&& keep) ||| (resetWord a &&& ~~~keep))

/-- The bits of a word that survive Off: those of a long-lived table, which firmware rewrites from its copy, and those of
`offKept`. -/
def keptAtOff (a : Nat) : Word :=
  (if longLived a then tableMask a else 0) ||| (match regAt a with | some (r, _) => offKept r.id | none => 0)

/-- Every register of a domain loses what Off does not keep. -/
def State.loseRegs (s : State) (d : Nat) : State :=
  s.each ((s.regs.map (·.1)).filter fun a => (domainsAt a).contains d) fun a s => s.loseWord a (keptAtOff a)

/-- The journal's working copy is loaded from the flash (R362): the last 8,760 HOURLY entries and every other one.  An entry that
fails its CRC is skipped and counted. -/
def State.jrnLoad (s : State) : State :=
  let es := s.jrn.flash ++ s.jrn.flashQ
  let good := es.filter fun e => decide (ofLeBytes ((e.drop 252).take 4) = crc32c (e.take 252))
  let hourly := fun (e : List Byte) => decide (ofLeBytes ((e.drop 2).take 1) = 1)
  let n := (good.filter hourly).length
  let (own, _) := good.foldl (fun (acc : List (List Byte) × Nat) e =>
    if hourly e then (if acc.2 = 0 then (e :: acc.1, 0) else (acc.1, acc.2 - 1)) else (e :: acc.1, acc.2)) ([], n - 8760)
  let s := s.incF R.JRN_CNT F.JRN_CNT_CRC_BAD (es.length - good.length)
  let s := s.setFs R.JRN_STAT [(F.JRN_STAT_READY, 1), (F.JRN_STAT_ENTRIES, min 8760 n)]
  { s with jrn.own := own.reverse }

/-! ## The state of a domain changes -/

/-- The octet leaves On (R93, R206, R334, R446). -/
def State.octLeaves (s : State) (o : Nat) : State :=
  let s := (((s.synDown o).swapsDrop o).halDropAll o).halStop o
  let s := (s.acqOff o).fltDisarm 2 o 0
  s.setTxo o { s.txo o with entering := false }

/-- What a domain does when it leaves On, or leaves Retention for Off. -/
def State.domLeaves (s : State) (d : Nat) (off : Bool) : State :=
  let s := match octOf d, sgOf d with
    | some o, _ =>
      let s := s.octLeaves o
      if off then
        let s := s.each lanes9 fun l s => (s.setTxl o l { s.txl o l with resume := none, resumePost := false, reefStep := none }).setRxl o l {}
        s.setFo o { s.fo o with run := false, jcTick := none, sent := [], last := none }
      else s
    | none, some g => s.each (List.range 16) fun i s => (s.phyTick g i).fltDisarm 1 g i
    | none, none =>
      if d = domHALY then
        let s := s.each (List.range 16) fun o s => (s.halDropAll o).halStop o
        if off then s.each (List.range 16) fun o s => s.setHal o {} else s
      else if d = domSHRD then s.shrdTick
      else if d = domGDDR ∧ off = true then
        let s := { s.storeFail with jrn.own := [] }
        s.setFs R.JRN_STAT [(F.JRN_STAT_READY, 0), (F.JRN_STAT_ENTRIES, 0)]
      else s
  let s := if off then s.loseRegs d else s
  if d = domGDDR ∨ d = domMAP then s.mapRefresh else s

/-- The sensors that lie in a domain (R500): their rates start anew after Off (R533). -/
def domSensors (d : Nat) : List Nat :=
  match octOf d, sgOf d with
  | some o, _ => [8 * (1 + o / 4) + o % 4]
  | none, some g => [8 * (1 + g / 4) + 4 + g % 4]
  | none, none => []

/-- What a domain does when it has entered On (R93, R206, R218, R341). -/
def State.domEnters (s : State) (d : Nat) (off : Bool) : State :=
  let s := if off then s.each (domSensors d) fun n s =>
      { s with pwr.sens := Tab.set (fun _ => {}) s.pwr.sens n ({ since := some s.tick } : Sensor) }
    else s
  match octOf d, sgOf d with
  | some o, _ =>
    let s := (s.synUp o off).acqOn o (!off)
    if off then s.setTu o { s.tu o with startup := true } else s
  | none, some g => if off then s.setTu (16 + g) { s.tu (16 + g) with startup := true } else s
  | none, none => if d = domGDDR ∧ off = true then s.jrnLoad.mapRefresh else s

/-- The state of a domain changes: PWR_STATE is posted with the old and the new one. -/
def State.setDomState (s : State) (d v : Nat) : State :=
  let old := s.domState d
  if old = v then s
  else
    let s := s.setFs (R.PWR_DOM_STAT d) [(F.PWR_DOM_STAT_STATE, v), (F.PWR_DOM_STAT_TICK, s.tick % 2 ^ 43)]
    let s := s.event Ev.PWR_STATE d noLane [old, v]
    if v = 0 then s.domEnters d (decide (old = 2)) else s.domLeaves d (decide (v = 2))

/-! ## The engine supply (R530) -/

/-- OPERATION is sent to PMBus entries. -/
def State.sendOps (s : State) (l : List Nat) (v : Nat) : State := { s with pwr.pmbOps := s.pwr.pmbOps ++ l.map fun k => (k, v) }

/-- Engine entries with SEQ set that supply a group. -/
def State.supplyEntries (s : State) (g : Nat) : List Nat :=
  (List.range 32).filter fun k => s.f (R.PMB_DEV k) F.PMB_DEV_RAIL == 7 && s.b (R.PMB_DEV k) F.PMB_DEV_SEQ
    && s.f (R.PMB_DEV k) F.PMB_DEV_GROUP == g

/-- The octets of the engine group of an octet. -/
def groupOcts (o : Nat) : List Nat := (List.range 4).map (4 * (o / 4) + ·)

/-- An octet that leaves Off has to wait for its engine supply: no octet of the group is On. -/
def State.needsSupply (s : State) (d : Nat) : Bool :=
  match octOf d with
  | some o => s.domState d == 2 && (groupOcts o).all (fun k => !s.octOn k) && !(s.supplyEntries (o / 4)).isEmpty
  | none => false

/-- The last octet of a group has reached Off: its supply is switched off. -/
def State.supplyOff (s : State) (d : Nat) : State :=
  match octOf d with
  | some o =>
    if (groupOcts o).all fun k => s.domState (domOct k) == 2 then s.sendOps (s.supplyEntries (o / 4)) 0x00 else s
  | none => s

/-! ## Completions and refusals (R523, R527, R544) -/

/-- A request completes: the state, the cause, the delays and the tick. -/
def State.pwrDone (s : State) (d : Nat) (q : DomReq) (st cause : Nat) : State :=
  match q.cmd with
  | some c => s.completeAt c Op.PWR_REQ st c.eff [(32, 1, s.domState d), (33, 1, cause), (34, 2, min 65535 q.delay), (40, 8, s.tick)]
  | none => s

/-- A request, or the exit of a wake, is refused: CAUSE and PWR_REFUSED (log entry 61). -/
def State.pwrRefuse (s : State) (d : Nat) (q : DomReq) (st cause : Nat) : State :=
  ((s.setF (R.PWR_DOM_STAT d) F.PWR_DOM_STAT_CAUSE cause).event Ev.PWR_REFUSED d noLane [cause]).pwrDone d q st cause

/-! ## Agents (R521, R522) -/

/-- A client of Class A or B has line slots on an octet, in either direction. -/
def State.lineHeld (s : State) (o : Nat) : Bool :=
  s.map.defined.any fun c => decide (s.cls c ≤ 1)
    && (((s.sinkOcts c).contains o && (!((s.fo o).txPage.slotsOf c).isEmpty || !((s.calBase o).slotsOf c).isEmpty))
      || (lineSrcE (s.ends c) && (s.routes c).any fun r => (s.routeOcts c r).contains o
        && (if s.stdMode o then o == s.srcOct c else !(s.rxSlots o (s.farTag c)).isEmpty)))

/-- A conversion of an octet is in a state other than NONE, CONVERTED and FAILED at either end. -/
def State.converting (s : State) (o : Nat) : Bool :=
  let moving := fun v => v != 0 && v != 4 && v != 5
  moving (s.convTx o) || moving (s.convRx o)

/-- A slot lane is bound to a client of Class A or B. -/
def State.slotHeld (s : State) (g : Nat) : Bool :=
  (List.range 16).any fun i =>
    let r := R.SL_STAT g i
    (s.b r F.SL_STAT_RX_BOUND && decide (s.cls (s.f r F.SL_STAT_RX_CLIENT) ≤ 1))
      || (s.b r F.SL_STAT_TX_BOUND && decide (s.cls (s.f r F.SL_STAT_TX_CLIENT) ≤ 1))

/-- Ticks to the end of the SUB transmissions in flight: N symbols of 97.2 MHz, the first 64 before the sync word. -/
def State.subTicks (s : State) : Nat :=
  ((List.range 16).map fun o => match (s.hal o).flight with
    | some (m, 0) =>
      let stop := (s.hal o).subStart * 972 + (halSymbols m.payload.length - 64) * 6250
      (stop + 6250 * 972 - 1 - 6250 * 972 * s.tick) / (6250 * 972)
    | _ => 0).foldl max 0

/-- The answer of a domain's agent: 0 = ACCEPT, 1 = REFUSE with a cause, 2 = DELAY with ticks.  A domain that is not On carries
nothing and accepts. -/
def State.agent (s : State) (d : Nat) : Nat × Nat :=
  if d = domMAP then
    (if (List.range 43).any fun k => (k == domPCIE || k == domSHRD || k == domHALY || decide (7 ≤ k)) && s.isOn k then
      (1, causeDEPENDENT) else (0, 0))
  else if 39 ≤ d then
    (if (List.range 4).any fun k => s.octOn (4 * (d - 39) + k) || s.sgOn (4 * (d - 39) + k) then (1, causeDEPENDENT) else (0, 0))
  else if d = domSHRD then (if s.b R.PAIR_STAT F.PAIR_STAT_PRESENT then (1, causeTWIN) else (0, 0))
  else if d = domGDDR then
    (if !s.classB.isEmpty then (1, causeCLASS) else if s.isOn d && !s.jrn.flashQ.isEmpty then (2, 1) else (0, 0))
  else if d = domHALY then
    (if (List.range 16).any s.converting then (1, causeCONV)
     else if s.isOn d && s.subTicks != 0 then (2, min 64 (s.subTicks + 1)) else (0, 0))
  else match octOf d, sgOf d with
    | some o, _ =>
      if s.lineHeld o then (1, causeCLASS)
      else if s.converting o then (1, causeCONV)
      else if (s.fo o).plan.isSome || s.frame.ahead.contains o then (2, 3)
      else match (s.fo o).txNext with
        | some (_, t) => if s.stdMode o then (0, 0) else if t = s.tick then (2, 3) else if t + 1 = s.tick then (2, 2) else (0, 0)
        | none => (0, 0)
    | none, some g =>
      if s.slotHeld g then (1, causeCLASS) else if (List.range 16).any fun i => s.slState g i == 2 then (2, 64) else (0, 0)
    | none, none => (0, 0)

/-- Why a domain cannot go to On now (R522): PARENT or BAD, or 0. -/
def State.onCause (s : State) (d : Nat) : Nat :=
  let die := ((d - 7) % 16) / 4
  let parents := if 39 ≤ d ∨ d = domHALY ∨ d = domSHRD then [domMAP] else if 7 ≤ d then [domMAP, domYFEC die] else []
  if parents.any fun k => !s.isOn k then causePARENT
  else if 39 ≤ d ∧ (s.f R.MEM_BAD_MACRO F.MEM_BAD_MACRO_BAD) / 2 ^ (16 * (d - 39)) % 65536 ≠ 0 then causeBAD else 0

/-! ## Entries and exits (R518, R520) -/

/-- Ticks of an exit; GDDR from Off takes as long as its training, at most 5,000 ticks. -/
def exitTicks (d : Nat) (off : Bool) : Nat :=
  if off then (if d = domMAP then 20 else if 39 ≤ d then 5 else 1)
  else if d = domGDDR then 10 else if d = domSHRD then 4 else 1

/-- The exit of a domain starts, after the engine supply where it has to come up. -/
def State.exitStart (s : State) (d : Nat) (q : DomReq) : State :=
  let off := s.domState d == 2
  let wait := s.needsSupply d
  let s := match octOf d with | some o => if wait then s.sendOps (s.supplyEntries (o / 4)) 0x80 else s | none => s
  (s.setDom d { s.dom d with
    req := some q, fromOff := off, supply := wait, due := s.tick + (if wait then 1000 else exitTicks d off) }).setTrans d 4

/-- An entry is accepted (R520): the domain's clients are no longer carried, its lanes ramp down, its messages are dropped. -/
def State.entryStart (s : State) (d : Nat) (q : DomReq) : State :=
  let s := (s.setDom d { s.dom d with req := some q, due := s.tick + (if d = domGDDR then 2 else 1) }).setTrans d 3
  match octOf d with
  | some o => ((s.trimAbandon o 1).txEntering o (decide (q.target = 1))).halDropAll o
  | none => if d = domHALY then s.each (List.range 16) fun o s => s.halDropAll o else s

/-- A wake of the domain is pending at the present edge (R525): SIG, or the tick that WAKE_TICK names. -/
def State.wakePending (s : State) (d : Nat) : Bool :=
  (s.dom d).wake != 0
    || (s.b (R.PWR_DOM_WAKE d) F.PWR_DOM_WAKE_TICK_EN && s.f (R.PWR_DOM_WAKE d) F.PWR_DOM_WAKE_WAKE_TICK == s.tick % 2 ^ 48)

/-- A request is evaluated (R523), again from step 5 after a delay. -/
def State.pwrEval (s : State) (d : Nat) (q : DomReq) (again : Bool) : State :=
  let st := s.domState d
  if again = false ∧ q.target = st then s.pwrDone d q St.OK 0
  else if again = false ∧ q.target = 0 then
    let e := s.onCause d
    if e = 0 then s.exitStart d q else s.pwrRefuse d q St.REFUSED e
  else if again = false ∧ q.target = 1 ∧ st = 2 then s.pwrRefuse d q St.REFUSED causeSTATE
  else if s.wakePending d then s.pwrRefuse d q St.REFUSED_WAKE causeWAKE
  else
    let (ans, v) := s.agent d
    let s := s.setF (R.PWR_DOM_STAT d) F.PWR_DOM_STAT_LAST_ANS ans
    if ans = 1 then s.pwrRefuse d q St.REFUSED v
    else if ans = 2 then
      let q := { q with delay := q.delay + v }
      if s.f R.PWR_CTL F.PWR_CTL_DELAY_MAX < q.delay then s.pwrDone d q St.DELAY_LIMIT 0
      else
        let s := s.setDom d { s.dom d with req := some q, due := s.tick + v }
        s.setFs (R.PWR_DOM_STAT d) [(F.PWR_DOM_STAT_TRANS, 2), (F.PWR_DOM_STAT_DELAY_LEFT, v)]
    else s.entryStart d q

/-- A delayed request is taken back: the domain is not in transition. -/
def State.undelay (s : State) (d : Nat) : State :=
  (s.setDom d { s.dom d with req := none }).setFs (R.PWR_DOM_STAT d) [(F.PWR_DOM_STAT_TRANS, 0), (F.PWR_DOM_STAT_DELAY_LEFT, 0)]

/-- The held request is shown. -/
def State.setHeld (s : State) (d : Nat) (q : Option DomReq) : State :=
  (s.setDom d { s.dom d with held := q }).setFs (R.PWR_DOM_STAT d) [(F.PWR_DOM_STAT_PENDING, bit q.isSome),
    (F.PWR_DOM_STAT_PEND_STATE, match q with | some q => q.target | none => 0)]

/-- A new request meets the domain as it is (R523 steps 1 and 2, R526). -/
def State.pwrMeet (s : State) (d : Nat) (q : DomReq) : State :=
  let tr := s.domTrans d
  if tr = 3 ∨ tr = 4 then
    let old := (s.dom d).held
    let s := s.setHeld d (some q)
    match old with | some p => s.pwrDone d p St.SUPERSEDED 0 | none => s
  else if tr = 2 then
    let old := (s.dom d).req
    let s := s.undelay d
    let s := match old with | some p => s.pwrDone d p St.SUPERSEDED 0 | none => s
    s.pwrEval d q false
  else s.pwrEval d q false

/-- A request held during a transition that has ended is evaluated (R526). -/
def State.pwrHeld (s : State) (d : Nat) : State :=
  match (s.dom d).held with
  | some q => if s.domTrans d = 0 then (s.setHeld d none).pwrMeet d q else s
  | none => s

/-- A request arrives: one held for a transition that has ended is evaluated before it (R526). -/
def State.pwrAsk (s : State) (d : Nat) (q : DomReq) : State := (s.pwrHeld d).pwrMeet d q

/-- PWR_REQ at its tick edge (R523). -/
def State.pwrReq (s : State) (c : Cmd) (d t : Nat) : State :=
  if d ≤ 2 ∨ 42 < d ∨ 3 ≤ t then s.refuse c Op.PWR_REQ St.BAD_FIELD
  else s.pwrAsk d ⟨some { c with eff := s.tick }, t, 0⟩

/-- PWR_REQ (R523). -/
def execPwrReq (cmd : Cmd) (dom target : BitVec 8) (s : State) : Host.Outcome State Fault Refusal :=
  .next (s.pwrReq cmd dom.toNat target.toNat)

/-- The transition in progress has ended in a state: its request completes OK (R526, R527). -/
def State.transEnd (s : State) (d v : Nat) : State :=
  let q := (s.dom d).req
  let s := (s.setDom d { s.dom d with req := none, supply := false }).setTrans d 0
  let s := s.setDomState d v
  let s := if v = 2 then s.supplyOff d else s
  match q with | some q => s.pwrDone d q St.OK 0 | none => s

/-- The outputs of a domain that is entered are idle (R520): every lane of an octet is DARK since an earlier tick. -/
def State.entryIdle (s : State) (d : Nat) : Bool :=
  decide ((s.dom d).due ≤ s.tick) && match octOf d with
    | some o => s.octDark o && lanes9.all fun l => decide ((s.txl o l).doneTick < s.tick)
    | none => true

/-- A domain reaches Retention or Off. -/
def State.entryDone (s : State) (d : Nat) : State :=
  match s.domTrans d, (s.dom d).req with
  | 3, some q => if s.entryIdle d then s.transEnd d q.target else s
  | _, _ => s

/-- DOMAIN_ENTRY_COMPLETE (R520). -/
def execDomainEntryComplete (dom : Fin 43) (s : State) : Host.Outcome State Fault Refusal := .next (s.entryDone dom)

/-- A domain reaches On. -/
def State.exitDone (s : State) (d : Nat) : State :=
  if s.domTrans d = 4 ∧ (s.dom d).supply = false ∧ (s.dom d).due ≤ s.tick then s.transEnd d 0 else s

/-- DOMAIN_EXIT_COMPLETE (R518). -/
def execDomainExitComplete (dom : Fin 43) (s : State) : Host.Outcome State Fault Refusal := .next (s.exitDone dom)

/-- The wait for the engine supply of an octet ends (R530): POWER_GOOD lets the exit go on, and 1,000 ticks without it refuse the
request with SUPPLY. -/
def State.supplyEnd (s : State) (o : Nat) (good : Bool) : State :=
  let d := domOct o
  let x := s.dom d
  if s.domTrans d ≠ 4 ∨ x.supply = false then s
  else if good then s.setDom d { x with supply := false, due := s.tick + exitTicks d x.fromOff }
  else if s.tick < x.due then s
  else
    let s := (s.setDom d { x with req := none, supply := false }).setTrans d 0
    match x.req with
    | some q => s.pwrRefuse d q St.REFUSED causeSUPPLY
    | none => s

/-- ENG_SUPPLY_WAIT_END (R530). -/
def execEngSupplyWaitEnd (o : Fin 16) (good : Bool) (s : State) : Host.Outcome State Fault Refusal := .next (s.supplyEnd o good)

/-! ## Wakes (R524, R525) -/

/-- The domains with a SIG source. -/
def sigSource (d : Nat) : Bool := d == domSHRD || (decide (7 ≤ d) && decide (d < 39))

/-- Signal where there was none: the wake is pending at the next tick edge. -/
def State.wakeSig (s : State) (d : Nat) : State :=
  if sigSource d && s.b (R.PWR_DOM_WAKE d) F.PWR_DOM_WAKE_SIG_EN then s.setDom d { s.dom d with wake := 1 } else s

/-- WAKE_SIG (R524). -/
def execWakeSig (dom : Fin 43) (s : State) : Host.Outcome State Fault Refusal := .next (s.wakeSig dom)

/-- The exit that a wake asks for: the checks of R522 apply, and no request completes. -/
def State.wakeExit (s : State) (d src : Nat) : State :=
  let e := s.onCause d
  if e = 0 then
    let s := if src = 0 then s else s.event Ev.WAKE d noLane [src]
    s.exitStart d ⟨none, 0, 0⟩
  else s.pwrRefuse d ⟨none, 0, 0⟩ St.REFUSED e

/-- What comes of a firing at the edge at which it is pending (R525). -/
def State.wakeOut (s : State) (d src : Nat) : State :=
  let s := s.setF (R.PWR_DOM_WAKE d) F.PWR_DOM_WAKE_LAST_SRC src
  let tr := s.domTrans d
  if tr = 3 then (s.setDom d { s.dom d with wakeAfter := src }).event Ev.WAKE_AFTER_ENTRY d noLane [src]
  else if tr = 0 ∧ s.isOn d = false then s.wakeExit d src
  else s

/-- The tick that WAKE_TICK names: the source fires once (R524), and waits for a request whose delay ends at this edge. -/
def State.wakeTick (s : State) (d : Nat) : State :=
  let r := R.PWR_DOM_WAKE d
  if 3 ≤ d ∧ s.b r F.PWR_DOM_WAKE_TICK_EN = true ∧ s.f r F.PWR_DOM_WAKE_WAKE_TICK = s.tick % 2 ^ 48 then
    let s := s.setF r F.PWR_DOM_WAKE_TICK_EN 0
    if s.domTrans d = 2 ∧ (s.dom d).due ≤ s.tick then s.setDom d { s.dom d with wake := 2 } else s.wakeOut d 2
  else s

/-- WAKE_TICK (R524). -/
def execWakeTick (dom : Fin 43) (s : State) : Host.Outcome State Fault Refusal := .next (s.wakeTick dom)

/-- A wake that has waited for the evaluation of a delayed request has its outcome, and is pending no longer (R525). -/
def State.wakeFlush (s : State) (d : Nat) : State :=
  let x := s.dom d
  if x.wake = 0 then s else (s.setDom d { x with wake := 0 }).wakeOut d x.wake

/-- A delay has passed: the request is evaluated again from step 5 (R523). -/
def State.delayExpiry (s : State) (d : Nat) : State :=
  match s.domTrans d, (s.dom d).req with
  | 2, some q => if (s.dom d).due ≤ s.tick then ((s.undelay d).pwrEval d q true).wakeFlush d else s
  | _, _ => s

/-- PWR_DELAY_EXPIRY (R523). -/
def execPwrDelayExpiry (dom : Fin 43) (s : State) : Host.Outcome State Fault Refusal := .next (s.delayExpiry dom)

/-- The domains a request can name. -/
def askable : List Nat := (List.range 40).map (3 + ·)

/-- Before the commands of a tick edge: exits owed to a wake during an entry, then held requests (R525, R526). -/
def State.pwrBefore (s : State) : State :=
  s.each askable fun d s =>
    let x := s.dom d
    let s := if x.wakeAfter ≠ 0 ∧ s.domTrans d = 0 ∧ s.isOn d = false then (s.setDom d { x with wakeAfter := 0 }).wakeExit d 0 else s
    s.pwrHeld d

/-- After the commands of a tick edge: the SIG wakes that are pending have their outcome, but for a domain whose delay ends at this edge,
which is evaluated first; DELAY_LEFT counts down. -/
def State.pwrAfter (s : State) : State :=
  s.each askable fun d s =>
    let x := s.dom d
    let tr := s.domTrans d
    let s := if x.wake = 0 ∨ (tr = 2 ∧ x.due ≤ s.tick) then s else (s.setDom d { x with wake := 0 }).wakeOut d x.wake
    if s.domTrans d = 2 then s.setF (R.PWR_DOM_STAT d) F.PWR_DOM_STAT_DELAY_LEFT ((s.dom d).due - s.tick) else s

/-! ## A domain is forced Off (R541, R542) -/

/-- The requests of a domain that is forced Off complete: OK where they asked for Off, SUPERSEDED otherwise. -/
def State.forceOff (s : State) (d : Nat) : State :=
  let x := s.dom d
  let s := match octOf d with
    | some o => if s.octOn o && s.domTrans d != 3 then (s.trimAbandon o 1).txEntering o false else s
    | none => s
  let s := match octOf d with
    | some o => s.each lanes9 fun l s => if s.txState o l = 0 then s else s.laneKill o l
    | none => s
  let s := ((s.setDom d {}).setFs (R.PWR_DOM_STAT d) [(F.PWR_DOM_STAT_TRANS, 0), (F.PWR_DOM_STAT_DELAY_LEFT, 0),
    (F.PWR_DOM_STAT_PENDING, 0), (F.PWR_DOM_STAT_PEND_STATE, 0)]).setDomState d 2
  s.each (x.req.toList ++ x.held.toList) fun q s => s.pwrDone d q (if q.target = 2 then St.OK else St.SUPERSEDED) 0

end Sys2Proof.Machine
end

