-- ==== Sys2Proof/Machine/Reef.lean ====
section
/-!
DEFINITION. Reef (R536 to R540): triggers, stages, the shedding of clients and the darkening of lanes.
-/

namespace Sys2Proof.Machine

/-- The present stage. -/
def State.reefStage (s : State) : Nat := s.f R.REEF_STAT F.REEF_STAT_STAGE

/-- REEF_CTL.EN. -/
def State.reefEn (s : State) : Bool := s.b R.REEF_CTL F.REEF_CTL_EN

/-- The triggers present: bit 0 RATE, 1 WARN, 2 ENG, 3 PIN, 4 MANUAL (R536, R550). -/
def State.reefTrig (s : State) : Nat :=
  bit ((List.range 40).any fun n => s.b (R.THERM_SENS n) F.THERM_SENS_RATE_HIGH)
    + 2 * bit ((List.range 40).any fun n => s.b (R.THERM_SENS n) F.THERM_SENS_WARN)
    + 4 * bit (decide (s.pwr.engWarn ≠ 0)) + 8 * bit (bitOf (s.f R.IN_LEVEL F.IN_LEVEL_LEVEL) 20)
    + 16 * s.f R.REEF_CTL F.REEF_CTL_MANUAL

/-! ## Shedding (R538) -/

/-- A class is shed at a stage: Class D from stage 2, Class C at stage 3. -/
def shedClass (stage cls : Nat) : Bool := (cls == 3 && decide (2 ≤ stage)) || (cls == 2 && decide (3 ≤ stage))

/-- The clients that are shed follow the stage and their classes. -/
def State.shedTick (s : State) : State :=
  let st := s.reefStage
  let s := s.each s.map.defined fun c s =>
    let want := shedClass st (s.cls c)
    if want = s.shed c then s else (s.setB (R.MAP_CLI_STAT c) F.MAP_CLI_STAT_SHED want).eventC Ev.CLIENT_SHED c noLane (!want) []
  s.setF R.REEF_STAT F.REEF_STAT_SHED (s.map.defined.filter fun c => s.shed c).length

/-! ## Dark lanes (R539) -/

/-- The tags on the slots that a transmit data lane carries, in the page in force and in the one to come. -/
def State.laneTags (s : State) (o l : Nat) : List Nat :=
  let n := s.laneSlots o
  let on := fun (p : CalPage) => (p.slots.filter fun e => s.txCarrier o (e.1 / n) == l).filterMap (·.2)
  on (s.fo o).txPage ++ on (s.calBase o)

/-- Reef keeps a lane dark: every slot is free or held by a shed client; in standard mode, a shed client holds the lane. -/
def State.reefDark (s : State) (o l : Nat) : Bool :=
  let tags := s.laneTags o l
  decide (2 ≤ s.reefStage) && tags.all (fun t => s.shed t) && (!s.stdMode o || !tags.isEmpty)

/-- Lanes that Reef never darkens: LC, the one that carries L0's slots in Forist line mode, retired lanes, and the lanes of an octet
with a conversion in progress. -/
def State.reefExempt (s : State) (o l : Nat) : Bool :=
  l == 8 || (!s.stdMode o && s.txCarrier o 0 == l) || s.txRetired o l || s.converting o

/-- A lane at a tick edge: darkened with its step recorded, or ramped back to it. -/
def State.reefLane (s : State) (o l : Nat) : State :=
  let x := s.txl o l
  match x.reefStep with
  | some k =>
    if s.reefDark o l || !s.txServes o then s
    else (s.setTxl o l { x with reefStep := none }).launchSelf o l .enable k .reef
  | none =>
    if s.txServes o && s.txState o l == 3 && x.pend.isNone && !s.reefExempt o l && s.reefDark o l then
      (s.setTxl o l { x with reefStep := some (s.f (R.TX_LANE_STAT o l) F.TX_LANE_STAT_CUR_STEP) }).launchSelf o l .disable 0 .reef
    else s

/-- Every transmit lane. -/
def State.reefLanes (s : State) : State :=
  s.each (pairsOf (List.range 16) 9) fun p s => s.reefLane p.1 p.2

/-! ## Stages (R537) -/

/-- The REEF message of a stage (R311). -/
def State.reefMessage (s : State) (v : Nat) : State :=
  s.each ((List.range 16).filter s.halServes) fun o s => s.halFw o 0x21 1 (leBytes 6 s.tick ++ leBytes 1 v ++ leBytes 1 0)

/-- The stage changes: its timer starts anew, and what the stage sheds and darkens follows at once. -/
def State.setStage (s : State) (v : Nat) : State :=
  let old := s.reefStage
  if old = v then s
  else
    let s := (s.setFs R.REEF_STAT [(F.REEF_STAT_STAGE, v), (F.REEF_STAT_TIMER, 0)]).incF R.REEF_STAT F.REEF_STAT_ENTRY_CNT 1
    let s := s.event Ev.REEF_STAGE noObj noLane [v, old, s.reefTrig]
    let s := if v = 0 then s else s.reefMessage v
    let s := { s with
      pwr.holdCnt := 0, pwr.stageAt := some s.tick, pwr.reefOut := decide (v ≠ 0), jrn.hourReef := s.jrn.hourReef + 1 }
    s.shedTick.reefLanes

/-- TRIG is shown, and a trigger at stage 0 enters stage 1. -/
def State.reefEnter (s : State) : State :=
  let t := s.reefTrig
  let s := s.setF R.REEF_STAT F.REEF_STAT_TRIG t
  if s.reefEn && s.reefStage == 0 && decide (t ≠ 0) then s.setStage 1 else s

/-- Reef at a tick edge, after the commands: the stage timer counts the ticks with a trigger, the other count those without. -/
def State.reefTick (s : State) : State :=
  let s := s.reefEnter
  if s.reefStage = 0 ∨ s.pwr.stageAt = some s.tick then s
  else if s.reefTrig ≠ 0 then { s.incF R.REEF_STAT F.REEF_STAT_TIMER 1 with pwr.holdCnt := 0 }
  else { s with pwr.holdCnt := s.pwr.holdCnt + 1 }

/-- A write that clears REEF_CTL.EN lands: Reef returns to stage 0 in one step (R536). -/
def State.reefDisable (s : State) : State := s.setStage 0

/-- The stage timer has reached a limit. -/
def State.reefTimer (s : State) (x : Fld) : Bool := decide (s.f R.REEF_CTL x ≤ s.f R.REEF_STAT F.REEF_STAT_TIMER)

/-- GRACE has passed: stage 2. -/
def State.reefGrace (s : State) : State :=
  if s.reefStage = 1 ∧ s.reefEn = true ∧ s.reefTimer F.REEF_CTL_GRACE = true then s.setStage 2 else s

/-- REEF_GRACE (R537). -/
def execReefGrace (s : State) : Host.Outcome State Fault Refusal := .next s.reefGrace

/-- GRACE2 has passed: stage 3. -/
def State.reefGrace2 (s : State) : State :=
  if s.reefStage = 2 ∧ s.reefEn = true ∧ s.reefTimer F.REEF_CTL_GRACE2 = true then s.setStage 3 else s

/-- REEF_GRACE2 (R537). -/
def execReefGrace2 (s : State) : Host.Outcome State Fault Refusal := .next s.reefGrace2

/-- HOLD ticks without a trigger have passed: one stage lower. -/
def State.reefHold (s : State) : State :=
  if s.reefStage ≠ 0 ∧ s.f R.REEF_CTL F.REEF_CTL_HOLD ≤ s.pwr.holdCnt then s.setStage (s.reefStage - 1) else s

/-- REEF_HOLD (R537). -/
def execReefHold (s : State) : Host.Outcome State Fault Refusal := .next s.reefHold

/-- REEF_REQ at its tick edge (R536, R544): its RESULT is the stage after. -/
def State.reefReq (s : State) (c : Cmd) (v : Nat) : State :=
  if 2 ≤ v then s.refuse c Op.REEF_REQ St.BAD_FIELD
  else
    let s := (s.setF R.REEF_CTL F.REEF_CTL_MANUAL v).reefEnter
    s.ok c Op.REEF_REQ [(32, 1, s.reefStage)]

/-- REEF_REQ (R544). -/
def execReefReq (cmd : Cmd) (manual : BitVec 8) (s : State) : Host.Outcome State Fault Refusal :=
  .next (s.reefReq cmd manual.toNat)

end Sys2Proof.Machine
end

