-- ==== Sys2Proof/Machine/Stops.lean ====
section
/-!
DEFINITION. Temperatures (R532 to R534) and the stops (R541, R542).
-/

namespace Sys2Proof.Machine

/-! ## Stops -/

/-- LAST_FAULT of the watchdog's status (R481). -/
def State.setLastFault (s : State) (v : Nat) : State := s.setF R.WDT_STAT F.WDT_STAT_LAST_FAULT v

/-- The order in which an orderly stop switches the domains off. -/
def stopOrder : List Nat :=
  (List.range 32).map (7 + ·) ++ (List.range 4).map (39 + ·) ++ [domHALY, domSHRD, domGDDR, domMAP, domPCIE, domCTRL]

/-- An orderly stop starts at the present edge (R541): cause 1 = critical level, 2 = command.  A second cause merges. -/
def State.orderlyStart (s : State) (cause sensor : Nat) : State :=
  if s.pwr.stop = .none then
    let s := { s.setLastFault 3 with
      pair.mapOn := false, pair.mapNext := none, pwr.stop := .orderly stopOrder, pwr.critPend := none, pwr.dropPins := true }
    let s := (s.setF R.PWR_STAT F.PWR_STAT_STOPPING 1).lrStart 3
    s.event Ev.PWR_STOP noObj noLane [cause, sensor]
  else { s with pwr.critPend := none }

/-- The pair pins are released at the end of the tick in which the stop started, after its final MIRROR (R414, R541). -/
def State.stopPins (s : State) : State :=
  if s.pwr.dropPins then
    let s := { s with pwr.dropPins := false }
    if s.holdsLock then s.pairDrop.pairLast 5 else s
  else s

/-- ORDERLY_STOP: the critical level has been reached on two readings (R534, R541). -/
def execOrderlyStop (s : State) : Host.Outcome State Fault Refusal :=
  .next (match s.pwr.critPend with | some n => s.orderlyStart 1 n | none => s)

/-- PWR_STOP at its tick edge: it completes OK (R544). -/
def State.pwrStop (s : State) (c : Cmd) : State := (s.orderlyStart 2 0).ok c Op.PWR_STOP []

/-- PWR_STOP (R544). -/
def execPwrStop (cmd : Cmd) (s : State) : Host.Outcome State Fault Refusal := .next (s.pwrStop cmd)

/-- Engine entries with SEQ set. -/
def State.seqEntries (s : State) : List Nat := (List.range 4).flatMap s.supplyEntries

/-- The completions held are written, oldest first (R541). -/
def State.flushCompletions : Nat → State → State
  | 0, s => s
  | n + 1, s => State.flushCompletions n s.completionWrite

/-- The next domain of an orderly stop goes Off (R541). -/
def State.stopDomain (s : State) : State :=
  match s.pwr.stop with
  | .orderly (d :: rest) =>
    if s.lrState ≠ 2 then s
    else
      let s := s.stopPins
      let s := if d = domPCIE then s.flushCompletions s.host.compQ.length else s
      let s := s.forceOff d
      let s := if d = domOct 15 then s.sendOps s.seqEntries 0x00 else s
      let s := if d = domPCIE then { s with host.linkUp := false } else s
      if rest.isEmpty then { s.setF R.PWR_STAT F.PWR_STAT_STOPPING 0 with pwr.stop := .stopped } else { s with pwr.stop := .orderly rest }
  | _ => s

/-- ORDERLY_STOP_DOMAIN_OFF (R541). -/
def execOrderlyStopDomainOff (s : State) : Host.Outcome State Fault Refusal := .next s.stopDomain

/-- The hard stop (R542): engine channels to their clear codes, pair pins released, every domain but AON Off, no event and no
completion. -/
def State.hardStop (s : State) : State :=
  if s.pwr.stop = .hard then s
  else
    let s := { s with pwr.stop := .hard, pwr.thermtrip := true, pwr.critPend := none, pwr.dropPins := false }
    let s := s.each (List.range 432) fun c s => s.clearCh c
    let s := s.each (pairsOf (List.range 16) 9) fun p s => s.laneKill p.1 p.2
    let s := if s.holdsLock then s.pairDrop else s
    let s := (s.each ((List.range 42).map (1 + ·)) fun d s => s.forceOff d).setLastFault 2
    let s := s.sendOps ((List.range 32).filter fun k => s.b (R.PMB_DEV k) F.PMB_DEV_TRIP_OFF) 0x00
    { s.setF R.PWR_STAT F.PWR_STAT_STOPPING 0 with
      pwr.reefOut := false, host.linkUp := false, host.evQ := [], host.compQ := [], host.recQ := [] }

/-! ## On-die sensors (R533, R534) -/

/-- A sensor's hidden state. -/
def State.sens (s : State) (n : Nat) : Sensor := Tab.get (fun _ => {}) s.pwr.sens n

/-- The mean (times 4) held at the reading nearest to a tick. -/
def nearestMean (t : Nat) : List (Nat × Int) → Option (Nat × Int)
  | [] => none
  | x :: l =>
    match nearestMean t l with
    | some y => if ((x.1 : Int) - t).natAbs ≤ ((y.1 : Int) - t).natAbs then some x else some y
    | none => some x

/-- RATE of a sensor in 0.1 °C/s from its means over W ticks of 10 us; 0 until W ticks of readings exist. -/
def sensorRate (w now : Nat) (x : Sensor) : Int :=
  match x.hist, x.since with
  | (_, a) :: _, some t0 =>
    if now < t0 + w then 0
    else match nearestMean (now - w) x.hist with
      | some (_, b) => clampInt (-32768) 32767 (roundDiv (2500 * (a - b)) w)
      | none => 0
  | _, _ => 0

/-- MAX_TEMP and MAX_RATE with their sensors, over the sensors that have been read. -/
def State.thermStat (s : State) : State :=
  let ns := (List.range 40).filter fun n => !(s.sens n).last.isEmpty
  let best := fun (x : Fld) => ns.foldl (fun (b : Option Nat) n => match b with
    | some m => if s.i (R.THERM_SENS m) x < s.i (R.THERM_SENS n) x then some n else b
    | none => some n) none
  match best F.THERM_SENS_TEMP, best F.THERM_SENS_RATE with
  | some a, some b => s.setFs R.THERM_STAT [
      (F.THERM_STAT_MAX_TEMP, s.f (R.THERM_SENS a) F.THERM_SENS_TEMP), (F.THERM_STAT_MAX_SENS, a),
      (F.THERM_STAT_MAX_RATE, s.f (R.THERM_SENS b) F.THERM_SENS_RATE), (F.THERM_STAT_RATE_SENS, b)]
  | _, _ => s

/-- Hysteresis of the levels in 0.01 °C. -/
def State.hyst (s : State) : Int := (10 * s.f R.THERM_LVL F.THERM_LVL_HYST : Nat)

/-- The flags of a sensor follow its reading (R534). -/
def State.sensorFlags (s : State) (n : Nat) (temp rate : Int) : State :=
  let r := R.THERM_SENS n
  let high := decide ((s.f R.THERM_CTL F.THERM_CTL_RATE_LIM : Int) < rate)
  let wasHigh := s.b r F.THERM_SENS_RATE_HIGH
  let s := s.setB r F.THERM_SENS_RATE_HIGH high
  let s := if high = wasHigh then s else s.eventC Ev.THERM_RATE n noLane (!high) [patternOf 64 rate]
  let warn := s.i R.THERM_LVL F.THERM_LVL_WARN
  let was := s.b r F.THERM_SENS_WARN
  let now := if was then decide (warn - s.hyst ≤ temp) else decide (warn ≤ temp)
  let s := s.setB r F.THERM_SENS_WARN now
  if now = was then s else s.eventC Ev.THERM_WARN n noLane (!now) [patternOf 64 temp]

/-- A sum of readings. -/
def sumInt (l : List Int) : Int := l.foldl (· + ·) 0

/-- A mean is added to those held; the oldest window is 65,535 ticks long. -/
def meansAdd (now : Nat) (a : Int) (l : List (Nat × Int)) : List (Nat × Int) :=
  (now, a) :: l.filter fun (e : Nat × Int) => decide (now - e.1 ≤ 65550)

/-- A sensor after a reading. -/
def sensorNext (crit : Int) (now : Nat) (temp : Int) (x : Sensor) : Sensor :=
  let last := (temp :: x.last).take 4
  { last := last, hist := if last.length = 4 then meansAdd now (sumInt last) x.hist else x.hist,
    crit := if crit ≤ temp then x.crit + 1 else 0, since := match x.since with | some t => some t | none => some now }

/-- A reading is kept and shown with its rate. -/
def State.sensorKeep (s : State) (n : Nat) (temp : Int) (x : Sensor) : State :=
  let rate := sensorRate (s.f R.THERM_CTL F.THERM_CTL_RATE_WIN) s.tick x
  let s := { s with pwr.sens := Tab.set (fun _ => {}) s.pwr.sens n x }
  let s := s.setFs (R.THERM_SENS n) [(F.THERM_SENS_TEMP, patternOf 16 temp), (F.THERM_SENS_RATE, patternOf 16 rate)]
  (s.sensorFlags n temp rate).thermStat

/-- A second reading at CRIT in a row: an orderly stop is due at the next edge. -/
def State.critDue (s : State) (n : Nat) : State :=
  if decide (2 ≤ (s.sens n).crit) && decide (s.pwr.stop = .none) && s.pwr.critPend.isNone then { s with pwr.critPend := some n } else s

/-- A reading of an on-die sensor, in 0.01 °C: at TRIP the hard stop acts in the same cycle, at CRIT on two readings in a row an
orderly stop is due at the next edge (R534). -/
def State.sensorRead (s : State) (n : Nat) (temp : Int) : State :=
  let s := (s.sensorKeep n temp (sensorNext (s.i R.THERM_LVL F.THERM_LVL_CRIT) s.tick temp (s.sens n))).critDue n
  if s.i R.THERM_LVL F.THERM_LVL_TRIP ≤ temp then s.hardStop else s

/-! ## Engine temperatures (R532, R534) -/

/-- Firmware reads an engine's temperature, once per 100 ticks over the engine's I2C bus: a signed value in 1/256 °C.  A failed read
keeps the previous value.  The bus must be free (R508). -/
def State.engTherm (s : State) (o : Nat) (data : Option Nat) : State :=
  let r := R.ENG_THERM o
  if !s.b r F.ENG_THERM_EN || (s.i2cNow (o / 4)).isSome || !s.b (R.ENG_I2C_CTL (o / 4)) F.ENG_I2C_CTL_EN || !s.isOn domCTRL then s
  else match data with
    | none => s
    | some v =>
      let t := roundDiv (signedOf 16 v * 100) 256
      let s := s.setF r F.ENG_THERM_TEMP (patternOf 16 t)
      let lvl := s.i R.ENG_THERM_LVL F.ENG_THERM_LVL_ENG_WARN
      let was := bitOf s.pwr.engWarn o
      let now := if was then decide (lvl - s.hyst ≤ t) else decide (lvl ≤ t)
      let s := { s with pwr.engWarn := withBit s.pwr.engWarn o now }
      let s := if now = was then s else s.eventC Ev.ENG_THERM o noLane (!now) [patternOf 64 t, 1]
      let crit := decide (s.i R.ENG_THERM_LVL F.ENG_THERM_LVL_ENG_CRIT ≤ t)
      let on := bitOf s.pwr.engCritOn o
      let s := if crit && !on then s.event Ev.ENG_THERM o noLane [patternOf 64 t, 2] else s
      { s with
        pwr.engCritOn := withBit s.pwr.engCritOn o crit
        pwr.engCrit := if crit then withBit s.pwr.engCrit o true else s.pwr.engCrit }

/-- ENG_THERM_READ (R532). -/
def execEngThermRead (o : Fin 16) (data : Option (BitVec 16)) (s : State) : Host.Outcome State Fault Refusal :=
  .next (s.engTherm o (data.map (·.toNat)))

/-- Engines at ENG_CRIT act at the next tick edge: their lit lanes ramp down as TX_DISABLE with FORCE = 1 does (R534). -/
def State.engCritTick (s : State) : State :=
  let m := s.pwr.engCrit
  s.each (bitsOf 16 m) (fun o s =>
    s.each lanes9 fun l s =>
      if s.txState o l = 2 ∨ s.txState o l = 3 ∨ s.txState o l = 4 then
        (s.setTxl o l { s.txl o l with reefStep := none, resume := none, resumePost := false }).launchSelf o l .disable 0 .host
      else s) |> fun s => { s with pwr.engCrit := 0 }

end Sys2Proof.Machine
end

