-- ==== Sys2Proof/Machine/Regulators.lean ====
section
/-!
DEFINITION. The control clock (R528), the regulators on PMBus (R529, R544) and the core voltage (R531).
-/

namespace Sys2Proof.Machine

/-! ## The control clock (R528) -/

/-- CORE_CLK (R528). -/
def execCoreClk (pll : Bool) (s : State) : Host.Outcome State Fault Refusal := .next (s.coreClk pll)

/-! ## PMBus (R529) -/

/-- One entry of a poll: STATUS_WORD, VOUT, IOUT and TEMP as PMB_STAT holds them, or no answer. -/
def State.pmbEntry (s : State) (k : Nat) (w : Option Word) : State :=
  if !s.b (R.PMB_DEV k) F.PMB_DEV_POLL then s
  else match w with
    | none => s.event Ev.PMB_FAULT k noLane [0xFFFF]
    | some v =>
      let old := s.f (R.PMB_STAT k) F.PMB_STAT_STATUS_WORD
      let s := s.setReg (R.PMB_STAT k) v
      let new := s.f (R.PMB_STAT k) F.PMB_STAT_STATUS_WORD
      if new ≠ 0 ∧ new ≠ old then s.event Ev.PMB_FAULT k noLane [new] else s

/-- PMB_POLL (R529): `res` gives each entry's answer by its index. -/
def State.pmbPoll (s : State) (res : List (Option Word)) : State :=
  if s.isOn domCTRL && s.pwr.pmbRun.isNone then s.each (List.range 32) fun k s => s.pmbEntry k (res.getD k none) else s

/-- PMB_POLL (R529). -/
def execPmbPoll (res : List (Option (BitVec 64))) (s : State) : Host.Outcome State Fault Refusal := .next (s.pmbPoll res)

/-- The first waiting transaction starts when the bus is free. -/
def State.pmbNext (s : State) : State :=
  match s.pwr.pmbRun, s.pwr.pmbHost with
  | none, x :: q => { s with pwr.pmbRun := some x, pwr.pmbHost := q }
  | _, _ => s

/-- PMB_XFER at its tick edge (R544). -/
def State.pmbXfer (s : State) (c : Cmd) (entry code wn rn page wdata : Nat) : State :=
  if 32 ≤ entry ∨ 32 < wn ∨ 24 < rn ∨ 2 ≤ page then s.refuse c Op.PMB_XFER St.BAD_FIELD
  else
    let x : BusXfer := ⟨some { c with eff := s.tick }, entry, code, leBytes wn wdata, rn, decide (page = 1)⟩
    State.pmbNext { s with pwr.pmbHost := s.pwr.pmbHost ++ [x] }

/-- PMB_XFER (R544). -/
def execPmbXfer (cmd : Cmd) (entry code wcount rcount page : BitVec 8) (wdata : BitVec 256) (s : State) :
    Host.Outcome State Fault Refusal :=
  .next (s.pmbXfer cmd entry.toNat code.toNat wcount.toNat rcount.toNat page.toNat wdata.toNat)

/-- A transaction ends: 0 = with data, 1 = with a NAK, 2 = after 25 ms on the bus. -/
def State.pmbEnd (s : State) (outcome : Nat) (data : List Byte) : State :=
  match s.pwr.pmbRun with
  | some x =>
    let s := { s with pwr.pmbRun := none }
    let s := if outcome = 0 then
        s.completeO x.cmd Op.PMB_XFER St.OK (xferEff x) [(32, 1, x.rlen), (36, 24, ofLeBytes (data.take x.rlen))]
      else s.completeO x.cmd Op.PMB_XFER (if outcome = 1 then St.PMB_NAK else St.PMB_TIMEOUT) (xferEff x) []
    s.pmbNext
  | none => s

/-- PMB_TRANSACTION_END (R529). -/
def execPmbTransactionEnd (outcome : Fin 3) (data : List Byte) (s : State) : Host.Outcome State Fault Refusal :=
  .next (s.pmbEnd outcome data)

/-! ## Adaptive voltage scaling (R531) -/

/-- The target before it is limited, in 0.1 mV. -/
def State.avsWant (s : State) : Nat :=
  let age := ((List.range 5).map fun d => s.f (R.AGE_DIE d) F.AGE_DIE_MAX).foldl max 0
  s.f R.AVS_STAT F.AVS_STAT_BASE + 10 * (age / 1000) + 10 * s.f R.AVS_CTL F.AVS_CTL_MARGIN_MV

/-- The setting on the AVS bus before a move; the regulator's own first setting is free (log entry 1). -/
def State.avsNow (s : State) : Nat × State :=
  match s.pwr.avsSet with
  | some v => (v, s)
  | none => let (n, s) := s.draw 1501; (6500 + n, s)

/-- The setting moves toward the target by at most STEP_MV. -/
def State.avsMove (s : State) (target : Nat) : State :=
  let (v, s) := s.avsNow
  let n := 10 * s.f R.AVS_CTL F.AVS_CTL_STEP_MV
  { s with pwr.avsSet := some (if v < target then min target (v + n) else max target (v - n)), pwr.avsLast := some s.tick }

/-- A hundred ticks have passed since the last move. -/
def State.avsDue (s : State) : Bool := match s.pwr.avsLast with | some t => decide (t + 100 ≤ s.tick) | none => true

/-- AVS with EN set: the target, its clamp, the regulator's report of voltage and current (free, log entry 1), and the move. -/
def State.avsStep (s : State) : State :=
  if !s.b R.AVS_CTL F.AVS_CTL_EN || !s.isOn domCTRL || !s.avsDue then s
  else
    let want := s.avsWant
    let t := max 6500 (min 8000 want)
    let s := s.setFs R.AVS_STAT [(F.AVS_STAT_TARGET, t), (F.AVS_STAT_LIMIT, bit (decide (t ≠ want)))]
    let s := if t ≠ want then s.event Ev.AVS_LIMIT noObj noLane [want] else s
    ((s.avsMove t).freeF R.AVS_STAT F.AVS_STAT_VOUT).freeF R.AVS_STAT F.AVS_STAT_IOUT

/-- AVS_STEP (R531). -/
def execAvsStep (s : State) : Host.Outcome State Fault Refusal := .next s.avsStep

end Sys2Proof.Machine
end

