-- ==== Sys2Proof/Machine/Housekeeping.lean ====
section
/-!
DEFINITION. Housekeeping conversions (R499 to R507): corrected results, the thermal scan, sequencers, read-back and plausibility
checks.
-/

namespace Sys2Proof.Machine

/-! ## Results (R504, R505) -/

/-- The corrected mean of the codes of one conversion: (RAW - TRIM_HK.OFS / 16 - OFS) (1 + GAIN 2^-16), rounded once and saturated to
16 bits. -/
def State.hkCorrect (s : State) (h c : Nat) (raw : List Nat) : Nat :=
  let n := max 1 raw.length
  let ofsT := s.i (R.TRIM_HK h) F.TRIM_HK_OFS
  let ofs := s.i (R.HK_CH_CAL c) F.HK_CH_CAL_OFS
  let gain := s.i (R.HK_CH_CAL c) F.HK_CH_CAL_GAIN
  let sum : Nat := raw.foldl (· + ·) 0
  let num := (16 * (sum : Int) - n * ofsT - 16 * n * ofs) * (65536 + gain)
  (clampInt 0 65535 (roundDiv num (n * 2 ^ 20))).toNat

/-- VALUE of a channel as a number: the corrected code, or its factory scaling into the units of R499 (log entry 2), kept to 16 bits. -/
def State.hkValue (s : State) (c code : Nat) : Int :=
  if c < 128 then code
  else
    let span := if c < 560 then (s.ch (c - 128)).span else 0
    let v := Config.hkScale c span code
    if 560 ≤ c ∧ c < 600 ∨ span = 2 then clampInt (-32768) 32767 v else clampInt 0 65535 v

/-- Minimum settle of a channel in units of 20 ns (R499). -/
def State.hkMinSettle (s : State) (c : Nat) : Nat :=
  if c < 128 then s.f (R.HK_IN_CFG c) F.HK_IN_CFG_MIN_SETTLE
  else if c < 560 then 100 else if c < 600 then 12 else if c < 616 then 10 else 25

/-- The result carries UNSETTLED (R504): too short a settle delay, or a read-back that starts within 2.0 us (1,250 cycles) of the edge
at which its DAC channel applied a new code, or in a span change.  `cyc` is the start of the conversion. -/
def State.hkUnsettled (s : State) (c settle cyc : Nat) : Bool :=
  decide (settle < s.hkMinSettle c) || (decide (128 ≤ c) && decide (c < 560) &&
    (let x := s.ch (c - 128)
     x.spanPend || match x.lastApply with
      | some t => decide ((s.tick - t) * 6250 + cyc < 1250)
      | none => false))

/-- A result is written to HK_RES (R505). -/
def State.hkWrite (s : State) (h c : Nat) (v : Int) (raw : List Nat) (uns check : Bool) : State :=
  let sum : Nat := raw.foldl (· + ·) 0
  s.setFs (R.HK_RES c) [(F.HK_RES_VALUE, patternOf 16 v), (F.HK_RES_RAW, (roundDiv sum (max 1 raw.length)).toNat % 65536),
    (F.HK_RES_UNSETTLED, bit uns), (F.HK_RES_CONV, h), (F.HK_RES_CHECK, bit check), (F.HK_RES_TICK, s.tick % 2 ^ 29)]

/-- A settled read-back (R506): RB, and the comparison with the code applied. -/
def State.readBack (s : State) (c : Nat) (v : Int) : State :=
  let x := s.ch c
  let r := R.EDAC_CH_STAT c
  let s := s.setF r F.EDAC_CH_STAT_RB (patternOf 16 v)
  if s.b (R.EDAC_CH_CFG c) F.EDAC_CH_CFG_RB_EN && decide (s.f R.EDAC_CTL F.EDAC_CTL_RB_TOL < (v - codeVal x.span x.code).natAbs) then
    (s.incF r F.EDAC_CH_STAT_RB_FAIL_CNT 1).event Ev.EDAC_RB_FAIL c noLane [x.code, patternOf 16 v]
  else s

/-- One result of converter `h`, with what follows from it for a read-back. -/
def State.hkResult (s : State) (h c settle cyc : Nat) (raw : List Nat) (check : Bool) : State × Int :=
  let v := s.hkValue c (s.hkCorrect h c raw)
  let uns := s.hkUnsettled c settle cyc
  let s := s.hkWrite h c v raw uns check
  (if 128 ≤ c ∧ c < 560 ∧ uns = false then s.readBack (c - 128) v else s, v)

/-! ## The thermal scan (R501) -/

/-- The first of the four sensors that a converter scans: j is TICK_COUNT mod 5, and counts on while the tick is stopped. -/
def State.scanFirst (s : State) (h : Nat) : Nat :=
  20 * h + 4 * ((s.tick + if s.time.holdover then s.pwr.scanPhase else 0) % 5)

/-- The four sensors of a converter are converted. -/
def State.thermalScan (s : State) (h cyc : Nat) (raw : List Nat) : State :=
  s.each (List.range (min 4 raw.length)) fun k s =>
    let n := s.scanFirst h + k
    let (s, v) := s.hkResult h (560 + n) 12 cyc [raw.getD k 0] false
    s.sensorRead n v

/-! ## Sequencers (R502, R503, R507) -/

/-- An entry of a converter's table. -/
def State.hkEntry (s : State) (h e : Nat) (x : Fld) : Nat := s.f (R.HK_SEQ h e) x

/-- The sequence in progress ends with an entry. -/
def State.hkLast (s : State) (h e : Nat) : Bool := s.hkEntry h e F.HK_SEQ_LOOP == 1 || e == 255

/-- Where a converter goes after entry `e`. -/
def State.hkNext (s : State) (h e : Nat) : State :=
  let x := s.hk h
  let last := s.hkLast h e
  let back := if x.restart then 0 else match x.trig with | some r => r | none => if last then 0 else e + 1
  let stay := x.trig.isSome && !last
  let s := if x.trig.isNone && last && !x.restart then s.incF (R.HK_STAT h) F.HK_STAT_LOOPS 1 else s
  let y : HkConv :=
    if stay then { x with entry := e + 1, restart := false, trig := some back }
    else match x.pend with
      | some p => { x with entry := p, pend := none, restart := false, trig := some back }
      | none => { x with entry := back, restart := false, trig := none }
  (s.setHk h y).setB (R.HK_SEQ_CTL h) F.HK_SEQ_CTL_RESTART false

/-- The two results of a CHECK entry are compared (R507), and their difference is kept for the planner (R351). -/
def State.plausible (s : State) (h e c : Nat) (v0 v1 : Int) : State :=
  let d := v0 - v1
  let r := R.HK_PLAUS_STAT
  let s := (s.setI r F.HK_PLAUS_STAT_LAST_DIFF (clampInt (-32768) 32767 d)).incF r F.HK_PLAUS_STAT_CHECK_CNT 1
  let k := 256 * h + e
  let (n, sum) := Tab.get (fun _ => (0, 0)) s.jrn.hkSum k
  let s := { s with jrn.hkSum := Tab.set (fun _ => (0, 0)) s.jrn.hkSum k (n + 1, sum + d) }
  if s.f R.HK_PLAUS_CTL F.HK_PLAUS_CTL_TOL < d.natAbs then
    (s.incF r F.HK_PLAUS_STAT_FAIL_CNT 1).event Ev.HK_PLAUS noObj noLane [c, patternOf 16 v0, patternOf 16 v1]
  else s

/-- The conversions of the entry in progress end: `raw` from the converter itself, `raw2` from the other one for a CHECK entry. -/
def State.hkSequence (s : State) (h cyc : Nat) (raw raw2 : List Nat) : State :=
  if !s.b (R.HK_SEQ_CTL h) F.HK_SEQ_CTL_EN && (s.hk h).trig.isNone then s
  else
    let e := (s.hk h).entry
    let c := s.hkEntry h e F.HK_SEQ_CH
    let settle := s.hkEntry h e F.HK_SEQ_SETTLE
    let check := s.hkEntry h e F.HK_SEQ_CHECK == 1
    let (s, v) := s.hkResult h c settle cyc raw check
    let s := if check then
        let (s, w) := s.hkResult (1 - h) c settle cyc raw2 true
        if h = 0 then s.plausible h e c v w else s.plausible h e c w v
      else s
    s.hkNext h e

/-- HK_CONVERSION (R501 to R507): the end of a thermal scan (`kind` 0), of the conversions of a table entry (1) or of a trim insertion
(2, which shows nothing: R347).  `cyc` is the start within the tick in cycles of 625 MHz. -/
def State.hkConversion (s : State) (h kind : Nat) (raw raw2 : List Nat) (cyc : Nat) : State :=
  if kind = 0 then s.thermalScan h cyc raw else if kind = 1 then s.hkSequence h cyc raw raw2 else s

/-- HK_CONVERSION (R505). -/
def execHkConversion (h : Fin 2) (kind : Fin 3) (raw raw2 : List (BitVec 16)) (cyc : Fin 6250) (s : State) :
    Host.Outcome State Fault Refusal :=
  .next (s.hkConversion h kind (raw.map (·.toNat)) (raw2.map (·.toNat)) cyc)

/-- A trigger names a triggered sequence (R503): it waits for the conversion in progress, or is dropped where one waits. -/
def State.hkTrigger (s : State) (h e : Nat) : State :=
  let x := s.hk h
  if x.pend.isSome then
    (s.incF (R.HK_STAT h) F.HK_STAT_TRIG_DROP 1).event Ev.HK_TRIG_DROP h noLane []
  else if s.b (R.HK_SEQ_CTL h) F.HK_SEQ_CTL_EN || x.trig.isSome then s.setHk h { x with pend := some e }
  else s.setHk h { x with trig := some x.entry, entry := e }

end Sys2Proof.Machine
end

