-- ==== Sys2Proof/Machine/Startup.lean ====
section
/-!
DEFINITION. Resets and the start-up sequence (R552 to R558, R562, R564, R565), the watchdog (R473), the end of the last ramp (R498),
and the losses of supply (R411, R472).
-/

namespace Sys2Proof.Machine

/-! ## What a device reset keeps (R471, R552) -/

/-- The registers that the fuses give (R566, R569, R609). -/
def fusedRegs : List Nat :=
  [R.GLB_ID, R.GLB_SERIAL, R.SEC_FUSE_STAT, R.SEC_KEY_STAT]
    ++ (List.range 5).map R.SEC_DIE_LOT ++ (List.range 5).map R.SEC_DIE_POS

/-- The bits of a register that a RESET_N or a watchdog reset keeps. -/
def keptAtReset (a : Nat) : Word :=
  if fusedRegs.contains a || a == R.WDT_STAT then ~~~(0 : Word)
  else match regAt a with
    | some (r, _) => if retained r.id then tableMask a else 0
    | none => 0

/-- The bits of a register that a power-on reset keeps. -/
def keptAtPowerOn (a : Nat) : Word := if fusedRegs.contains a then ~~~(0 : Word) else 0

/-- The registers after a reset that keeps some bits. -/
def keepRegs (m : Nat → Word) (t : Tab Word) : Tab Word :=
  t.foldl (fun t (e : Nat × Word) => Tab.set resetWord t e.1 ((e.2 &&& m e.1) ||| (resetWord e.1 &&& ~~~(m e.1)))) []

/-- The time base through a reset other than power-on: the counters, the output timescale and the tick run on; TS_CTL is back at its
reset value, so REFCLK_A is in use where it is present. -/
def TimeSt.kept (t : TimeSt) : TimeSt :=
  { tick := t.tick, next := t.tick + 1, cntA := t.cntA, cntB := t.cntB, off := t.off, active := t.active, refA := t.refA, refB := t.refB,
    refUse := if t.refA then 0 else t.refUse, holdover := t.holdover }

/-- The engine DAC outputs in a reset: every channel at its clear code in the span in force, every queue empty (R496). -/
def State.resetChans (s : State) : Tab EdacCh :=
  s.chans.foldl (fun t c => Tab.set (fun _ => {}) t c
    ({ span := (s.ch c).span, code := s.clearCode c, prev := s.clearCode c, held := true } : EdacCh)) []

/-- The power block through a reset: the input filters, what has gone out on pins and buses, and the scan's place.  THERMTRIP_N rises
only where RESET_N finds every sensor below TRIP - 10 °C (R542). -/
def State.resetPwr (s : State) (pin : Bool) : PwrSt :=
  let cool := (List.range 40).all fun n =>
    (s.sens n).last.isEmpty || decide (s.i (R.THERM_SENS n) F.THERM_SENS_TEMP < s.i R.THERM_LVL F.THERM_LVL_TRIP - 1000)
  { inRaw := s.pwr.inRaw, pmbOps := s.pwr.pmbOps, scanPhase := s.pwr.scanPhase, page := s.pwr.page, smbus := s.pwr.smbus,
    thermtrip := s.pwr.thermtrip && !(pin && cool) }

/-- A device reset other than power-on, with its LAST_FAULT code: RESET_N (8) or the watchdog (1).  The pair pins are released
(R411), and the device is held until the reset's release. -/
def State.deviceReset (s : State) (fault : Nat) : State :=
  let s' : State := {
    pending := s.pending, freeCtr := s.freeCtr, regs := keepRegs keptAtReset s.regs, time := s.time.kept,
    host := { dmaOut := s.host.dmaOut }, jrn := { flash := s.jrn.flash, partner := s.jrn.partner }
    eng := { ch := s.resetChans, clrPin := s.eng.clrPin, hiZ := s.eng.hiZ }, pwr := s.resetPwr (fault == 8),
    sec := { flash := s.sec.flash, keys := s.sec.keys }, pair := { out := s.pair.out } }
  let s' := (s'.setLastFault fault).setF R.IN_LEVEL F.IN_LEVEL_LEVEL s.pwr.inRaw
  let s' := s'.setFs R.PAIR_STAT [(F.PAIR_STAT_ROLE, s.role), (F.PAIR_STAT_LOCK_IN, bit (bitOf s.pwr.inRaw 18 && !s.holdsLock)),
    (F.PAIR_STAT_PRESENT, bit (bitOf s.pwr.inRaw 19))]
  s'.pairReset

/-- A power-on reset: everything is reset, retained storage and the time counters included; fuses and flash keep what they hold. -/
def State.powerOn (s : State) (up : Bool) : State :=
  { pending := s.pending, freeCtr := s.freeCtr, regs := keepRegs keptAtPowerOn s.regs,
    time := {
      refA := s.time.refA, refB := s.time.refB, refUse := if s.time.refA then 0 else bit s.time.refB,
      holdover := !s.time.refA && !s.time.refB },
    host := { dmaOut := s.host.dmaOut }, jrn := { flash := s.jrn.flash, partner := s.jrn.partner },
    eng := { clrPin := s.eng.clrPin, hiZ := !up }, pwr := { pmbOps := s.pwr.pmbOps }, sec := { flash := s.sec.flash, keys := s.sec.keys },
    pair := { out := s.pair.out } }

/-- POWER_ON_RESET: VDD_AON rises through its threshold (R552); the DAC outputs go to their clear codes (R496). -/
def execPowerOnReset (s : State) : Host.Outcome State Fault Refusal := .next (s.powerOn true)

/-- RESET_N is low for 1 µs: a device reset, which also restarts a start-up in progress (R552, R553).  Its rise alone does nothing: the
release is RESET_RELEASE. -/
def execResetN (low : Bool) (s : State) : Host.Outcome State Fault Refusal := .next (if low then s.deviceReset 8 else s)

/-- VDD_AON_LOSS: the pair pins are released at once, the DAC outputs fall to high impedance, and what VDD_AON holds is lost (R411,
R496, R626). -/
def execVddAonLoss (s : State) : Host.Outcome State Fault Refusal := .next (s.powerOn false)

/-- VDD_CORE_LOSS: the pair pins are released, LAST_FAULT = 6, and every domain but AON is without supply (R411, R472; log entry
62). -/
def State.coreLoss (s : State) : State :=
  let s := if s.holdsLock then s.pairDrop else s
  let s := (s.each ((List.range 42).map (1 + ·)) fun d s => s.forceOff d).setLastFault 6
  { s.setF R.PWR_STAT F.PWR_STAT_STOPPING 0 with
    pwr.stop := if s.pwr.stop = .hard then .hard else .stopped, pwr.critPend := none, host.linkUp := false, host.evQ := [],
    host.compQ := [], host.recQ := [], staged := [] }

/-- VDD_CORE_LOSS (R411). -/
def execVddCoreLoss (s : State) : Host.Outcome State Fault Refusal := .next s.coreLoss

/-! ## The watchdog (R473) and the end of the last ramp (R498) -/

/-- SEC_BOOT_STAT.STAGE (R577). -/
def State.bootStage (s : State) : Nat := s.f R.SEC_BOOT_STAT F.SEC_BOOT_STAT_STAGE

/-- SEC_BOOT_STAT.STAGE replaced. -/
def State.setBootStage (s : State) (v : Nat) : State := s.setF R.SEC_BOOT_STAT F.SEC_BOOT_STAT_STAGE v

/-- TIMEOUT periods have passed without a kick.  The watchdog counts from step 6 on (R554), and not in a device that has been stopped
(R541; log entry 63). -/
def State.wdtExpire (s : State) : State :=
  let runs := decide (3 ≤ s.bootStage ∧ s.bootStage ≤ 5) && !s.sec.held
    && (match s.pwr.stop with | .none => true | .orderly _ => true | _ => false)
  if !s.b R.WDT_CTL F.WDT_CTL_EN || !runs || s.eng.lrReset then s
  else
    let s := (s.setLastFault 1).incF R.WDT_STAT F.WDT_STAT_EXPIRE_CNT 1
    let s := if s.isOn domPCIE then s.event Ev.WDT_EXPIRE noObj noLane [] else s
    if s.b R.WDT_CTL F.WDT_CTL_ACTION then
      (if s.lrState = 2 then s.deviceReset 1 else { s.lrStart 1 with eng.lrReset := true })
    else s

/-- WDT_EXPIRE (R473). -/
def execWdtExpire (s : State) : Host.Outcome State Fault Refusal := .next s.wdtExpire

/-- One period after the last step the sequencer enters DONE: the commands that wait complete, and a watchdog's run ends in the reset. -/
def State.lrDone (s : State) : State :=
  if s.lrState = 1 ∧ s.eng.lrStep = s.eng.lrN then
    let s := (s.setFs R.LR_STAT [(F.LR_STAT_STATE, 2), (F.LR_STAT_LEFT, 0)]).event Ev.LAST_RAMP_DONE noObj noLane []
    let ws := s.eng.lrWait
    let s : State := { s with eng.lrWait := [] }
    let s := s.each ws fun c s => s.completeAt c Op.LAST_RAMP St.OK c.eff s.lrResult
    if s.eng.lrReset then s.deviceReset 1 else s
  else s

/-- LAST_RAMP_DONE (R498). -/
def execLastRampDone (s : State) : Host.Outcome State Fault Refusal := .next s.lrDone

/-! ## Start-up: memory repair and self-test (R461, R462) -/

/-- A row is given a free spare of its macro, at most 64 in the device; one that finds none posts SPARE_EXHAUSTED and stays in use. -/
def State.giveSpare (s : State) (key : Nat) : Nat × State :=
  let m := key / 2 ^ 9
  let used := Tab.get (fun _ => 0) s.mem.spares m
  if used < 4 ∧ s.f R.MEM_REPAIR_STAT F.MEM_REPAIR_STAT_SOFT_USED < 64 then
    (used, { s with mem.spares := Tab.set (fun _ => 0) s.mem.spares m (used + 1) }.incF R.MEM_REPAIR_STAT
      F.MEM_REPAIR_STAT_SOFT_USED 1)
  else (0xFF, (s.incF R.MEM_REPAIR_STAT F.MEM_REPAIR_STAT_UNREPAIRED 1).event Ev.SPARE_EXHAUSTED noObj noLane [])

/-- The rows that the journal's SOFT_REPAIR entries name, oldest first, with their causes. -/
def journalRows (es : List (List Byte)) : List (Nat × Nat × Nat) :=
  (es.filter fun e => fieldOf e 2 1 == 3 && crcPasses e).foldl (fun l e =>
    let k := rowKey (fieldOf e 16 1) (fieldOf e 17 2) (fieldOf e 19 2)
    if l.any fun x => x.1 == k then l else l ++ [(k, fieldOf e 21 1, fieldOf e 28 1)]) []

/-- Step 3: the repair table is applied, oldest first; one that fails its CRC is rebuilt from the journal after start-up (R560). -/
def State.repairApply (s : State) : State :=
  let rows := journalRows s.jrn.flash
  let s : State := { s.chkFrame 7 s.repairTable.isSome with mem.repair := rows }
  match s.repairTable with
  | some keys => (s.each keys fun k s => (s.giveSpare k).2).setB R.SEC_BOOT_STAT F.SEC_BOOT_STAT_REPAIR_OK true
  | none => s.repairWrite.event Ev.REPAIR_BAD noObj noLane []

/-- A macro fails for good: a Yard macro is marked BAD; a failure on the Mast stops start-up. -/
def State.macroBad (s : State) (die mac : Nat) : State :=
  if die = 0 then s.setLastFault 7
  else
    let v := s.f R.MEM_BAD_MACRO F.MEM_BAD_MACRO_BAD
    let s := s.setF R.MEM_BAD_MACRO F.MEM_BAD_MACRO_BAD (withBit v (16 * (die - 1) + mac) true)
    s.setF R.MEM_REPAIR_STAT F.MEM_REPAIR_STAT_BAD_MACROS
      (withBit (s.f R.MEM_REPAIR_STAT F.MEM_REPAIR_STAT_BAD_MACROS) (4 * (die - 1) + mac / 4) true)

/-- A row fails the pattern pass: it is repaired and journalled; uncorrectable and without a spare, it fails its macro. -/
def State.rowFails (s : State) (die mac row : Nat) (unc : Bool) : State :=
  let key := rowKey die mac row
  let (spare, s) := s.giveSpare key
  let s := if s.mem.repair.any fun e => e.1 == key then
      { s with mem.repair := s.mem.repair.map fun e => if e.1 = key then (e.1, e.2.1, satAdd 8 e.2.2 1) else e }
    else s.repairAdd key 1 spare
  if spare = 0xFF ∧ unc = true then s.macroBad die mac else s

/-- The self-test of step 3: rows that fail the pattern pass, and macros that fail the checker pass. -/
def State.selfTest (s : State) (rows : List (Nat × Nat × Nat × Bool)) (checker : List (Nat × Nat)) : State :=
  let s := s.each (rows.filter fun x => decide (x.1 < 5) && decide (x.2.1 < macrosOf x.1) && decide (x.2.2.1 < 512)) fun x s =>
    s.rowFails x.1 x.2.1 x.2.2.1 x.2.2.2
  s.each (checker.filter fun x => decide (x.1 < 5) && decide (x.2 < macrosOf x.1)) fun x s => s.macroBad x.1 x.2

/-! ## Start-up: the slot (R562) -/

/-- The slots in the order in which the root core tries them. -/
def slotOrder (pref try_ : Nat) : List Nat := let p := pref % 2; if try_ = 2 then [1 - p, p] else [p, 1 - p]

/-- Recovery: the cause goes to LAST_FAULT (R564, R565). -/
def State.recover (s : State) (fault : Nat) : State := (s.setLastFault fault).setBootStage 6

/-- Step 5: the first slot that is bootable; a slot with TRY = 1 gets TRY = 2 before it is started. -/
def State.chooseSlot (s : State) : Option Nat × State :=
  let d := s.dirNow
  let order := slotOrder d.1 d.2.1
  let s := (s.chkFrame 7 (crcPasses (s.dirRecord 0))).chkFrame 7 (crcPasses (s.dirRecord 1))
  let s := if d.2.1 = 1 ∧ s.imageOk (d.1 % 2) 1 = true ∧ s.rollback ≤ s.slotVersion (d.1 % 2) then s.dirWrite d.1 2 else s
  (order.find? s.bootable, s)

/-! ## Start-up: firmware (R554, R557) -/

/-- Firmware raises a domain of SEC_START_DOM; one that R522 does not allow, or whose supply does not come up, stays Off. -/
def State.raise (s : State) (supply : Nat) (d : Nat) : State :=
  if !bitOf (s.f R.SEC_START_DOM F.SEC_START_DOM_DOMAINS) (d - 3) then s
  else
    let e := s.onCause d
    if e ≠ 0 then s.pwrRefuse d ⟨none, 0, 0⟩ St.REFUSED e
    else
      let w := s.needsSupply d
      let g := (d - 7) / 4
      let s := if w then s.sendOps (s.supplyEntries g) 0x80 else s
      if w && !bitOf supply g then s.pwrRefuse d ⟨none, 0, 0⟩ St.REFUSED causeSUPPLY
      else
        let s := s.setDomState d 0
        match octOf d with
        | some o => (s.synCal o).1
        | none => s

/-- The order in which firmware raises the domains. -/
def raiseOrder : List Nat := domMAP :: (List.range 4).map (39 + ·) ++ [domGDDR, domSHRD, domHALY] ++ (List.range 32).map (7 + ·)

/-- SEQ of the journal goes on from the flash (R360). -/
def State.jrnSeq (s : State) : State :=
  let m := (s.jrn.flash.filter crcPasses).foldl (fun m e => max m (fieldOf e 4 4 + 1)) 0
  s.setF R.JRN_STAT F.JRN_STAT_SEQ m

/-- What BOOT_FALLBACK reports of a start-up whose running slot is not the one preferred or not the first tried: the slot that failed and
the reason (R562, R575; log entry 65). -/
def fallbackOf (pref try_ run : Nat) : Option (Nat × Nat) :=
  let p := pref % 2
  if try_ = 2 then (if run ≠ p then some (p, 2) else some (1 - p, 1)) else if run ≠ p then some (p, 1) else none

/-- Steps 6 to 8: the control cores run the slot's images on the PLL. -/
def State.firmware (s : State) (slot : Nat) (fallback : Bool) : State :=
  let s : State := { s with sec.meas := [(0, s.measure slot 1), (1, s.measure slot 2)] }
  let s := s.setFs R.SEC_BOOT_STAT [(F.SEC_BOOT_STAT_STAGE, 4), (F.SEC_BOOT_STAT_SLOT, slot), (F.SEC_BOOT_STAT_FALLBACK, bit fallback),
    (F.SEC_BOOT_STAT_VERSION, s.slotVersion slot), (F.SEC_BOOT_STAT_FW_START, s.tick % 2 ^ 48)]
  if s.time.holdover then s else s.coreClk true

/-- Steps 9 and 10: the domains, the start-up trim runs of the converters, the directory, FW_READY and the events. -/
def State.fwReady (s : State) (supply slot : Nat) (fb : Option (Nat × Nat)) (certOk : Bool) : State :=
  let s := s.each raiseOrder fun d s => s.raise supply d
  let s := s.each [32, 33] fun u s => s.setTu u { s.tu u with startup := true }
  let s := s.dirWrite slot 0
  let s := s.setFs R.SEC_BOOT_STAT [(F.SEC_BOOT_STAT_STAGE, 5), (F.SEC_BOOT_STAT_FW_READY, 1)]
  let s := (s.setF R.GLB_VERSION F.GLB_VERSION_FW_VER (s.slotVersion slot)).freeF R.GLB_VERSION F.GLB_VERSION_FW_BUILD
  let (ms, s) := s.draw 68
  let s := s.event Ev.BOOT_DONE noObj noLane [slot, s.slotVersion slot, ms]
  let s := match fb with | some (a, b) => s.event Ev.BOOT_FALLBACK noObj noLane [a, b] | none => s
  if certOk then s else s.event Ev.CERT_BAD noObj noLane []

/-- Step 5 and what follows.  Firmware that hangs, or a system PLL without a reference, does not reach FW_READY (R627). -/
def State.bootSlots (s : State) (supply : Nat) (hang certOk : Bool) : State :=
  let d := s.dirNow
  let (slot, s) := s.chooseSlot
  match slot with
  | none => s.recover 16
  | some x =>
    let fb := fallbackOf d.1 d.2.1 x
    let s := s.firmware x fb.isSome
    if hang || s.time.holdover then s else s.fwReady supply x fb certOk

/-- The release of a device reset: start-up runs to its end (R554; log entry 64). -/
def State.release (s : State) (role fuseOk flashOk certOk hang : Bool) (supply : Nat) (rows : List (Nat × Nat × Nat × Bool))
    (checker : List (Nat × Nat)) : State :=
  if !s.sec.held then s
  else
    let s := s.setF R.PAIR_STAT F.PAIR_STAT_ROLE (bit role)
    let s : State := { s with sec.held := false, pair.freeAt := s.pair.freeAt.map fun _ => s.tick }
    let s := s.each s.chans fun c s => s.setCh c { s.ch c with span := 0, code := s.clearCode c, prev := s.clearCode c }
    if !fuseOk then s.setLastFault 17
    else
      let s := (s.setB R.SEC_BOOT_STAT F.SEC_BOOT_STAT_CERT_OK certOk).jrnSeq
      if !flashOk then s.recover 18
      else
        let fault := s.f R.WDT_STAT F.WDT_STAT_LAST_FAULT
        let s := (((s.setLastFault 0).setBootStage 1).repairApply).selfTest rows checker
        if s.f R.WDT_STAT F.WDT_STAT_LAST_FAULT = 7 then s
        else ((s.setLastFault fault).setBootStage 2).bootSlots supply hang certOk

/-- RESET_RELEASE (R554): what start-up finds is given with it. -/
def execResetRelease (role fuseOk flashOk certOk hang : Bool) (supply : BitVec 4) (rows : List (Nat × Nat × Nat × Bool))
    (checker : List (Nat × Nat)) (s : State) : Host.Outcome State Fault Refusal :=
  .next (s.release role fuseOk flashOk certOk hang supply.toNat rows checker)

/-- BOOT_TIMEOUT: a start-up that does not reach step 6 within 1 s of the reset's release enters recovery (R565). -/
def State.bootTimeout (s : State) (role : Bool) : State :=
  if !s.sec.held then s
  else
    let s := s.setF R.PAIR_STAT F.PAIR_STAT_ROLE (bit role)
    { s with sec.held := false, pair.freeAt := s.pair.freeAt.map fun _ => s.tick }.recover 19

/-- BOOT_TIMEOUT (R565). -/
def execBootTimeout (role : Bool) (s : State) : Host.Outcome State Fault Refusal := .next (s.bootTimeout role)

end Sys2Proof.Machine
end

