-- ==== Sys2Proof/Machine/Shift.lean ====
section
/-!
DEFINITION. What a time step does to the tick numbers that the device holds (R70): TICK_COUNT jumps, and whatever is timed in ticks keeps
its length in edges.
-/

namespace Sys2Proof.Machine

/-- A tick number moved by a step. -/
def shT (k : Int) (t : Nat) : Nat := ((t : Int) + k).toNat

/-- An optional tick number moved by a step. -/
def shO (k : Int) (t : Option Nat) : Option Nat := t.map (shT k)

/-- The values of a table changed one by one. -/
def Tab.mapV {β : Type} (g : β → β) (t : Tab β) : Tab β := t.map fun e => (e.1, g e.2)

/-- Rings: the ticks at which unread records were written. -/
def shRing (k : Int) (q : Ring) : Ring := { q with unread := q.unread.map fun (e : Nat × Nat) => (e.1, shT k e.2) }

/-- Engine DAC channels and ramps. -/
def shEng (k : Int) (e : EngSt) : EngSt :=
  { e with
    ch := Tab.mapV (fun (x : EdacCh) => { x with lastApply := shO k x.lastApply }) e.ch
    ramps := Tab.mapV (fun (x : Option RampRun) => x.map fun q => { q with start := shT k q.start }) e.ramps }

/-- Transmit lanes and synthesisers. -/
def shTx (k : Int) (x : TxSt) : TxSt :=
  { lane := Tab.mapV (fun (y : TxLane) => { y with
      start := shT k y.start, doneTick := shT k y.doneTick, swingAt := shO k y.swingAt }) x.lane
    oct := Tab.mapV (fun (y : TxOct) => { y with
      entA := shT k y.entA, entB := shT k y.entB, lossTick := shO k y.lossTick }) x.oct }

/-- Fault managers: the retries, the retry limit and the timing of RAW_LOS. -/
def shFlt (k : Int) (x : FltSt) : FltSt :=
  let g := fun (y : FltUnit) => { y with
    retries := y.retries.map (shT k), limit := shO k y.limit, los := shO k y.los }
  { lane := Tab.mapV g x.lane, sl := Tab.mapV g x.sl, oct := Tab.mapV g x.oct }

/-- Power domains, sensors and Reef. -/
def shPwr (k : Int) (x : PwrSt) : PwrSt :=
  { x with
    dom := Tab.mapV (fun (y : DomSt) => { y with due := shT k y.due }) x.dom
    sens := Tab.mapV (fun (y : Sensor) => { y with
      hist := y.hist.map fun (e : Nat × Int) => (shT k e.1, e.2), since := shO k y.since }) x.sens
    stageAt := shO k x.stageAt, avsLast := shO k x.avsLast }

/-- Frames and calendars. -/
def shFrame (k : Int) (x : FrameSt) : FrameSt :=
  { x with
    oct := Tab.mapV (fun (y : FrameOct) => { y with
      txNext := y.txNext.map fun (e : CalPage × Nat) => (e.1, shT k e.2), jcTick := shO k y.jcTick, last := shO k y.last }) x.oct }

/-- Acquisition and conversion. -/
def shAcq (k : Int) (x : AcqSt) : AcqSt :=
  { oct := Tab.mapV (fun (y : AcqOct) => { y with
      convTick := shT k y.convTick, convDue := shO k y.convDue, ackDue := shO k y.ackDue }) x.oct
    lane := Tab.mapV (fun (y : AcqLane) => { y with since := shT k y.since }) x.lane }

/-- Receive lanes and staged swaps. -/
def shRx (k : Int) (x : RxSt) : RxSt :=
  { x with
    lane := Tab.mapV (fun (y : RxLane) => { y with outTick := shT k y.outTick }) x.lane
    swaps := Tab.mapV (fun (l : List Swap) => l.map fun y => { y with due := shT k y.due }) x.swaps }

/-- Trim units and the planner. -/
def shTrim (k : Int) (x : TrimSt) : TrimSt :=
  { x with
    unit := Tab.mapV (fun (y : TrimUnit) => { y with
      admitted := shO k y.admitted, start := shO k y.start, last := shO k y.last }) x.unit
    plan := Tab.mapV (fun (y : PlanLane) => { y with
      hist := y.hist.map fun (e : Nat × Int) => (shT k e.1, e.2), disc := shT k y.disc, discNext := y.discNext.map (shT k)
      trend := y.trend.map fun (e : Nat × Nat × Nat) => (shT k e.1, e.2)
      driftCal := y.driftCal.map fun (e : Nat × Nat) => (shT k e.1, e.2)
      driftLvl := y.driftLvl.map fun (e : Nat × Nat) => (shT k e.1, e.2) }) x.plan
    far := Tab.mapV (fun (y : Option (Nat × List FarRec)) => y.map fun e => (shT k e.1, e.2)) x.far
    lastRun := shO k x.lastRun
    planQ := x.planQ.map fun (e : Nat × Nat × Nat × Nat) => (shT k e.1, e.2) }

/-- Clients and slot lanes. -/
def shMap (k : Int) (x : MapSt) : MapSt :=
  { x with
    cli := Tab.mapV (fun (y : CliSt) => { y with cmisTick := shO k y.cmisTick, holdAt := shO k y.holdAt, wtrAt := shO k y.wtrAt }) x.cli
    lane := Tab.mapV (fun (y : SlotLane) => { y with since := shT k y.since }) x.lane }

/-- One Halyard message. -/
def shMsg (k : Int) (m : HalyMsg) : HalyMsg := { m with queued := shT k m.queued, waitFrom := shO k m.waitFrom }

/-- The modems; 6,250 cycles are a tick. -/
def shHaly (k : Int) (x : HalySt) : HalySt :=
  let path := fun (p : HalyPath) => { p with heard := shO k p.heard, far := shO k p.far }
  { oct := Tab.mapV (fun (y : HalyOct) => { y with
      queue := y.queue.map (shMsg k), backlog := y.backlog.map (shMsg k)
      flight := y.flight.map fun (e : HalyMsg × Nat) => (shMsg k e.1, e.2)
      sub := path y.sub, rel := path y.rel, lastBeacon := shT k y.lastBeacon, subStart := shT (6250 * k) y.subStart }) x.oct }

/-- The pair. -/
def shPair (k : Int) (x : PairSt) : PairSt :=
  { x with
    freeAt := shO k x.freeAt, mapNext := x.mapNext.map fun (e : Nat × Nat) => (e.1, shT k e.2)
    released := x.released.map fun (e : Cmd × Nat) => (e.1, shT k e.2) }

/-- Every tick number from which a duration runs moves by a step of `k` ticks (R70; log entry 69). -/
def State.shiftTicks (s : State) (k : Int) : State :=
  if k = 0 then s
  else { s with
    host.rings := Tab.mapV (shRing k) s.host.rings, host.accAt := Tab.mapV (shT k) s.host.accAt, host.downTick := shT k s.host.downTick, eng := shEng k s.eng, tx := shTx k s.tx,
    flt := shFlt k s.flt, pwr := shPwr k s.pwr, frame := shFrame k s.frame, acq := shAcq k s.acq, rx := shRx k s.rx,
    trim := shTrim k s.trim, map := shMap k s.map, haly := shHaly k s.haly, pair := shPair k s.pair }

end Sys2Proof.Machine
end

