-- ==== Sys2Proof/Machine/TimeRows.lean ====
section
/-!
DEFINITION. Commands and events of the time base (chapter 2), but for the tick itself and the firing of a trigger unit, which
stand with the units they act on.
-/

namespace Sys2Proof.Machine

/-! ## Staging deadline and overrun (R54 to R58) -/

/-- A staged command is deferred by one tick (R55): only commands with EFFECTIVE_TICK 0 that were to apply at the next tick. -/
def State.deferrable (s : State) (x : StagedCmd) : Bool := x.zero && decide (x.due ≤ s.time.next)

/-- The staged commands at the given places are deferred: those deferred before stay first, the new ones follow in ring order. -/
def State.deferCmds (s : State) (cmds : List Nat) : State × Nat :=
  let tagged := s.staged.zipIdx.map fun p => (p.1, decide (p.2 ∈ cmds) && s.deferrable p.1)
  let go := fun (x : StagedCmd) => { x with due := s.time.next + 1, deferred := true }
  let old := (tagged.filter fun p => p.2 && p.1.deferred).map (·.1)
  let new := ((tagged.filter fun p => p.2 && !p.1.deferred).map (·.1)).mergeSort fun a b => decide (a.ring ≤ b.ring)
  let keep := (tagged.filter fun p => !p.2).map (·.1)
  ({ s with staged := keep ++ (old ++ new).map go }, old.length + new.length)

/-- Firmware slips count as commands with EFFECTIVE_TICK 0 (R55, R213): entry 65,536 + 9 × octet + lane of the list names that of a lane. -/
def State.deferSlips (s : State) (cmds : List Nat) : State × Nat :=
  let due := (cmds.filter fun k => decide (65536 ≤ k) && decide (k < 65536 + 144)
    && (Tab.get (fun _ => ({} : AcqLane)) s.acq.lane (k - 65536)).slip != 0).eraseDups
  (s.each due fun k s =>
    { s with acq.lane := Tab.set (fun _ => {}) s.acq.lane (k - 65536) { Tab.get (fun _ => ({} : AcqLane)) s.acq.lane (k - 65536) with slipHeld := true } },
   due.length)

/-- The staging deadline (R49, R54).  Where the set is not closed, the deferred work is that of R55: staged commands (by place),
ring records, trim slices, customer task runs, and the planner's work. -/
def State.stagingDeadline (s : State) (closed : Bool) (cmds : List Nat) (recs : Nat) (slices tasks : List Nat) (plan : Bool) :
    State :=
  if s.time.deadline then s
  else
    let s := { s with time.deadline := true }
    if closed then { s with time.overStreak := 0, time.stormPosted := false }
    else
      let (s, n) := s.deferCmds cmds
      let (s, k) := s.deferSlips cmds
      let n := n + k
      let tasks := tasks.filter fun t => decide (t < 2) && s.f (R.TASK_CFG t) F.TASK_CFG_STATE == 2
      let s := { s with
        time.skipSlice := slices, time.skipTask := tasks, time.skipPlan := plan, time.overStreak := s.time.overStreak + 1 }
      let s := (s.incF R.TICK_OVERRUN_CNT ⟨0, 64⟩ 1).perf 0xC01 1
      let s := s.perf 0xC02 (n + recs + slices.length + tasks.length + bit plan)
      s.event Ev.TICK_OVERRUN noObj noLane [s.tick, n + recs + slices.length + tasks.length + bit plan]

/-- STAGING_DEADLINE (R54). -/
def execStagingDeadline (closed : Bool) (cmds : List Nat) (recs : Nat) (slices tasks : List Nat) (plan : Bool) (s : State) :
    Host.Outcome State Fault Refusal := .next (s.stagingDeadline closed cmds recs slices tasks plan)

/-- A customer task changes state, with TASK_STATE (R575). -/
def State.setTask (s : State) (t v : Nat) : State :=
  (s.setF (R.TASK_CFG t) F.TASK_CFG_STATE v).event Ev.TASK_STATE t noLane [v]

/-- After 100 overruns in a row both customer tasks are suspended (R57). -/
def State.tickStorm (s : State) : State :=
  if 100 ≤ s.time.overStreak ∧ s.time.stormPosted = false then
    let s := { s with time.stormPosted := true }.event Ev.TICK_STORM noObj noLane []
    s.each [0, 1] fun t s => if s.f (R.TASK_CFG t) F.TASK_CFG_STATE = 2 then s.setTask t 3 else s
  else s

/-- TICK_STORM (R57). -/
def execTickStorm (s : State) : Host.Outcome State Fault Refusal := .next s.tickStorm

/-- A task whose run of this tick reached its budget was stopped there (R58); the tick's run notes it. -/
def State.taskOverrun (s : State) (t : Nat) : State :=
  if s.time.atLimit.contains t then
    let s := { s with time.atLimit := s.time.atLimit.erase t }
    (s.incF (R.TASK_STAT t) F.TASK_STAT_OVERRUNS 1).event Ev.TASK_OVERRUN t noLane []
  else s

/-- TASK_OVERRUN (R58). -/
def execTaskOverrun (t : Fin 2) (s : State) : Host.Outcome State Fault Refusal := .next (s.taskOverrun t)

/-! ## References (R60 to R62) -/

/-- A reference shows edges, or not. -/
def State.setRef (s : State) (d : Nat) (v : Bool) : State :=
  if d = 0 then { s with time.refA := v } else { s with time.refB := v }

/-- A reference is lost (R60): the one in use is replaced by the other, or the device enters holdover; with both lost the control cluster falls
back to the oscillator (R528). -/
def State.refLoss (s : State) (d : Nat) : State :=
  if !s.refOk d then s
  else
    let s := s.setRef d false
    if s.time.refUse ≠ d ∨ s.time.holdover = true then s
    else
      let s := if s.b R.TS_CTL F.TS_CTL_REF_AUTO && s.refOk (1 - d) then s.refSwitch (1 - d)
        else { s with time.holdover := true, pwr.scanPhase := 0 }
      let s := s.event Ev.REFCLK_LOSS d noLane []
      if s.refOk 0 || s.refOk 1 then s else s.coreClk false

/-- REFCLK_LOSS (R60). -/
def execRefclkLoss (d : Fin 2) (s : State) : Host.Outcome State Fault Refusal := .next (s.refLoss d)

/-- The frame start of an octet is to be pulled back by a phase, in sixteenths of a symbol, the shorter way round (R62). -/
def State.pullBack (s : State) (o : Nat) (ph : Int) : State :=
  let n : Int := 16 * frameSymbols
  let p := (ph + n / 2) % n - n / 2
  if !s.synRun o ∨ p = 0 then s
  else
    let s := s.setTxo o { s.txo o with phase := p * (10 ^ 11 / 16), pull := true }
    s.setI (R.LOOP_STAT o) F.LOOP_STAT_PHASE_ERR (clampInt (-(2 ^ 23)) (2 ^ 23 - 1) p)

/-- A reference returns (R62): holdover ends with the reference in use, or with either while REF_AUTO is set.  `phase` gives the
phase of each octet's frame start. -/
def State.refReturn (s : State) (d : Nat) (phase : List Int) : State :=
  if s.refOk d then s
  else
    let s := s.setRef d true
    if s.time.holdover && (s.time.refUse == d || s.b R.TS_CTL F.TS_CTL_REF_AUTO) then
      let s := { s with time.holdover := false }.refSwitch d
      let s := s.eventC Ev.REFCLK_LOSS d noLane true []
      s.each (List.range 16) fun o s => s.pullBack o (phase.getD o 0)
    else s

/-- REFCLK_RETURN (R62). -/
def execRefclkReturn (d : Fin 2) (phase : List Int) (s : State) : Host.Outcome State Fault Refusal :=
  .next (s.refReturn d phase)

/-! ## Setting and adjusting a domain (R63, R64) -/

/-- A write to a register of a domain comes from its owner (R67, R79): firmware or the host. -/
def State.domOwner (s : State) (d : Nat) (fw : Bool) : Bool := s.b (R.DOM_CTL d) F.DOM_CTL_OWNER != fw

/-- A write waits for the next tick edge. -/
def State.stageWrite (s : State) (a : Nat) (mask v : Word) (fw : Bool) (size : Nat) : State :=
  { s with host.regQ := s.host.regQ ++ [⟨a, a, mask, v, fw, size⟩] }

/-- A DOM_SET_SEC write is accepted for the inactive domain (R63). -/
def State.domSetSecWrite (s : State) (d : Nat) (fw : Bool) (v : Word) : State :=
  if s.domOwner d fw && decide (d ≠ s.time.active) then s.stageWrite (R.DOM_SET_SEC d) (maskW 48) v fw 3
  else s.logW (R.DOM_SET_SEC d) logREFUSED 3 fw v

/-- DOM_SET_SEC_WRITE (R63). -/
def execDomSetSecWrite (d : Fin 2) (fw : Bool) (v : BitVec 64) (s : State) : Host.Outcome State Fault Refusal :=
  .next (s.domSetSecWrite d fw v)

/-- A DOM_ADJ write is accepted within the limit of OUT_OFFSET (R64). -/
def State.domAdjWrite (s : State) (d : Nat) (fw : Bool) (v : Word) : State :=
  if !s.domOwner d fw then s.logW (R.DOM_ADJ d) logREFUSED 3 fw v
  else if s.domAdjOk d v.toInt then s.stageWrite (R.DOM_ADJ d) (maskW 64) v fw 3
  else s.logW (R.DOM_ADJ d) logVALUE 3 fw v

/-- DOM_ADJ_WRITE (R64). -/
def execDomAdjWrite (d : Fin 2) (fw : Bool) (v : BitVec 64) (s : State) : Host.Outcome State Fault Refusal :=
  .next (s.domAdjWrite d fw v)

/-! ## Switching and stepping (R68 to R70) -/

/-- OUT_OFFSET that keeps the output timescale in place on a switch to domain `d` (R68). -/
def State.switchOff (s : State) (d : Nat) : Int := s.outAt 0 - (s.cnt d * offUnit : Nat)

/-- TIME_SWITCH at its tick edge (R68). -/
def State.timeSwitch (s : State) (c : Cmd) (d : Nat) : State :=
  if 2 ≤ d then s.refuse c Op.TIME_SWITCH St.BAD_FIELD
  else
    let off := s.switchOff d
    if offLimit < off.natAbs then s.refuse c Op.TIME_SWITCH St.TIME_DIFF
    else { s with time.active := d, time.off := off }.ok c Op.TIME_SWITCH [(32, 8, patternOf 64 (offShown off))]

/-- TIME_SWITCH (R68). -/
def execTimeSwitch (cmd : Cmd) (domain : BitVec 8) (s : State) : Host.Outcome State Fault Refusal :=
  .next (s.timeSwitch cmd domain.toNat)

/-- The pending commands whose EFFECTIVE_TICK a forward step skips complete with TICK_PAST; the others with EFFECTIVE_TICK 0 keep
their place in edges (R70).  The ticks skipped are counted from the edge that would have come next, after any step before this one. -/
def State.stepStaged (s : State) (n : Int) : State :=
  let skipped := fun (x : StagedCmd) => !x.zero && decide (s.time.next ≤ x.due) && decide ((x.due : Int) < s.time.next + n)
  let gone := s.staged.filter skipped
  let s := { s with
    staged := (s.staged.filter fun x => !skipped x).map fun (x : StagedCmd) =>
      if x.zero then { x with due := (x.due + n).toNat } else x }
  s.each gone fun x s => match originOf x.cmd, opcodeOf x.cmd with
    | some c, some op => s.refuse c op St.TICK_PAST
    | _, _ => s

/-- TIME_STEP at its tick edge (R70). -/
def State.timeStep (s : State) (c : Cmd) (n : Int) : State :=
  if n = 0 ∨ (s.time.next : Int) + n < 0 then s.refuse c Op.TIME_STEP St.BAD_FIELD
  else
    let s := (s.moveCnt s.time.active (n * unitTick)).stepStaged n
    { s with time.next := (s.time.next + n).toNat }.ok c Op.TIME_STEP []

/-- Once the edge's work is done TICK_COUNT jumps to the number before that of the next edge, and whatever is timed in ticks keeps its
length in edges (R70). -/
def State.jump (s : State) : State :=
  let s := s.shiftTicks ((s.time.next : Int) - (s.time.tick + 1))
  { s with time.tick := s.time.next - 1 }

/-- TIME_STEP (R70). -/
def execTimeStep (cmd : Cmd) (amount : BitVec 64) (s : State) : Host.Outcome State Fault Refusal :=
  .next (s.timeStep cmd amount.toInt).jump

/-- OUT_OFFSET has reached zero (R69). -/
def State.slewDoneEv (s : State) : State :=
  if s.time.slewDone then { s with time.slewDone := false }.event Ev.SLEW_DONE noObj noLane [] else s

/-- SLEW_DONE (R69). -/
def execSlewDone (s : State) : Host.Outcome State Fault Refusal := .next s.slewDoneEv

/-! ## Pulse per second (R72) -/

/-- The time between two edges in the active domain lies within 100 us of 1 s (R72). -/
def State.ppsOk (s : State) (x : Nat) (now : Nat × Nat) : Bool :=
  match Tab.get (fun _ => none) s.time.ppsRef x with
  | none => true
  | some old =>
    let d := if s.time.active = 0 then (now.1 + cntMod - old.1) % cntMod else (now.2 + cntMod - old.2) % cntMod
    decide (unitSec - 100000 * unitNs ≤ d) && decide (d ≤ unitSec + 100000 * unitNs)

/-- A filtered rising edge of a PPS input, `cyc` cycles after the tick edge (R72); an input whose storm is latched takes no
timestamps (R469). -/
def State.ppsIn (s : State) (x cyc : Nat) : State :=
  if bitOf (s.f R.IN_STORM F.IN_STORM_STORM) (16 + x) then s
  else
  let now := (s.cntAt 0 cyc, s.cntAt 1 cyc)
  let good := s.ppsOk x now
  let s := { s with time.ppsRef := Tab.set (fun _ => none) s.time.ppsRef x (some now) }
  if good then
    let s := (s.setReg (R.PPS_IN_NS x 0) (nsWord now.1)).setReg (R.PPS_IN_SEC x 0) (secWord now.1)
    let s := (s.setReg (R.PPS_IN_NS x 1) (nsWord now.2)).setReg (R.PPS_IN_SEC x 1) (secWord now.2)
    s.incF (R.PPS_IN_STAT x) F.PPS_IN_STAT_EDGE_CNT 1
  else s.incF (R.PPS_IN_STAT x) F.PPS_IN_STAT_REJECT_CNT 1

/-- PPS_IN_EDGE (R72). -/
def execPpsInEdge (x : Fin 2) (cyc : Fin 6250) (s : State) : Host.Outcome State Fault Refusal := .next (s.ppsIn x cyc)

/-! ## Trigger times (R77) -/

/-- A write to TRIG_TIME_NS waits for the write to TRIG_TIME_SEC. -/
def State.trigNsWrite (s : State) (k : Nat) (v : Word) : State :=
  { s with time.trigNs := Tab.insert s.time.trigNs k (v.toNat % 2 ^ 48) }

/-- A write to TRIG_TIME_SEC lands at the next tick edge, with the pending TRIG_TIME_NS (R47, R77). -/
def State.trigSecWrite (s : State) (k : Nat) (fw : Bool) (v : Word) : State :=
  let s' := match s.time.trigNs.find? fun e => e.1 == k with
    | some e => (s.stageWrite (R.TRIG_TIME_NS k) (maskW 48) (BitVec.ofNat 64 e.2) fw 3)
    | none => s
  { s' with time.trigNs := Tab.erase s'.time.trigNs k }.stageWrite (R.TRIG_TIME_SEC k) (maskW 48) v fw 3

/-- TRIG_TIME_WRITE (R77). -/
def execTrigTimeWrite (k : Fin 16) (fw : Bool) (v : BitVec 64) (s : State) : Host.Outcome State Fault Refusal :=
  .next (s.trigSecWrite k fw v)

/-! ## Timing ports (R66, R67) -/

/-- Payload of a message record in whole entries of 64 bytes. -/
def entries64 : Nat → List Byte → List (List Byte)
  | 0, _ => []
  | n + 1, b => ((b.take 64) ++ List.replicate (64 - (b.take 64).length) 0) :: entries64 n (b.drop 64)

/-- A PTP message received on a timing port (R66, R67): timestamped at the lands in both domains, handed to the servo, and copied
to a message ring. -/
def State.tpRx (s : State) (p cyc : Nat) (bytes : List Byte) : State :=
  if s.b (R.TP_CTL p) F.TP_CTL_EN && !s.patOn 3 p 0 then
    let lat := s.f (R.TP_LAT p) F.TP_LAT_RX_LAT * 2 ^ 32
    let a := (s.cntAt 0 cyc + cntMod - lat) % cntMod
    let b := (s.cntAt 1 cyc + cntMod - lat) % cntMod
    let s := { s with time.servoQ := s.time.servoQ ++ [(p, a, b, bytes)] }
    let r := s.f (R.TP_CTL p) F.TP_CTL_MQ_RING
    if s.b (R.TP_CTL p) F.TP_CTL_HOST_COPY && (s.ring r).typ == 5 then
      let e0 := entryOf [(16, 1, p), (20, 2, bytes.length), (24, 12, ts96 a), (36, 12, ts96 b)]
      s.writeRecord r 5 s.tick (e0 :: entries64 ((bytes.length + 63) / 64) bytes)
    else s
  else s

/-- An event message: one that is timestamped (IEEE 1588-2019, message types 0 to 3). -/
def ptpEvent (b : List Byte) : Bool := match b with
  | x :: _ => decide (x.toNat % 16 < 4)
  | [] => false

/-- A PTP message sent on a timing port (R65 to R67): as it stands, since messages are two-step; an event message is timestamped in both
domains where it passes the lands, and the timestamps return to its sender.  In a loop or pattern the port sends none (R583). -/
def State.tpSend (s : State) (m : TpSend) : State :=
  if s.b (R.TP_CTL m.port) F.TP_CTL_EN && !s.patOn 3 m.port 0 then
    let s : State := { s with time.tpOut := s.time.tpOut ++ [(m.port, m.bytes)] }
    if ptpEvent m.bytes then
      let lat := s.f (R.TP_LAT m.port) F.TP_LAT_TX_LAT * 2 ^ 32
      { s with time.txStamps := s.time.txStamps ++
          [(m.port, m.host, (s.cntAt 0 m.cyc + lat) % cntMod, (s.cntAt 1 m.cyc + lat) % cntMod, m.bytes)] }
    else s
  else s

/-- TP_MESSAGE_RX (R67). -/
def execTpMessageRx (p : Fin 2) (cyc : Fin 6250) (bytes : List Byte) (s : State) : Host.Outcome State Fault Refusal :=
  .next (s.tpRx p cyc bytes)

end Sys2Proof.Machine
end

