-- ==== Sys2Proof/Machine/Security.lean ====
section
/-!
DEFINITION. Identity, images, keys and customer tasks (R561 to R573), and the boot-flash window (R564, R615).
-/

namespace Sys2Proof.Machine

/-! ## Attestation and the certificate (R566 to R568) -/

/-- The running slot and VERSION. -/
def State.runSlot (s : State) : Nat := s.f R.SEC_BOOT_STAT F.SEC_BOOT_STAT_SLOT
def State.runVersion (s : State) : Nat := s.f R.SEC_BOOT_STAT F.SEC_BOOT_STAT_VERSION

/-- A measurement: 0 first stage, 1 main firmware, 2 and 3 the tasks. -/
def State.meas (s : State) (k : Nat) : Nat := Tab.get (fun _ => 0) s.sec.meas k

/-- The hash fused in a customer key slot. -/
def State.keyHash (s : State) (k : Nat) : Nat := Tab.get (fun _ => 0) s.sec.keys k

/-- The state of a customer key slot: 0 empty, 1 enrolled, 2 revoked (R577). -/
def State.keyState (s : State) (k : Nat) : Nat := (s.f R.SEC_KEY_STAT F.SEC_KEY_STAT_SLOTS) / 4 ^ k % 4

/-- The key-slot fuses as bytes (log entry 66). -/
def State.keyFuses (s : State) : List Byte :=
  ((List.range 4).flatMap fun k => leBytes 48 (s.keyHash k)) ++ leBytes 1 (s.f R.SEC_KEY_STAT F.SEC_KEY_STAT_SLOTS)

/-- Bytes 0 to 415 of the report of ATTEST. -/
def State.reportBody (s : State) (nonce : List Byte) : List Byte :=
  leBytes 2 0xA7E5 ++ leBytes 1 1
    ++ leBytes 1 (s.f R.GLB_LOCK F.GLB_LOCK_LOCK + 2 * s.f R.SEC_BOOT_STAT F.SEC_BOOT_STAT_FALLBACK)
    ++ leBytes 4 512 ++ nonce ++ leBytes 8 (s.reg R.GLB_SERIAL).toNat ++ leBytes 1 0xB0 ++ leBytes 1 (s.f R.GLB_ID F.GLB_ID_ORDER)
    ++ leBytes 1 s.runSlot ++ leBytes 1 s.rollback ++ leBytes 8 s.tick ++ leBytes 4 s.sec.reports ++ leBytes 48 Config.romHash
    ++ leBytes 48 (s.meas 0) ++ leBytes 48 (s.meas 1) ++ leBytes 48 (s.meas 2) ++ leBytes 48 (s.meas 3)
    ++ leBytes 48 (shaOf s.keyFuses) ++ List.replicate 64 (0 : Byte)

/-- The device key: HKDF of the fused seed, reduced to a private key of the curve (R567, log entry 139). -/
def deviceKey : Nat := ofBeBytes (hkdf384 Config.hkdfSalt (leBytes 32 Config.fuseSeed) Config.hkdfInfo) % bpN

/-- ATTEST: the report goes to host memory, signed with the device key under a free nonce (log entry 1). -/
def State.attest (s : State) (c : Cmd) (nonce : List Byte) (addr : Nat) : State :=
  if addr % 64 ≠ 0 then s.refuse c Op.ATTEST St.BAD_FIELD
  else if !s.b R.SEC_BOOT_STAT F.SEC_BOOT_STAT_CERT_OK then s.refuse c Op.ATTEST St.SIG_FAIL
  else
    let s : State := { s with sec.reports := s.sec.reports + 1 }
    let (k, s) := s.draw (bpN - 1)
    let body := s.reportBody nonce
    (s.dma addr (body ++ ecdsaSign deviceKey (k + 1) body)).ok c Op.ATTEST [(32, 4, s.sec.reports)]

/-- ATTEST (R568). -/
def execAttest (cmd : Cmd) (nonce : BitVec 256) (addr : BitVec 64) (s : State) : Host.Outcome State Fault Refusal :=
  .next (s.attest cmd (leBytes 32 nonce.toNat) addr.toNat)

/-- The length of a DER value that starts a byte string: a SEQUENCE with a definite length; 0 where there is none. -/
def derLen (b : List Byte) : Nat :=
  match b with
  | t :: l :: r =>
    let n := l.toNat
    if t ≠ 0x30 then 0
    else if n < 0x80 then 2 + n
    else if 0x84 < n ∨ n = 0x80 then 0
    else 2 + (n - 0x80) + (r.take (n - 0x80)).foldl (fun (v : Nat) x => 256 * v + x.toNat) 0
  | _ => 0

/-- The device certificate and its issuing certificate, as the flash holds them (R559). -/
def State.certBytes (s : State) : List Byte :=
  let a := s.flashBytes 0x30000 0x10000
  let n := derLen a
  a.take (n + if n = 0 then 0 else derLen (a.drop n))

/-- CERT_READ: at most the bytes that the command allows go to host memory. -/
def State.certRead (s : State) (c : Cmd) (addr max : Nat) : State :=
  let b := s.certBytes.take max
  (if b.isEmpty then s else s.dma addr b).ok c Op.CERT_READ [(32, 2, b.length)]

/-- CERT_READ (R573). -/
def execCertRead (cmd : Cmd) (addr : BitVec 64) (max : BitVec 16) (s : State) : Host.Outcome State Fault Refusal :=
  .next (s.certRead cmd addr.toNat max.toNat)

/-! ## Images (R562, R563, R573) -/

/-- IMAGE_WRITE: whole sectors of the slot that does not run. -/
def State.imageWrite (s : State) (c : Cmd) (slot off len : Nat) (mem : List Byte) : State :=
  if 2 ≤ slot ∨ off % 0x10000 ≠ 0 ∨ len % 0x10000 ≠ 0 ∨ 0x100000 < len ∨ 0xC00000 < off + len then
    s.refuse c Op.IMAGE_WRITE St.BAD_FIELD
  else if slot = s.runSlot then s.refuse c Op.IMAGE_WRITE St.SLOT_RUNNING
  else (s.flashStore (imageAddr slot 1 + off) (mem.take len)).ok c Op.IMAGE_WRITE []

/-- IMAGE_WRITE (R573). -/
def execImageWrite (cmd : Cmd) (slot : BitVec 8) (offset len : BitVec 32) (_addr : BitVec 64) (mem : List Byte) (s : State) :
    Host.Outcome State Fault Refusal :=
  .next (s.imageWrite cmd slot.toNat offset.toNat len.toNat mem)

/-- IMAGE_COMMIT: a valid slot becomes the preferred one at the next device reset. -/
def State.imageCommit (s : State) (c : Cmd) (slot : Nat) : State :=
  if 2 ≤ slot then s.refuse c Op.IMAGE_COMMIT St.BAD_FIELD
  else if !(s.imageOk slot 1 && s.imageOk slot 2 && fieldOf (s.imageHeader slot 2) 8 2 == s.slotVersion slot) then
    s.refuse c Op.IMAGE_COMMIT St.SIG_FAIL
  else if s.slotVersion slot < s.rollback then s.refuse c Op.IMAGE_COMMIT St.VERSION_OLD
  else (s.dirWrite slot (if slot = s.runSlot then 0 else 1)).ok c Op.IMAGE_COMMIT [(32, 1, s.slotVersion slot)]

/-- IMAGE_COMMIT (R573). -/
def execImageCommit (cmd : Cmd) (slot : BitVec 8) (s : State) : Host.Outcome State Fault Refusal :=
  .next (s.imageCommit cmd slot.toNat)

/-- The rollback count rises: the fuses between the old count and the running VERSION are blown; a sequence that fails leaves the count
between them (R563). -/
def State.blowRollback (s : State) (c : Cmd) : State :=
  let v := s.runVersion
  let n := s.rollback
  if v ≤ n then s.ok c Op.ROLLBACK_ADVANCE [(32, 1, n)]
  else
    let (fail, s) := s.draw 2
    let (k, s) := s.draw (v - n)
    let now := if fail = 1 then n + k else v
    let s := s.setF R.SEC_FUSE_STAT F.SEC_FUSE_STAT_ROLLBACK now
    let s := if now = n then s else s.event Ev.ROLLBACK noObj noLane [now]
    s.completeAt c Op.ROLLBACK_ADVANCE (if fail = 1 then St.FUSE_FAIL else St.OK) s.tick [(32, 1, now)]

/-- ROLLBACK_ADVANCE: an older image in the other slot stops it unless FORCE is set. -/
def State.rollbackAdvance (s : State) (c : Cmd) (force : Nat) : State :=
  let o := 1 - s.runSlot
  let h := s.imageHeader o 1
  if 2 ≤ force then s.refuse c Op.ROLLBACK_ADVANCE St.BAD_FIELD
  else if force = 0 ∧ fieldOf h 0 4 = 0x5A7E1B0C ∧ fieldOf h 4 1 = 1 ∧ s.slotVersion o < s.runVersion then
    s.refuse c Op.ROLLBACK_ADVANCE St.SLOT_OLD
  else s.blowRollback c

/-- ROLLBACK_ADVANCE (R563). -/
def execRollbackAdvance (cmd : Cmd) (force : BitVec 8) (s : State) : Host.Outcome State Fault Refusal :=
  .next (s.rollbackAdvance cmd force.toNat)

/-! ## Customer keys (R569, R570) -/

/-- The authorisation of a key file: OK, KEY_ABSENT or SIG_FAIL. -/
def State.keyAuth (s : State) (auth : Nat) (b : List Byte) : Nat :=
  if 4 ≤ auth ∨ s.keyState auth ≠ 1 then St.KEY_ABSENT
  else if shaOf ((b.drop 112).take 96) ≠ s.keyHash auth then St.SIG_FAIL
  else if sigOk (b.take 256) ((b.drop 256).take 96) ((b.drop 112).take 96) then St.OK else St.SIG_FAIL

/-- The fuses of a slot are blown and read back: SEC_KEY_STAT shows what is read, and KEY_CHANGE is posted. -/
def State.keyBlow (s : State) (c : Cmd) (slot kind hash : Nat) : State :=
  let (fail, s) := s.draw 2
  let (seen, s) := s.draw 3
  let st := if fail = 1 then seen else kind
  let all := s.f R.SEC_KEY_STAT F.SEC_KEY_STAT_SLOTS
  let s := s.setF R.SEC_KEY_STAT F.SEC_KEY_STAT_SLOTS (all - s.keyState slot * 4 ^ slot + st * 4 ^ slot)
  let s : State := if kind = 1 then { s with sec.keys := Tab.set (fun _ => 0) s.sec.keys slot hash } else s
  (s.event Ev.KEY_CHANGE noObj noLane [slot, kind]).completeAt c Op.KEY_UPDATE (if fail = 1 then St.FUSE_FAIL else St.OK) s.tick
    [(32, 1, slot), (33, 1, s.f R.SEC_KEY_STAT F.SEC_KEY_STAT_SLOTS)]

/-- KEY_UPDATE with the key file that it has read. -/
def State.keyUpdate (s : State) (c : Cmd) (b : List Byte) : State :=
  let kind := fieldOf b 2 1
  let slot := fieldOf b 3 1
  let auth := fieldOf b 12 1
  let live := (List.range 4).filter fun k => s.keyState k == 1
  let no := fun st => s.refuse c Op.KEY_UPDATE st
  if s.b R.GLB_LOCK F.GLB_LOCK_LOCK then no St.LOCKED
  else if fieldOf b 0 2 ≠ 0x6B3E ∨ kind = 0 ∨ 2 < kind ∨ 4 ≤ slot ∨ (4 ≤ auth ∧ auth ≠ 0xFF) then no St.BAD_FIELD
  else if fieldOf b 4 8 ≠ (s.reg R.GLB_SERIAL).toNat then no St.SERIAL_MISMATCH
  else if kind = 1 then
    (if s.keyState slot ≠ 0 then no St.BAD_FIELD
     else if s.f R.SEC_KEY_STAT F.SEC_KEY_STAT_SLOTS = 0 then
       (if auth = 0xFF then s.keyBlow c slot 1 (shaOf ((b.drop 16).take 96)) else no St.BAD_FIELD)
     else if s.keyAuth auth b = St.OK then s.keyBlow c slot 1 (shaOf ((b.drop 16).take 96)) else no (s.keyAuth auth b))
  else if s.keyState slot ≠ 1 ∨ live = [slot] ∨ auth = slot then no St.BAD_FIELD
  else if s.keyAuth auth b = St.OK then s.keyBlow c slot 2 0 else no (s.keyAuth auth b)

/-- KEY_UPDATE (R570). -/
def execKeyUpdate (cmd : Cmd) (_addr : BitVec 64) (mem : List Byte) (s : State) : Host.Outcome State Fault Refusal :=
  .next (s.keyUpdate cmd mem)

/-! ## Customer tick tasks (R571, R572) -/

/-- TASK_CFG.STATE. -/
def State.taskState (s : State) (t : Nat) : Nat := s.f (R.TASK_CFG t) F.TASK_CFG_STATE

/-- A task image is valid: OK, KEY_ABSENT or SIG_FAIL (R562). -/
def State.taskImage (s : State) (mem : List Byte) : Nat :=
  let h := mem.take 512
  let k := fieldOf h 5 1
  if !headerOk (s.reg R.GLB_SERIAL).toNat 3 h || k == 0 || decide (4 < k) then St.SIG_FAIL
  else if s.keyState (k - 1) ≠ 1 then St.KEY_ABSENT
  else if shaOf ((h.drop 88).take 96) ≠ s.keyHash (k - 1) then St.SIG_FAIL
  else if contentOk h (mem.drop 512) then St.OK else St.SIG_FAIL

/-- TASK_LOAD: a valid image leaves the task STOPPED, with its measurement. -/
def State.taskLoad (s : State) (c : Cmd) (t len : Nat) (mem : List Byte) : State :=
  let no := fun st => s.refuse c Op.TASK_LOAD st
  if 2 ≤ t ∨ len < 512 ∨ 512 + 262144 < len ∨ len ≠ 512 + fieldOf mem 16 4 then no St.BAD_FIELD
  else if s.taskState t = 2 ∨ s.taskState t = 3 then no St.WRONG_STATE
  else if s.taskImage (mem.take len) ≠ St.OK then no (s.taskImage (mem.take len))
  else
    let k := fieldOf mem 5 1 - 1
    let v := fieldOf mem 8 2
    let old := s.taskState t
    let s : State := { s with
      sec.region := Tab.set (fun _ => []) s.sec.region t ((mem.take len).drop 512)
      sec.entry := Tab.set (fun _ => 0) s.sec.entry t (fieldOf mem 24 8)
      sec.meas := Tab.set (fun _ => 0) s.sec.meas (2 + t) (shaOf (mem.take len)) }
    let s := s.setFs (R.TASK_CFG t) [(F.TASK_CFG_KEY_SLOT, k), (F.TASK_CFG_VERSION, v)]
    (if old = 1 then s else s.setTask t 1).ok c Op.TASK_LOAD [(32, 2, v), (34, 1, k)]

/-- TASK_LOAD (R572). -/
def execTaskLoad (cmd : Cmd) (task : BitVec 8) (len : BitVec 32) (_addr : BitVec 64) (mem : List Byte) (s : State) :
    Host.Outcome State Fault Refusal :=
  .next (s.taskLoad cmd task.toNat len.toNat mem)

/-- The state that an action leads to (R572): 0 = STOP, 1 = START, 2 = RESUME. -/
def taskNext (action st : Nat) : Option Nat :=
  match action with
  | 0 => if st = 2 ∨ st = 3 then some 1 else none
  | 1 => if st = 1 ∨ st = 4 then some 2 else none
  | _ => if st = 3 then some 2 else none

/-- TASK_SET at its tick. -/
def State.taskSet (s : State) (c : Cmd) (t action mode budget : Nat) : State :=
  if 2 ≤ t ∨ 3 ≤ action ∨ 2 ≤ mode ∨ budget < 500 ∨ 2000 < budget then s.refuse c Op.TASK_SET St.BAD_FIELD
  else match taskNext action (s.taskState t) with
    | some v =>
      let s := s.setFs (R.TASK_CFG t) [(F.TASK_CFG_MODE, mode), (F.TASK_CFG_BUDGET_NS, budget)]
      (s.setTask t v).ok c Op.TASK_SET [(32, 1, v)]
    | none => s.refuse c Op.TASK_SET St.WRONG_STATE

/-- TASK_SET (R572). -/
def execTaskSet (cmd : Cmd) (task action mode : BitVec 8) (budget : BitVec 16) (s : State) : Host.Outcome State Fault Refusal :=
  .next (s.taskSet cmd task.toNat action.toNat mode.toNat budget.toNat)

/-! ## The boot-flash window (R564, R614, R615) -/

/-- Addresses that the window reaches: the directory and both slots. -/
def flashWindow (a : Nat) : Bool := decide (a < 0x20000) || (decide (0x40000 ≤ a) && decide (a < 0x1840000))

/-- A write to SEC_FLASH_CTL starts its operation, with the staging values as they stand. -/
def State.flashCtl (s : State) (v : Word) (size : Nat) (fw : Bool) : State :=
  let op := F.SEC_FLASH_CTL_OP.of v
  let a := s.f R.SEC_FLASH_ADDR F.SEC_FLASH_ADDR_ADDR
  if op = 3 ∨ (a % 8 ≠ 0) then s.logW R.SEC_FLASH_CTL logVALUE size fw v
  else if s.sec.op.isSome || s.bootStage != 6 || !flashWindow a then s.logW R.SEC_FLASH_CTL logREFUSED size fw v
  else { s with sec.op := some (op, a, s.f R.SEC_FLASH_DATA F.SEC_FLASH_DATA_DATA) }.setF R.SEC_FLASH_ADDR F.SEC_FLASH_ADDR_BUSY 1

/-- A write that names another operation is that operation's (R564). -/
def flashOp (op : Nat) (v : Word) : Word := F.SEC_FLASH_CTL_OP.put v op

/-- FLASH_READ (R564). -/
def execFlashRead (v : BitVec 64) (s : State) : Host.Outcome State Fault Refusal := .next (s.flashCtl (flashOp 0 v) 3 false)

/-- FLASH_PROGRAM (R564). -/
def execFlashProgram (v : BitVec 64) (s : State) : Host.Outcome State Fault Refusal := .next (s.flashCtl (flashOp 1 v) 3 false)

/-- FLASH_ERASE (R564). -/
def execFlashErase (v : BitVec 64) (s : State) : Host.Outcome State Fault Refusal := .next (s.flashCtl (flashOp 2 v) 3 false)

/-- A byte that is programmed: an erased one takes its value, another one ends free (log entry 67). -/
def State.flashProg (s : State) (a : Nat) (b : Byte) : State :=
  if Tab.get flashBlank s.sec.flash a = 0xFF then s.flashStore a [b]
  else
    let (v, s) := s.draw 256
    s.flashStore a [BitVec.ofNat 8 v]

/-- The operation ends: its effect is made, BUSY clears. -/
def State.flashEnd (s : State) : State :=
  match s.sec.op with
  | none => s
  | some (op, a, d) =>
    let s := { s with sec.op := none }.setF R.SEC_FLASH_ADDR F.SEC_FLASH_ADDR_BUSY 0
    if op = 0 then s.setReg R.SEC_FLASH_DATA (BitVec.ofNat 64 (ofLeBytes (s.flashBytes a 8)))
    else if op = 1 then s.each (leBytes 8 d).zipIdx fun x s => s.flashProg (a + x.2) x.1
    else s.flashErase a

/-- FLASH_OP_END (R615). -/
def execFlashOpEnd (s : State) : Host.Outcome State Fault Refusal := .next s.flashEnd

end Sys2Proof.Machine
end

