-- ==== Sys2Proof/Machine/Observe.lean ====
section
/-!
DEFINITION. Pattern generators, checkers and loops (R579 to R586), histogram units (R589, R590), control-core samples (R592, R593) and
converter captures (R594 to R596).
-/

namespace Sys2Proof.Machine

/-! ## Patterns and loops -/

/-- The lane that a type, an index and a lane number name exists (R597). -/
def patNamed (t i l : Nat) : Bool :=
  if t = 0 then decide (i < 16 ∧ l < 9) else if t = 1 then decide (i < 16 ∧ l < 16)
  else if t = 2 then decide (i = 0 ∧ l < 8) else decide (t = 3 ∧ i < 2 ∧ l = 0)

/-- The lane accepts a pattern (R579): the four-level patterns only on PAM4 lanes. -/
def State.patAccepts (s : State) (t i l p : Nat) : Bool :=
  decide (p ≤ 10) && (!(decide (6 ≤ p) && decide (p ≤ 8)) || t == 0 || (t == 1 && decide (2 ≤ s.slF i l F.SL_CTL_RATE)))

/-- The domain of a lane's registers is On. -/
def State.patOnDomain (s : State) (t i : Nat) : Bool :=
  if t = 0 then s.octOn i else if t = 1 then s.sgOn i else if t = 2 then s.isOn domSHRD else true

/-- A receive data lane carries slots of a bound client. -/
def State.rxLaneInUse (s : State) (o l : Nat) : Bool :=
  s.map.defined.any fun c => lineSrcE (s.ends c) && (s.routes c).any fun r => s.bound c r == some o
    && (s.rxSlots o (s.farTag c)).any fun k => s.rxCarrier o (k / s.laneSlots o) == l

/-- The direction that a setting affects is in use (R585): a generator and a far-end loop act on what a lane transmits, near-end loops
on what it receives; LC before conversion counts for every data lane. -/
def State.patInUse (s : State) (t i l : Nat) (rx : Bool) : Bool :=
  if t = 0 then
    (if rx then s.rxLaneInUse i l else s.laneInUse i l)
      || (l == 8 && !s.stdMode i && s.convTx i != 4 && s.convRx i != 4
        && (List.range 8).any fun k => s.laneInUse i k || s.rxLaneInUse i k)
  else if t = 1 then s.b (R.SL_STAT i l) F.SL_STAT_RX_BOUND || s.b (R.SL_STAT i l) F.SL_STAT_TX_BOUND
  else false

/-- PAT_STAT of a lane lies beside its PAT_CTL. -/
def patStat (t i l : Nat) : Nat := patBase t i l + 8

/-- GEN_ACTIVE follows the generator and the loop (R584), and the units that either holds follow (R586): the fault manager is
disarmed, or armed again where its lane is in service; the slot PHY is judged anew. -/
def State.patApply (s : State) (t i l : Nat) (was : Bool) : State :=
  let a := patBase t i l
  let s := s.setB (patStat t i l) F.PAT_STAT_GEN_ACTIVE (s.f a F.PAT_CTL_GEN != 0 && s.f a F.PAT_CTL_LOOP != 3)
  if 2 ≤ t then s
  else
    let now := s.patOn t i l
    let s := if now then s.fltDisarm t i l else s
    if t = 1 then (if now = was then s else s.phyTick i (s.phyHead i l))
    else if was && !now && s.acqState i l == 7 then s.fltArm 0 i l else s

/-- The checker starts anew: LOCK drops. -/
def State.chkReseed (s : State) (t i l : Nat) : State :=
  let s := s.setChk (256 * t + 16 * i + l) {}
  if s.b (patStat t i l) F.PAT_STAT_LOCK then
    (s.setF (patStat t i l) F.PAT_STAT_LOCK 0).eventC Ev.PAT_LOCK i l true [t]
  else s

/-- PAT_SET at its tick. -/
def State.patSet (s : State) (c : Cmd) (t i l gen chk sq force : Nat) : State :=
  let no := fun st => s.refuse c Op.PAT_SET st
  let a := patBase t i l
  if !patNamed t i l || decide (2 ≤ force) || decide (sq = 0) || decide (64 ≤ sq) || !s.patAccepts t i l gen || !s.patAccepts t i l chk then
    no St.BAD_FIELD
  else if !s.patOnDomain t i then no St.DOMAIN_OFF
  else if t = 2 ∧ gen ≠ 0 ∧ force = 0 ∧ s.pairBusy = true then no St.PAIR_BUSY
  else if gen ≠ 0 ∧ force = 0 ∧ s.patInUse t i l false = true then no St.LANE_IN_USE
  else
    let was := s.patOn t i l
    let new := s.f a F.PAT_CTL_CHK != chk || (chk == 9 && s.f a F.PAT_CTL_SQ_HALF != sq)
    let s := if new then s.chkReseed t i l else s
    let s := s.setFs a [(F.PAT_CTL_GEN, gen), (F.PAT_CTL_CHK, chk), (F.PAT_CTL_SQ_HALF, sq), (F.PAT_CTL_FORCED, force)]
    let s := s.patApply t i l was
    s.ok c Op.PAT_SET [(32, 1, (s.reg (patStat t i l)).toNat % 256)]

/-- PAT_SET (R579, R585). -/
def execPatSet (cmd : Cmd) (ptype index lane gen chk sqHalf force : BitVec 8) (s : State) : Host.Outcome State Fault Refusal :=
  .next (s.patSet cmd ptype.toNat index.toNat lane.toNat gen.toNat chk.toNat sqHalf.toNat force.toNat)

/-- LOOP_SET at its tick. -/
def State.loopSet (s : State) (c : Cmd) (t i l loop force : Nat) : State :=
  let no := fun st => s.refuse c Op.LOOP_SET st
  if !patNamed t i l || t == 2 || decide (4 ≤ loop) || decide (2 ≤ force) then no St.BAD_FIELD
  else if !s.patOnDomain t i then no St.DOMAIN_OFF
  else if loop ≠ 0 ∧ force = 0 ∧ s.patInUse t i l (loop != 3) = true then no St.LANE_IN_USE
  else
    let was := s.patOn t i l
    let s := s.setFs (patBase t i l) [(F.PAT_CTL_LOOP, loop), (F.PAT_CTL_FORCED, force)]
    (s.patApply t i l was).ok c Op.LOOP_SET []

/-- LOOP_SET (R582, R585). -/
def execLoopSet (cmd : Cmd) (ptype index lane loop force : BitVec 8) (s : State) : Host.Outcome State Fault Refusal :=
  .next (s.loopSet cmd ptype.toNat index.toNat lane.toNat loop.toNat force.toNat)

/-- A checker sets LOCK after 1,024 bits without error. -/
def State.patLock (s : State) (t i l : Nat) : State :=
  let r := patStat t i l
  if patNamed t i l && s.patOnDomain t i && s.f (patBase t i l) F.PAT_CTL_CHK != 0 && !s.b r F.PAT_STAT_LOCK then
    (s.setF r F.PAT_STAT_LOCK 1).eventC Ev.PAT_LOCK i l false [t]
  else s

/-- PAT_LOCK (R581). -/
def execPatLock (ptype : Fin 4) (index lane : Fin 16) (s : State) : Host.Outcome State Fault Refusal := .next (s.patLock ptype index lane)

/-- A checker loses LOCK: more than 256 of 1,024 bits were in error. -/
def State.patLoss (s : State) (t i l : Nat) : State :=
  let r := patStat t i l
  if patNamed t i l && s.b r F.PAT_STAT_LOCK then (s.incF r F.PAT_STAT_LOCK_LOSS 1).chkReseed t i l else s

/-- PAT_LOCK_LOSS (R581). -/
def execPatLockLoss (ptype : Fin 4) (index lane : Fin 16) (s : State) : Host.Outcome State Fault Refusal :=
  .next (s.patLoss ptype index lane)

/-- A checker takes the bits that its lane received in a tick: counts, and the changes of LOCK in their order (R581). -/
def State.patBits (s : State) (k : Nat) (bs : List Bool) : State :=
  let t := k / 256
  let i := k / 16 % 16
  let l := k % 16
  let r := patStat t i l
  let p := s.chkPattern t i l
  if !patNamed t i l || !s.patOnDomain t i || p == .none then s
  else
    let o := bs.foldl (chkBit p) { st := s.chk k, lock := s.b r F.PAT_STAT_LOCK }
    let s := s.each o.turns fun v s => if v then s.patLock t i l else s.patLoss t i l
    let s := s.setChk k o.st
    (s.incF (r + 8) F.PAT_ERR_CNT o.errs).incF (r + 16) F.PAT_BITS_CNT o.bits

/-- The elastic buffer of a far-end loop slips by 256; LOOP_SLIP at most once per tick (R583). -/
def State.loopSlip (s : State) (t i l : Nat) : State :=
  if patNamed t i l && s.f (patBase t i l) F.PAT_CTL_LOOP == 3 then
    let s := s.incF (patStat t i l) F.PAT_STAT_SLIP_CNT 1
    let k := 256 * t + 16 * i + l
    if s.obs.slipPosted.contains k then s
    else { s with obs.slipPosted := k :: s.obs.slipPosted }.event Ev.LOOP_SLIP i l [t]
  else s

/-- LOOP_SLIP (R583). -/
def execLoopSlip (ptype : Fin 4) (index lane : Fin 16) (s : State) : Host.Outcome State Fault Refusal :=
  .next (s.loopSlip ptype index lane)

/-- Every lane with pattern registers whose PAT_STAT shows LOCK. -/
def State.lockedCheckers (s : State) : List Nat :=
  (s.regs.filter fun (e : Nat × Word) => (match regAt e.1 with
    | some (r, _) => [RegId.PAT_STAT_O, .PAT_STAT_G, .PAT_STAT_S, .PAT_STAT_T].contains r.id
    | none => false) && F.PAT_STAT_LOCK.of e.2 == 1).map (·.1)

/-- Bits compared and in error in a tick on the checkers in LOCK whose bits the tick does not give: free, at most what a tick holds (log entry 1). -/
def State.patTick (s : State) (given : List (Nat × List Bool)) : State :=
  let known := given.map fun e => patStat (e.1 / 256) (e.1 / 16 % 16) (e.1 % 16)
  s.each (s.lockedCheckers.filter fun a => !known.contains a) fun a s =>
    let (n, s) := s.draw (2 ^ 23)
    let (e, s) := s.draw (n + 1)
    (s.incF (a + 8) F.PAT_ERR_CNT e).incF (a + 16) F.PAT_BITS_CNT n

/-! ## Histogram units (R589, R590) -/

/-- A unit is cleared. -/
def State.histClear (s : State) (u : Nat) : State :=
  let s := s.each (List.range 64) fun b s => s.setReg (R.HIST_BIN u b) 0
  let s := (s.setReg (R.HIST_SUM u) 0).setReg (R.HIST_STAT u) (resetWord (R.HIST_STAT u))
  s.setF (R.HIST_CTL u) F.HIST_CTL_CLEAR 0

/-- HIST_CLEAR: a write of 1 to CLEAR, which acts at the tick edge at which it lands. -/
def execHistClear (u : Fin 16) (s : State) : Host.Outcome State Fault Refusal :=
  .next (match s.blockedBy (R.HIST_CTL u) with
    | some d => s.offAccess (R.HIST_CTL u) d 3 true false 4
    | none => s.stageWrite (R.HIST_CTL u) 4 4 false 3)

/-- A client takes a marker: it has an end at this device and is carried (R590). -/
def State.takesMarker (s : State) (c : Nat) : Bool := s.map.defined.contains c && s.b (R.MAP_CLI_STAT c) F.MAP_CLI_STAT_CARRYING

/-- The units that start a marker at a tick edge. -/
def State.markUnits (s : State) : List Nat :=
  (List.range 16).filter fun u =>
    let arg := s.f (R.HIST_CTL u) F.HIST_CTL_ARG
    s.b (R.HIST_CTL u) F.HIST_CTL_EN
      && (match s.f (R.HIST_CTL u) F.HIST_CTL_SRC with
        | 0 => s.takesMarker arg
        | 1 => s.map.defined.any fun c => s.cls c == arg && s.takesMarker c
        | _ => false)

/-- One marker per tick for every unit that measures the datapath. -/
def State.markTick (s : State) : State :=
  s.each s.markUnits fun u s =>
    { s with obs.marks := Tab.set (fun _ => 0) s.obs.marks u (Tab.get (fun _ => 0) s.obs.marks u + 1) }

/-- A marker crosses the output land: its latency is a sample; one whose data was errored, replaced, skipped or repeated is lost. -/
def State.histMarker (s : State) (u : Nat) (x : Option Nat) : State :=
  let n := Tab.get (fun _ => 0) s.obs.marks u
  if n = 0 then s
  else
    let s : State := { s with obs.marks := Tab.set (fun _ => 0) s.obs.marks u (n - 1) }
    match x with
    | some v => s.histAdd u v
    | none => s.incF (R.HIST_STAT u) F.HIST_STAT_LOST 1

/-- HIST_SAMPLE (R590), with the latency in the unit's scale. -/
def execHistSample (u : Fin 16) (x : Option (BitVec 32)) (s : State) : Host.Outcome State Fault Refusal :=
  .next (s.histMarker u (x.map (·.toNat)))

/-! ## Control-core counters and samples (R591 to R593) -/

/-- The counters that have an event selected count what the cores do in a tick: free (log entry 1). -/
def State.pmuTick (s : State) : State :=
  if !s.isOn domCTRL then s
  else s.each (pairsOf (List.range 4) 8) fun p s =>
    if (s.reg (R.PMU_SEL p.1)).toNat / 2 ^ (8 * p.2) % 256 = 0 then s
    else
      let (n, s) := s.draw (2 ^ 16)
      s.incF (R.PMU_CNT p.1 p.2) F.PMU_CNT_CNT n

/-- FILL shows the samples buffered. -/
def State.sampFill (s : State) : State := s.setF R.SAMP_STAT F.SAMP_STAT_FILL s.obs.samples.length

/-- Samples are lost. -/
def State.sampLose (s : State) (n : Nat) : State :=
  { s with obs.sampLost := s.obs.sampLost + n }.incF R.SAMP_STAT F.SAMP_STAT_LOST n

/-- The PERIOD-th occurrence of the event on a sampled core writes a sample. -/
def State.pmuSample (s : State) (core pc addr word lat flags : Nat) : State :=
  let ev := s.f R.SAMP_CTL F.SAMP_CTL_EVENT
  if !s.b R.SAMP_CTL F.SAMP_CTL_EN || !bitOf (s.f R.SAMP_CTL F.SAMP_CTL_CORES) core || ev == 0 || !s.isOn domCTRL then s
  else if 4096 ≤ s.obs.samples.length then s.sampLose 1
  else
    let noLat := ev = 1 ∨ ev = 2 ∨ ev = 5 ∨ 10 ≤ ev
    let e := leBytes 8 pc ++ leBytes 8 addr ++ leBytes 4 word ++ leBytes 4 (if noLat then 0 else lat) ++ leBytes 2 ev ++ leBytes 1 core
      ++ leBytes 1 flags ++ leBytes 4 s.tick
    { s with obs.samples := s.obs.samples ++ [e] }.sampFill

/-- PMU_SAMPLE (R592). -/
def execPmuSample (core : Fin 4) (pc addr : BitVec 64) (word lat : BitVec 32) (flags : BitVec 2) (s : State) :
    Host.Outcome State Fault Refusal :=
  .next (s.pmuSample core pc.toNat addr.toNat word.toNat lat.toNat flags.toNat)

/-- At a tick edge: samples lost in the tick are posted, a record falls due, and with EN clear a remainder is discarded. -/
def State.sampTick (s : State) : State :=
  let n := s.obs.sampLost
  let s := if n = 0 then s else { s with obs.sampLost := 0 }.event Ev.SAMP_LOST noObj noLane [n]
  let full := decide (2 * s.f R.SAMP_CTL F.SAMP_CTL_BATCH ≤ s.obs.samples.length)
  let s := if !full && !s.b R.SAMP_CTL F.SAMP_CTL_EN then { s with obs.samples := [] }.sampFill else s
  { s with obs.sampDue := full }

/-- The entries of a sample record: the header entry, then two samples an entry. -/
def sampleEntries : List (List Byte) → List (List Byte)
  | a :: b :: l => (a ++ b) :: sampleEntries l
  | _ => []

/-- A sample record is written to its ring; one that has no ring, or does not fit, loses its samples (R593). -/
def State.sampleRecord (s : State) : State :=
  if !s.obs.sampDue then s
  else
    let n := s.f R.SAMP_CTL F.SAMP_CTL_BATCH
    let r := s.f R.SAMP_CTL F.SAMP_CTL_RING
    let xs := s.obs.samples.take (2 * n)
    let s := { s with
      obs.sampDue := false, obs.samples := s.obs.samples.drop (2 * n) }.sampFill
    let q := s.ring r
    if q.typ ≠ 4 then s.sampLose (2 * n)
    else
      let fits := s.canWrite && q.state == 1 && decide (n + 1 ≤ q.free)
      let e0 := entryOf [(16, 2, tqPeriod q.ctxC), (18, 1, 0x10), (28, 8, q.tqFrom), (36, 2, n)]
      let s := s.writeRecord r 3 s.tick (e0 :: sampleEntries xs)
      if fits then s else s.sampLose (2 * n)

/-- SAMPLE_RECORD (R593). -/
def execSampleRecord (s : State) : Host.Outcome State Fault Refusal := .next s.sampleRecord

/-! ## Converter capture (R594 to R596) -/

/-- The capture of a Yard die. -/
def State.cap (s : State) (y : Nat) : Option CapRun := Tab.get (fun _ => none) s.obs.cap y

/-- The state with a die's capture replaced. -/
def State.setCap (s : State) (y : Nat) (x : Option CapRun) : State := { s with obs.cap := Tab.set (fun _ => none) s.obs.cap y x }

/-- Why a capture of a line lane cannot start: 1 busy, 2 domain, 3 a reserved value (R594, R595). -/
def State.capCause (s : State) (ll src len buf : Nat) : Option Nat :=
  let o := ll / 9
  let l := ll % 9
  if 144 ≤ ll ∨ 4 ≤ src ∨ len = 0 ∨ (if src = 0 then 1024 else 512) < len ∨ 16 ≤ buf
      ∨ (2 ≤ src ∧ l = 8 ∧ s.stdMode o = false ∧ s.convRx o ≠ 4) then some 3
  else if !s.octOn o || !s.isOn domGDDR || s.rxRetired o l || !s.rxOn o l then some 2
  else if (s.cap (o / 4)).isSome then some 1 else none

/-- A capture starts: its buffer loses VALID. Its first sample is the first of the next DSP clock, of 256 symbols (R119): a free position
(log entry 1) that many symbols or fewer after the start, which is the tick edge, or a trigger's place in the tick. -/
def State.capGo (s : State) (ll src len buf : Nat) (cmd : Option Cmd) : State :=
  let (pos, s) := s.draw (257 + if cmd.isSome then 0 else tickSymbols (s.stdMode (ll / 9)))
  let s := s.setCap (ll / 36) (some ⟨buf, cmd, s.tick, pos, false, []⟩)
  let s := s.setFs (R.CAP_BUF_A buf) [(F.CAP_BUF_A_VALID, 0), (F.CAP_BUF_A_BUSY, 1), (F.CAP_BUF_A_LANE, ll), (F.CAP_BUF_A_SRC, src),
    (F.CAP_BUF_A_LEN, len), (F.CAP_BUF_A_DAMAGED, 0)]
  { s with obs.damaged := Tab.erase s.obs.damaged buf }.setFs (R.CAP_BUF_B buf) [(F.CAP_BUF_B_TICK, s.tick % 2 ^ 40),
    (F.CAP_BUF_B_POS, pos)]

/-- CAP_START at its tick: it completes when staging ends. -/
def State.capStart (s : State) (c : Cmd) (ll src len buf : Nat) : State :=
  match s.capCause ll src len buf with
  | some 1 => s.refuse c Op.CAP_START St.CAP_BUSY
  | some 2 => s.refuse c Op.CAP_START St.DOMAIN_OFF
  | some _ => s.refuse c Op.CAP_START St.BAD_FIELD
  | none => s.capGo ll src len buf (some { c with eff := s.tick })

/-- CAP_START (R594). -/
def execCapStart (cmd : Cmd) (lineLane src : BitVec 8) (len : BitVec 16) (buf : BitVec 8) (s : State) :
    Host.Outcome State Fault Refusal :=
  .next (s.capStart cmd lineLane.toNat src.toNat len.toNat buf.toNat)

/-- A time trigger starts a capture with the settings of the lane's Yard die, or drops it (R594, R595). -/
def State.capTrigger (s : State) (ll : Nat) : State :=
  let y := ll / 36
  let r := R.CAP_CFG y
  match s.capCause ll (s.f r F.CAP_CFG_SRC) (s.f r F.CAP_CFG_LEN) (s.f r F.CAP_CFG_BUF) with
  | some e => s.event Ev.CAP_DROP y noLane [e]
  | none => s.capGo ll (s.f r F.CAP_CFG_SRC) (s.f r F.CAP_CFG_LEN) (s.f r F.CAP_CFG_BUF) none

/-- Staging ends, with the samples as bytes; the drain starts and the command completes. -/
def State.capStaged (s : State) (y : Nat) (data : List Byte) : State :=
  match s.cap y with
  | some x =>
    if x.draining then s
    else
      let s := s.setCap y (some { x with draining := true, cmd := none, data := data })
      match x.cmd with
      | some c => s.completeAt c Op.CAP_START St.OK c.eff [(32, 8, x.tick), (40, 3, x.pos)]
      | none => s
  | none => s

/-- CAP_STAGING_END (R594). -/
def execCapStagingEnd (y : Fin 4) (data : List Byte) (s : State) : Host.Outcome State Fault Refusal := .next (s.capStaged y data)

/-- The drain ends: the buffer holds the capture, unless its memory is gone. -/
def State.capDone (s : State) (y : Nat) : State :=
  match s.cap y with
  | some x =>
    if !x.draining then s
    else
      let s := (s.setCap y none).setF (R.CAP_BUF_A x.buf) F.CAP_BUF_A_BUSY 0
      if !s.isOn domGDDR then s
      else
        let s := { s with obs.buf := Tab.set (fun _ => []) s.obs.buf x.buf x.data }.setF (R.CAP_BUF_A x.buf) F.CAP_BUF_A_VALID 1
        s.event Ev.CAP_DONE x.buf noLane [s.f (R.CAP_BUF_A x.buf) F.CAP_BUF_A_DAMAGED]
  | none => s

/-- CAP_DONE (R595). -/
def execCapDone (y : Fin 4) (s : State) : Host.Outcome State Fault Refusal := .next (s.capDone y)

/-- The bytes of a buffer from an offset on, with damaged words as 0. -/
def State.capBytes (s : State) (buf off len : Nat) : List Byte :=
  let b := Tab.get (fun _ => []) s.obs.buf buf
  let bad := Tab.get (fun _ => []) s.obs.damaged buf
  (List.range len).map fun k => if bad.contains ((off + k) / 8) then 0 else b.getD (off + k) 0

/-- Words of a range that lie on a lost channel are uncorrectable (R296, R453): a buffer's groups are striped over the 24 channels as the store's
are (log entry 132). -/
def State.capLost (s : State) (buf off len : Nat) : State :=
  let fail := s.f R.GD_STAT F.GD_STAT_CH_FAIL
  if fail = 0 then s
  else
    let old := Tab.get (fun _ => []) s.obs.damaged buf
    let new := ((List.range (len / 8)).map (off / 8 + ·)).filter fun w => bitOf fail (w / 8 % 24) && !old.contains w
    { s with obs.damaged := Tab.set (fun _ => []) s.obs.damaged buf (new ++ old) }.incF (R.CAP_BUF_A buf) F.CAP_BUF_A_DAMAGED new.length

/-- CAP_READ: the range goes to host memory; the result names the damaged words. -/
def State.capRead (s : State) (c : Cmd) (buf off len addr : Nat) : State :=
  let no := fun st => s.refuse c Op.CAP_READ st
  if 16 ≤ buf ∨ off % 64 ≠ 0 ∨ len % 64 ≠ 0 ∨ 2 ^ 20 < off + len ∨ addr % 64 ≠ 0 then no St.BAD_FIELD
  else if !s.isOn domGDDR then no St.DOMAIN_OFF
  else if s.b (R.CAP_BUF_A buf) F.CAP_BUF_A_BUSY then no St.CAP_BUSY
  else if !s.b (R.CAP_BUF_A buf) F.CAP_BUF_A_VALID then no St.CAP_EMPTY
  else
    let s := s.capLost buf off len
    let bad := (Tab.get (fun _ => []) s.obs.damaged buf).filter fun k => decide (off ≤ 8 * k) && decide (8 * k < off + len)
    let s := if len = 0 then s else s.dma addr (s.capBytes buf off len)
    s.ok c Op.CAP_READ [(32, 4, bad.length), (36, 4, match bad with | [] => 0xFFFFFFFF | k :: ks => ks.foldl min k)]

/-- CAP_READ (R596, R597). -/
def execCapRead (cmd : Cmd) (buf : BitVec 8) (offset len : BitVec 32) (addr : BitVec 64) (s : State) :
    Host.Outcome State Fault Refusal :=
  .next (s.capRead cmd buf.toNat offset.toNat len.toNat addr.toNat)

end Sys2Proof.Machine
end

