-- ==== Sys2Proof/Machine/Receive.lean ====
section
/-!
DEFINITION. Commands and events of line receive signal processing (chapter 4); RAW_LOS stands with acquisition.
-/

namespace Sys2Proof.Machine

/-- Why an FFE_SWAP is refused (R132, R134, R137). -/
def State.ffeSwapRefusal (s : State) (o mask : Nat) : Option Nat :=
  let ls := lanes9.filter (bitOf mask ·)
  if 16 ≤ o ∨ 512 ≤ mask then some St.BAD_FIELD
  else if !s.octOn o then some St.DOMAIN_OFF
  else if ls.any fun l => s.rxRetired o l then some St.LANE_RETIRED
  else if ls.any fun l => s.adapt o l == 1 then some St.ADAPT_ON
  else if ls.any fun l => s.swapStaged o l then some St.SWAP_BUSY
  else none

/-- A bank swap or phase mode command finds a lane of its own with a swap staged, be it by another command that waits (R134). -/
def State.swapBusy (s : State) (i : Instr) : Bool :=
  match i with
  | .ffeSwap _ o mask => decide (o.toNat < 16) && (lanes9.filter (bitOf mask.toNat ·)).any fun l => s.swapStaged o.toNat l
  | .ffeMode _ o _ => decide (o.toNat < 16) && (lanes9.filter fun l => s.ffeOn o.toNat l).any fun l => s.swapStaged o.toNat l
  | _ => false

/-- SWAP_STAGED shows a command from its staging on (R134). -/
def State.swapShow (s : State) (i : Instr) : State :=
  match i with
  | .ffeSwap _ o _ | .ffeMode _ o _ => if o.toNat < 16 then s.swapFlags o.toNat else s
  | _ => s

/-- A swap command ends without a swap: its staging no longer shows. -/
def State.swapRefuse (s : State) (c : Cmd) (op o e : Nat) : State :=
  let s := if o < 16 then s.swapFlags o else s
  s.refuse c op e

/-- FFE_SWAP at its tick: the swaps land at the next codeword boundary (R127), and the command completes then. -/
def State.ffeSwap (s : State) (c : Cmd) (o mask : Nat) : State :=
  match s.ffeSwapRefusal o mask with
  | some e => s.swapRefuse c Op.FFE_SWAP o e
  | none => s.stageSwap o ⟨mask, s.tick, some { c with eff := s.tick }, none, false⟩

/-- FFE_SWAP (R137). -/
def execFfeSwap (cmd : Cmd) (octet : BitVec 8) (mask : BitVec 16) (s : State) : Host.Outcome State Fault Refusal :=
  .next (s.ffeSwap cmd octet.toNat mask.toNat)

/-- A Class A client has a line end on the octet, or takes its tag there (R35, R252). -/
def State.classAOn (s : State) (o : Nat) : Bool :=
  s.map.defined.any fun c =>
    let e := R.MAP_CLI_END c
    let k := s.f (R.MAP_CLI_DEF c) F.MAP_CLI_DEF_ENDS
    s.f (R.MAP_CLI_DEF c) F.MAP_CLI_DEF_CLASS == 0
      && (((k == 1 || k == 3) && (s.f e F.MAP_CLI_END_SRC == o || s.boundOn c o)) || ((k == 0 || k == 3) && s.f e F.MAP_CLI_END_SNK == o)
        || ((k == 0 || k == 3) && s.b (R.PROT_END c) F.PROT_END_DUAL_SINK && s.f (R.PROT_END c) F.PROT_END_SNK1_OCT == o))

/-- Why an FFE_MODE is refused (R35, R137). -/
def State.ffeModeRefusal (s : State) (o m : Nat) : Option Nat :=
  let ls := lanes9.filter fun l => s.ffeOn o l
  if 16 ≤ o ∨ 2 ≤ m then some St.BAD_FIELD
  else if !s.octOn o then some St.DOMAIN_OFF
  else if m = 1 ∧ s.classAOn o = true then some St.CLASS_CONFLICT
  else if ls.any fun l => s.adapt o l == 1 then some St.ADAPT_ON
  else if ls.any fun l => s.swapStaged o l then some St.SWAP_BUSY
  else none

/-- FFE_MODE at its tick: the mode and a swap on every powered FFE land together (R137, R138). -/
def State.ffeMode (s : State) (c : Cmd) (o m : Nat) : State :=
  match s.ffeModeRefusal o m with
  | some e => s.swapRefuse c Op.FFE_MODE o e
  | none =>
    let mask := lanes9.foldl (fun n l => n + bit (s.ffeOn o l) * 2 ^ l) 0
    s.stageSwap o ⟨mask, s.tick, some { c with eff := s.tick }, some m, false⟩

/-- FFE_MODE (R138). -/
def execFfeMode (cmd : Cmd) (octet mode : BitVec 8) (s : State) : Host.Outcome State Fault Refusal :=
  .next (s.ffeMode cmd octet.toNat mode.toNat)

/-- RX_CHANGE_LAND (R127): `pos` gives, for each lane, the symbol of its received frame at the tick edge. -/
def execRxChangeLand (o : Fin 16) (pos : List Nat) (s : State) : Host.Outcome State Fault Refusal := .next (s.rxLand o pos)

/-- Coefficient `i` of a bank. -/
def coefFld (q : Nat) : Fld := ⟨16 * q, 12⟩

/-- A tap moves by its accumulated sum scaled by 2^-(MU + 20), rounded and limited to 4 codes (R136). -/
def tapMove (mu : Nat) (sum : Int) : Int := clampInt (-4) 4 (roundDiv sum (2 ^ (mu + 20)))

/-- The taps of a shadow bank move by the accumulated sums (R136); the main tap does not adapt. -/
def State.tapsMove (s : State) (o l bank : Nat) (sums : List Int) : State :=
  let mu := s.f (R.FFE_CTL o l) F.FFE_CTL_MU
  let mask := s.f (R.FFE_MASK o l) F.FFE_MASK_MASK
  s.each (List.range 48) fun i s =>
    if bitOf mask i ∧ i ≠ s.mainTap o then
      let r := R.FFE_COEF o l bank (i / 4)
      s.setI r (coefFld (i % 4)) (clampInt (-2048) 2047 (s.i r (coefFld (i % 4)) + tapMove mu (sums.getD i 0)))
    else s

/-- The sums that a lane has accumulated since its last update (R136); `sums`, where its samples were not given. -/
def State.tapSums (s : State) (o l : Nat) (sums : List Int) : List Int :=
  if (s.rxl o l).acc.taps.isEmpty then sums else (s.rxl o l).acc.taps

/-- The sums of a lane start anew. -/
def State.tapClear (s : State) (o l : Nat) : State := s.setRxl o l { s.rxl o l with acc := { (s.rxl o l).acc with taps := [] } }

/-- Adaptation updates the shadow bank every ADAPT_PERIOD ticks, in those whose number is a multiple of it, and stages a swap for the next
tick (R136); a swap that is staged keeps an update from being made, and its sums go on (log entry 122). -/
def State.ffeAdapt (s : State) (o l : Nat) (sums : List Int) : State :=
  if s.ffeOn o l && s.adapt o l == 1 && decide (s.tick % s.f (R.FFE_CTL o l) F.FFE_CTL_ADAPT_PERIOD = 0)
      && !s.swapStaged o l then
    let sums := s.tapSums o l sums
    let s := (s.tapClear o l).tapsMove o l (1 - s.f (R.FFE_STAT o l) F.FFE_STAT_ACTIVE_BANK) sums
    s.stageSwap o ⟨2 ^ l, s.tick + 1, none, none, true⟩
  else s

/-- FFE_ADAPT_UPDATE (R136): `sums` gives the accumulated products of each tap of a lane whose samples the commands do not give. -/
def execFfeAdaptUpdate (o : Fin 16) (l : Fin 9) (sums : List Int) (s : State) : Host.Outcome State Fault Refusal :=
  .next (s.ffeAdapt o l sums)

/-- MON_THRESHOLD (R149). -/
def execMonThreshold (o : Fin 16) (l : Fin 9) (unit : Fin 4) (s : State) : Host.Outcome State Fault Refusal :=
  .next (s.monThreshold o l unit)

end Sys2Proof.Machine
end

