-- ==== Sys2Proof/Machine/Apply.lean ====
section
/-!
DEFINITION. A staged command takes effect at its tick edge (R49, R52): the meaning of each host command, as a function on the state.
-/

namespace Sys2Proof.Machine

/-- The next state of an outcome; the meanings of the host commands always answer one. -/
def nextOr (s : State) : Host.Outcome State Fault Refusal → State
  | .next t => t
  | _ => s

/-- A host command takes effect.  The checks that a CLIENT_ADD had at its acceptance are not made again (R254).  An event row is
no host command. -/
def applyCmd (i : Instr) (s : State) : State :=
  match i with
  | .clientAdd cmd a => s.ifHolder cmd Op.CLIENT_ADD i a.client.toNat fun s => s.clientAddTick cmd a
  | .timeSwitch cmd domain => nextOr s (execTimeSwitch cmd domain s)
  | .timeStep cmd amount => nextOr s (execTimeStep cmd amount s)
  | .synCal cmd octet retry => nextOr s (execSynCal cmd octet retry s)
  | .txEnable cmd octet lane launch => nextOr s (execTxEnable cmd octet lane launch s)
  | .txStep cmd octet lane launch => nextOr s (execTxStep cmd octet lane launch s)
  | .txDisable cmd octet lane force => nextOr s (execTxDisable cmd octet lane force s)
  | .ffeSwap cmd octet mask => nextOr s (execFfeSwap cmd octet mask s)
  | .ffeMode cmd octet mode => nextOr s (execFfeMode cmd octet mode s)
  | .slip cmd octet lane amount coarse => nextOr s (execSlip cmd octet lane amount coarse s)
  | .acqRestart cmd octet mask => nextOr s (execAcqRestart cmd octet mask s)
  | .laneRetire cmd octet lane dir reason => nextOr s (execLaneRetire cmd octet lane dir reason s)
  | .laneRestore cmd octet => nextOr s (execLaneRestore cmd octet s)
  | .slRetrain cmd group mask => nextOr s (execSlRetrain cmd group mask s)
  | .clientModify cmd client what cls auto copy mask => nextOr s (execClientModify cmd client what cls auto copy mask s)
  | .clientDelete cmd client => nextOr s (execClientDelete cmd client s)
  | .protSet cmd client flags uncThr holdOff wtr => nextOr s (execProtSet cmd client flags uncThr holdOff wtr s)
  | .protReq cmd client request => nextOr s (execProtReq cmd client request s)
  | .halySend cmd octet dst path rep len addr mem => nextOr s (execHalySend cmd octet dst path rep len addr mem s)
  | .trimRun cmd target => nextOr s (execTrimRun cmd target s)
  | .jrnRead cmd region seq count addr => nextOr s (execJrnRead cmd region seq count addr s)
  | .audit cmd first count freeze addr => nextOr s (execAudit cmd first count freeze addr s)
  | .ringResync cmd ring head expHseq => nextOr s (execRingResync cmd ring head expHseq s)
  | .nop cmd => nextOr s (execNop cmd s)
  | .pairTakeover cmd force => nextOr s (execPairTakeover cmd force s)
  | .pairRelease cmd => nextOr s (execPairRelease cmd s)
  | .pairAudit cmd first count addr => nextOr s (execPairAudit cmd first count addr s)
  | .pairResync cmd => nextOr s (execPairResync cmd s)
  | .shrdLoop cmd mode force => nextOr s (execShrdLoop cmd mode force s)
  | .fltClear cmd kind unit lane => nextOr s (execFltClear cmd kind unit lane s)
  | .memTest cmd op die macroIx word data check => nextOr s (execMemTest cmd op die macroIx word data check s)
  | .edacQueue cmd channel count flush codes => nextOr s (execEdacQueue cmd channel count flush codes s)
  | .edacRamp cmd slot => nextOr s (execEdacRamp cmd slot s)
  | .lastRamp cmd => nextOr s (execLastRamp cmd s)
  | .lastRampRelease cmd => nextOr s (execLastRampRelease cmd s)
  | .engI2c cmd bus addr wcount rcount rstart wdata => nextOr s (execEngI2c cmd bus addr wcount rcount rstart wdata s)
  | .pwrReq cmd dom target => nextOr s (execPwrReq cmd dom target s)
  | .reefReq cmd manual => nextOr s (execReefReq cmd manual s)
  | .pmbXfer cmd entry code wcount rcount page wdata => nextOr s (execPmbXfer cmd entry code wcount rcount page wdata s)
  | .pwrStop cmd => nextOr s (execPwrStop cmd s)
  | .attest cmd nonce addr => nextOr s (execAttest cmd nonce addr s)
  | .certRead cmd addr max => nextOr s (execCertRead cmd addr max s)
  | .imageWrite cmd slot offset len addr mem => nextOr s (execImageWrite cmd slot offset len addr mem s)
  | .imageCommit cmd slot => nextOr s (execImageCommit cmd slot s)
  | .rollbackAdvance cmd force => nextOr s (execRollbackAdvance cmd force s)
  | .keyUpdate cmd addr mem => nextOr s (execKeyUpdate cmd addr mem s)
  | .taskLoad cmd task len addr mem => nextOr s (execTaskLoad cmd task len addr mem s)
  | .taskSet cmd task action mode budget => nextOr s (execTaskSet cmd task action mode budget s)
  | .patSet cmd ptype index lane gen chk sqHalf force => nextOr s (execPatSet cmd ptype index lane gen chk sqHalf force s)
  | .loopSet cmd ptype index lane loop force => nextOr s (execLoopSet cmd ptype index lane loop force s)
  | .capStart cmd lineLane src len buf => nextOr s (execCapStart cmd lineLane src len buf s)
  | .capRead cmd buf offset len addr => nextOr s (execCapRead cmd buf offset len addr s)
  | _ => s

end Sys2Proof.Machine
end

