-- ==== Sys2Proof/Machine/Triggers.lean ====
section
/-!
DEFINITION. Time triggers (R73 to R75, R491, R503, R595).
-/

namespace Sys2Proof.Machine

/-- The time one 625 MHz cycle before. -/
def State.trigBefore (s : State) (k cyc : Nat) : Int :=
  let d := s.f (R.TRIG_CTL k) F.TRIG_CTL_DOM
  if d < 2 then (((s.cnt d + cyc * s.incr d : Nat) : Int) - s.incr d) / (2 ^ 24 : Nat)
  else offShown (s.outAt cyc - (s.incr s.time.active * offUnit : Nat))

/-- TRIG_TIME after a firing: one period on, or after a late one the smallest number of periods that places it after the current time; a
one-shot unit does not fire again (R73). -/
def State.trigNext (s : State) (k : Nat) (late : Bool) (now : Int) : State :=
  let t := s.trigTime k
  let p := s.f (R.TRIG_PERIOD k) F.TRIG_PERIOD_PERIOD_NS * 2 ^ 16
  if p = 0 then { s with time.trigFired := Tab.set (fun _ => false) s.time.trigFired k true }
  else s.setTrigTime k (if late then t + ((now.toNat - t) / p + 1) * p else t + p)

/-- What a firing starts (R74): housekeeping sequences and captures at once, the others at the next tick edge, where firings that have
not started merge (R75). -/
def State.trigAct (s : State) (k act arg : Nat) : State :=
  if act = 1 then s.hkTrigger (arg / 256 % 2) (arg % 256)
  else if act = 2 then s.capTrigger arg
  else if 3 ≤ act ∧ act ≤ 5 then
    (if s.time.trigWait.any fun w => w.1 == k then s.incF (R.TRIG_CTL k) F.TRIG_CTL_MISSED_CNT 1
     else { s with time.trigWait := s.time.trigWait ++ [(k, act, arg)] })
  else s

/-- A unit's pin rises for PULSE_TICKS ticks. -/
def State.trigPulse (s : State) (k : Nat) : State :=
  let pin := s.f (R.TRIG_CTL k) F.TRIG_CTL_PIN
  if 4 ≤ pin then
    { s with time.trigPin := Tab.set (fun _ => 0) s.time.trigPin (pin - 4) (s.f (R.TRIG_CTL k) F.TRIG_CTL_PULSE_TICKS) }
  else s

/-- A unit fires at a cycle of the present tick. -/
def State.trigFire (s : State) (k cyc : Nat) : State :=
  let r := R.TRIG_CTL k
  let oneShot := s.f (R.TRIG_PERIOD k) F.TRIG_PERIOD_PERIOD_NS == 0
  let now := s.trigNow k cyc
  if !s.b r F.TRIG_CTL_ARM || decide (now < s.trigTime k) || (oneShot && Tab.get (fun _ => false) s.time.trigFired k) || s.time.holdover then s
  else
    let late := decide ((s.trigTime k : Int) ≤ s.trigBefore k cyc)
    let s := s.trigNext k late now
    let s := if late then s.setF r F.TRIG_CTL_LATE 1 else s
    (s.trigPulse k).trigAct k (s.f r F.TRIG_CTL_ACT) (s.f r F.TRIG_CTL_ARG)

/-- TRIG_FIRE (R73). -/
def execTrigFire (k : Fin 16) (cyc : Fin 6250) (s : State) : Host.Outcome State Fault Refusal := .next (s.trigFire k cyc)

/-- The tick-bound actions start at a tick edge; the tasks to run are those of ACT = 5, in the order of the firings. -/
def State.trigTick (s : State) : State :=
  let w := s.time.trigWait
  let s : State := { s with time.trigWait := [] }
  s.each w fun x s =>
    let arg := x.2.2
    if x.2.1 = 3 then (if arg < 32 then s.trimRequest arg none else s)
    else if x.2.1 = 4 then
      (if 16 ≤ arg then s
       else match s.rampRefusal arg with
        | some e => s.event Ev.EDAC_RAMP_FAIL arg noLane [e]
        | none => s.rampStart arg none)
    else s

end Sys2Proof.Machine
end

