-- ==== Sys2Proof/Machine/RegView.lean ====
section
/-!
DEFINITION. What a BAR0 read returns (chapter 18): the fields that show hidden state, staged writes (R48), latched registers (R607),
the half-read shadow (R11, R466), capturing reads (R14), the global error log (R613), and the reads that return no register (R465,
R605, R606).
-/

namespace Sys2Proof.Machine

/-! ## Registers that show hidden state -/

/-- A word with several fields replaced in turn. -/
def putFs (w : Word) (l : List (Fld × Nat)) : Word := l.foldl (fun w p => p.1.put w p.2) w

/-- An engine DAC channel's state (R486 to R488). -/
def State.chStat (s : State) (c : Nat) (w : Word) : Word :=
  putFs w [(F.EDAC_CH_STAT_CODE, (s.ch c).code), (F.EDAC_CH_STAT_QDEPTH, (s.ch c).queue.length), (F.EDAC_CH_STAT_OWNER, s.owner c),
    (F.EDAC_CH_STAT_SPAN_PEND, bit (s.ch c).spanPend)]

/-- A housekeeping sequencer's state (R502, R503). -/
def State.hkStat (s : State) (h : Nat) (w : Word) : Word :=
  putFs w [(F.HK_STAT_ENTRY, (s.hk h).entry), (F.HK_STAT_TRIG, bit (s.hk h).trig.isSome),
    (F.HK_STAT_TRIG_PEND, bit (s.hk h).pend.isSome)]

/-- The latest ALIVE value of a station (R310). -/
def State.aliveStat (s : State) (o k : Nat) : Word :=
  let l := Tab.get (fun _ => []) (s.hal o).seen k
  putFs 0 [(F.HALY_ALIVE_LAST, l.headD 0), (F.HALY_ALIVE_VALID, bit !l.isEmpty)]

/-- TICK_STATUS (R78). -/
def State.tickStatus (s : State) : Word :=
  putFs 0 [(F.TICK_STATUS_TICK_IDX, s.tickIdx), (F.TICK_STATUS_ACTIVE, s.time.active),
    (F.TICK_STATUS_SLEWING, bit (decide (s.time.off ≠ 0))), (F.TICK_STATUS_REF_IN_USE, s.time.refUse)]

/-- The word that a register shows `cyc` cycles after the tick edge: the stored word, with the fields that show hidden state.  `stored` is the
stored word. -/
def State.shown (s : State) (id : RegId) (is : List Nat) (cyc : Nat) (stored : Word) : Word :=
  match id, is with
  | .TICK_COUNT, _ => BitVec.ofNat 64 s.tick
  | .TICK_STATUS, _ => s.tickStatus
  | .DOM_TIME_NS, [d] => nsWord (s.cntAt d cyc)
  | .DOM_TIME_SEC, [d] => secWord (s.cntAt d cyc)
  | .TS_OFFSET, _ => BitVec.ofNat 64 (patternOf 64 (offShown s.time.off))
  | .GLB_ERR_STAT, _ => putFs 0 [(F.GLB_ERR_STAT_COUNT, s.host.log.length), (F.GLB_ERR_STAT_DROP_CNT, s.host.logDrop),
      (F.GLB_ERR_STAT_TOTAL, s.host.logTotal)]
  | .GLB_ERR_B, _ => s.host.logB
  | .GLB_ERR_C, _ => s.host.logC
  | .RING_ENG_STAT, _ => putFs 0 [(F.RING_ENG_STAT_OUTSTANDING, s.host.outstanding), (F.RING_ENG_STAT_LINK_UP, bit s.host.linkUp),
      (F.RING_ENG_STAT_CREATED, s.host.rings.length)]
  | .HK_STAT, [h] => s.hkStat h stored
  | .EDAC_CH_STAT, [c] => s.chStat c stored
  | .EDAC_RAMP_CTL, [k] => F.EDAC_RAMP_CTL_BUSY.put stored (bit (s.ramp k).isSome)
  | .HALY_STAT, [o] => F.HALY_STAT_TXQ_DEPTH.put stored (s.hal o).depth
  | .HALY_ALIVE, [o, k] => s.aliveStat o k
  | _, _ => stored

/-- The bits of a register in fields of some access types. -/
def RegDef.maskOf (r : RegDef) (p : Acc → Bool) : Word :=
  r.fields.foldl (fun m (x : FieldDef) => if p x.acc then m ||| (maskW x.fld.w <<< x.fld.lo) else m) 0

/-- Access types whose written values a read returns before they land (R48). -/
def Acc.staged (x : Acc) : Bool := x == Acc.rw || x == Acc.rwl

/-- The bits that writes set at a tick edge. -/
def RegDef.stagedMask (r : RegDef) : Word := r.maskOf Acc.staged

/-- The last value written to the RW and RWL bits of a word, even before it lands (R48). -/
def State.overlay (s : State) (a : Nat) (m w : Word) : Word :=
  s.host.regQ.foldl (fun w (x : StagedWrite) => if x.addr = a then (w &&& ~~~(x.mask &&& m)) ||| (x.val &&& (x.mask &&& m)) else w) w

/-- A TRIG_TIME_NS write that waits for its TRIG_TIME_SEC write (R77) is the last value written. -/
def State.trigPendWord (s : State) (id : RegId) (is : List Nat) (w : Word) : Word :=
  match id, is with
  | .TRIG_TIME_NS, [k] => match s.time.trigNs.find? fun e => e.1 == k with
    | some e => BitVec.ofNat 64 e.2
    | none => w
  | _, _ => w

/-- The live value of a register, with the writes that wait (R48). -/
def State.regLive (s : State) (r : RegDef) (is : List Nat) (a cyc : Nat) : Word :=
  let m := if r.id = .HIST_CTL then r.stagedMask ||| (maskW 1 <<< F.HIST_CTL_CLEAR.lo) else r.stagedMask
  s.trigPendWord r.id is (s.overlay a m (s.shown r.id is cyc (s.reg a)))

/-! ## Latched registers (R77, R156, R196, R337, R481, R581, R607) -/

/-- The registers that a read of a register latches. -/
def latchedBy (id : RegId) (is : List Nat) : List Nat :=
  match id, is with
  | .DOM_TIME_NS, [d] => [R.DOM_TIME_SEC d]
  | .PPS_IN_NS, [x, d] => [R.PPS_IN_SEC x d]
  | .TRIG_TIME_NS, [k] => [R.TRIG_TIME_SEC k]
  | .MON_T_A, [o, l] => [R.MON_T_B o l, R.MON_T_SER o l]
  | .MON_K_A, [o, l] => [R.MON_K_B o l, R.MON_K_SER o l]
  | .FRM_RX_FAR, [o, l] => [R.FRM_RX_FC o l, R.FRM_RX_ARR o l]
  | .HALY_TT_OFFSET, [o] => [R.HALY_TT_DELAY o, R.HALY_TT_STAT o]
  | .MEM_CORR_LOG, _ => [R.MEM_CORR_ADDR]
  | .MEM_UNC_LOG, _ => [R.MEM_UNC_ADDR]
  | .PAT_ERR_T, [p] => [R.PAT_BITS_T p]
  | .PAT_ERR_S, [n] => [R.PAT_BITS_S n]
  | .PAT_ERR_O, [o, l] => [R.PAT_BITS_O o l]
  | .PAT_ERR_G, [g, l] => [R.PAT_BITS_G g l]
  | _, _ => []

/-- The word that a read of offset `a` returns: the latched value, or the live one before the first latching read. -/
def State.regView (s : State) (r : RegDef) (is : List Nat) (a cyc : Nat) : Word :=
  match Tab.get (fun _ => none) s.host.latch a with
  | some w => w
  | none => s.regLive r is a cyc

/-- Registers take their live values into their latches. -/
def State.latchAll (s : State) (cyc : Nat) (l : List Nat) : State :=
  s.each l fun a s => match regAt a with
    | some (r, is) => { s with host.latch := Tab.insert s.host.latch a (some (s.regLive r is a cyc)) }
    | none => s

/-! ## Capturing reads (R14) -/

/-- The RC fields of a word are cleared; telemetry does not see it (R403). -/
def State.rcClear (s : State) (r : RegDef) (a : Nat) : State :=
  s.each (r.fields.filter fun (x : FieldDef) => x.acc == Acc.rc) fun x s => (s.baseAdd a x.fld).setF a x.fld (x.fld.of (resetWord a))

/-- What a read of a word clears: its RC fields; the drop and total counts of the log; PAT_BITS with PAT_ERR (R581). -/
def State.captures (s : State) (r : RegDef) (is : List Nat) (a : Nat) : State :=
  match r.id, is with
  | .GLB_ERR_STAT, _ => { s with host.logDrop := 0, host.logTotal := 0 }
  | .PAT_ERR_T, _ | .PAT_ERR_S, _ | .PAT_ERR_O, _ | .PAT_ERR_G, _ =>
    let s := s.rcClear r a
    s.each (latchedBy r.id is) fun b s => (s.baseAdd b F.PAT_BITS_CNT).setF b F.PAT_BITS_CNT 0
  | _, _ => s.rcClear r a

/-! ## The global error log (R613) -/

/-- An entry as GLB_ERR_A shows it. -/
def LogEntry.word (e : LogEntry) : Word :=
  putFs 0 [(F.GLB_ERR_A_OFFSET, e.off), (F.GLB_ERR_A_CAUSE, e.cause), (F.GLB_ERR_A_WRITE, bit e.write),
    (F.GLB_ERR_A_SOURCE, bit e.fw), (F.GLB_ERR_A_SIZE, e.size), (F.GLB_ERR_A_DOMAIN, e.dom), (F.GLB_ERR_A_VALID, 1),
    (F.GLB_ERR_A_BAR, e.bar)]

/-- The oldest entry leaves the log: the word of GLB_ERR_A, and the state with GLB_ERR_B and GLB_ERR_C latched. -/
def State.logPop (s : State) : Word × State :=
  match s.host.log with
  | [] => (0, { s with host.logB := 0, host.logC := 0 })
  | e :: l => (e.word, { s with
      host.log := l, host.logB := BitVec.ofNat 64 (e.tick % 2 ^ 48), host.logC := e.data })

/-! ## Reads -/

/-- A register returns the value that its latching register latched. -/
def State.isLatched (s : State) (a : Nat) : Bool := (Tab.get (fun _ => none) s.host.latch a).isSome

/-- The word of a read that captures, latches and clears: the 8-byte read, or the low-half read.  A read that returns a latched value
captures nothing: the latching read did (R14, R581; DEDUCED, log entry 115). -/
def State.readWord (s : State) (r : RegDef) (is : List Nat) (a cyc : Nat) : Word × State :=
  if r.id = .GLB_ERR_A then s.logPop
  else
    let t := s.latchAll cyc (latchedBy r.id is)
    (s.regView r is a cyc, if s.isLatched a then t else t.captures r is a)

/-- Read data returns to the host. -/
def State.readData (s : State) (v : Word) (n : Nat) : State := { s with host.rdData := .data v n }

/-- The half-read shadow. -/
def State.setShadow (s : State) (x : Option Shadow) : State := { s with host.shadow := x }

/-- A read of a block whose domain is not On (R465). -/
def State.offRead (s : State) (a n d : Nat) : State :=
  let s := s.offAccess a d (sizeCode n) false false 0
  let s := s.setShadow (if n ≤ 4 ∧ a % 8 < 4 then some ⟨a / 8 * 8, 0x0FF00FF0⟩ else none)
  s.readData (BitVec.ofNat 64 (0x0FF00FF00FF00FF0 / 2 ^ (8 * (a % 8)) % 2 ^ (8 * n))) n

/-- A read of the low half of a register, or of bytes in it (R11, R14, R606). -/
def State.lowRead (s : State) (r : RegDef) (is : List Nat) (a n cyc : Nat) : State :=
  let (w, s) := s.readWord r is (a / 8 * 8) cyc
  let s := s.setShadow (some ⟨a / 8 * 8, w.toNat / 2 ^ 32⟩)
  s.readData (BitVec.ofNat 64 (w.toNat / 2 ^ (8 * (a % 8)) % 2 ^ (8 * n))) n

/-- A read of the high half of a register, or of bytes in it (R466): the shadow, when the read just before was a low-half read of the same
register, else the live high half, which clears nothing and is logged. -/
def State.highRead (s : State) (r : RegDef) (is : List Nat) (a n cyc : Nat) : State :=
  let high := match s.host.shadow with
    | some x => if x.addr = a / 8 * 8 then some x.high else none
    | none => none
  let s := s.setShadow none
  match high with
  | some v => s.readData (BitVec.ofNat 64 (v / 2 ^ (8 * (a % 4)) % 2 ^ (8 * n))) n
  | none =>
    let w := s.regView r is (a / 8 * 8) cyc
    (s.logR a logHALF_READ (sizeCode n)).readData (BitVec.ofNat 64 (w.toNat / 2 ^ (8 * (a % 8)) % 2 ^ (8 * n))) n

/-- A read of a mapped register. -/
def State.regRead (s : State) (r : RegDef) (is : List Nat) (a n cyc : Nat) : State :=
  if n = 8 then
    let (w, s) := s.readWord r is a cyc
    (s.setShadow none).readData w 8
  else if a % 8 < 4 then s.lowRead r is a n cyc
  else s.highRead r is a n cyc

/-- A naturally aligned read of 1, 2, 4 or 8 bytes. -/
def sizeOk (a n : Nat) : Bool := (n == 1 || n == 2 || n == 4 || n == 8) && a % n == 0

/-- A read of BAR0 (R604 to R607), `cyc` cycles after the tick edge. -/
def State.busRead (s : State) (a n cyc : Nat) : State :=
  if !sizeOk a n then
    { (s.logR a logSIZE (sizeCode n)).setShadow none with host.rdData := .unsupported }
  else match s.blockedBy a with
    | some d => s.offRead a n d
    | none => match regAt (a / 8 * 8) with
      | some (r, is) => s.regRead r is a n cyc
      | none => (s.setShadow none).readData 0 n

/-! ## The rows -/

/-- LOW_HALF_READ (R11): a read of `size` bytes in the low half of a register. -/
def execLowHalfRead (addr size : Nat) (s : State) : Host.Outcome State Fault Refusal :=
  .next (s.busRead addr size 0)

/-- HIGH_HALF_READ (R466): a read of `size` bytes in the high half of a register. -/
def execHighHalfRead (addr size : Nat) (s : State) : Host.Outcome State Fault Refusal :=
  .next (s.busRead addr size 0)

/-- CAPTURING_READ (R14): an 8-byte read. -/
def execCapturingRead (addr : Nat) (s : State) : Host.Outcome State Fault Refusal := .next (s.busRead addr 8 0)

/-- LATCHING_READ (R607): an 8-byte read, or a low-half read, of a latching register, `cyc` cycles after the tick edge. -/
def execLatchingRead (addr : Nat) (half : Bool) (cyc : Fin 6250) (s : State) : Host.Outcome State Fault Refusal :=
  .next (s.busRead addr (if half then 4 else 8) cyc)

/-- ERR_LOG_READ (R613): an 8-byte read, or a low-half read, of GLB_ERR_A. -/
def execErrLogRead (half : Bool) (s : State) : Host.Outcome State Fault Refusal :=
  .next (s.busRead R.GLB_ERR_A (if half then 4 else 8) 0)

/-- UNSUPPORTED_READ (R606): a read of another size, or one that is not naturally aligned. -/
def execUnsupportedRead (addr size : Nat) (s : State) : Host.Outcome State Fault Refusal :=
  .next (s.busRead addr size 0)

end Sys2Proof.Machine
end

