-- ==== Sys2Proof/Machine/RegWrite.lean ====
section
/-!
DEFINITION. Writes to BAR0 (chapters 1 and 18): the merge buffer (R12), the checks at arrival (R13, R16, R67, R425, R465, R605, R606),
the conditions of the owning rules (R612, R636), what acts at once, and what waits for the tick edge (R47) with its landing there.
-/

namespace Sys2Proof.Machine

/-! ## Reserved encodings (R16) -/

/-- The bits of a field. -/
def fldMask (x : Fld) : Word := maskW x.w <<< x.lo

/-- A write touches a field. -/
def touches (x : Fld) (m : Word) : Bool := decide (fldMask x &&& m ≠ 0)

/-- A field of a written word carries an encoding that its table reserves. -/
def FieldDef.reserved (x : FieldDef) (new m : Word) : Bool :=
  (x.acc.staged || x.acc == Acc.wo) && !x.legal.isEmpty && touches x.fld m
    && !x.legal.any fun y => decide (y.1 ≤ x.fld.of new) && decide (x.fld.of new ≤ y.2)

/-- TRIG_CTL.ARG names something that the action acts on (R74, R594). -/
def trigArgOk (act arg : Nat) : Bool :=
  match act with
  | 1 => decide (arg < 512)
  | 2 => decide (arg < 144)
  | 3 => decide (arg < 32)
  | 4 => decide (arg < 16)
  | 5 => decide (arg < 2)
  | _ => true

/-- An event number names an event (R588). -/
def perfEventOk (ev : Nat) : Bool :=
  let i := ev % 256
  match ev / 256 with
  | 0 | 1 | 2 => decide (i < 144)
  | 3 | 4 | 5 | 6 | 7 | 8 => true
  | 9 => decide (i % 16 < 6)
  | 10 => decide (i < 24) || (decide (32 ≤ i) && decide (i < 56)) || (decide (64 ≤ i) && decide (i < 88))
  | 11 => decide (i < 9)
  | 12 => decide (i < 3)
  | _ => false

/-- The slot-side FEC that a lane's rate permits (R240): none on a constant-bit-rate lane. -/
def slFecOk (w : Word) : Bool :=
  let fec := F.SL_CTL_FEC.of w
  let rate := F.SL_CTL_RATE.of w
  if F.SL_CTL_CBR.of w = 1 then fec == 0
  else if rate = 0 then decide (fec < 2) else if rate = 1 then decide (fec < 3) else fec == 3

/-- An entry of a housekeeping table names a channel that exists and, with CHECK, one that both converters reach (R499, R507). -/
def hkSeqOk (w : Word) : Bool :=
  let c := F.HK_SEQ_CH.of w
  decide (c < 618) && (F.HK_SEQ_CHECK.of w == 0 || c == 616 || c == 617 || decide (c < 128))

/-- Thermal levels in order, TRIP not below 105 C (R535). -/
def thermLvlOk (w : Word) : Bool :=
  let warn := signedOf 16 (F.THERM_LVL_WARN.of w)
  let crit := signedOf 16 (F.THERM_LVL_CRIT.of w)
  let trip := signedOf 16 (F.THERM_LVL_TRIP.of w)
  decide (warn < crit) && decide (crit < trip) && decide (10500 ≤ trip)

/-- A merged word obeys what its owning rule reserves beyond single fields. -/
def wordOk (id : RegId) (w : Word) : Bool :=
  match id with
  | .FRM_CTL => layoutOk 8 (F.FRM_CTL_STD_LAYOUT.of w)
  | .SG_LAYOUT => layoutOk 16 (F.SG_LAYOUT_START.of w)
  | .PAIR_CTL => decide (F.PAIR_CTL_FENCE_TICKS.of w < F.PAIR_CTL_PAIR_MISS_TICKS.of w)
  | .THERM_LVL => thermLvlOk w
  | .ENG_THERM_LVL => decide (signedOf 16 (F.ENG_THERM_LVL_ENG_WARN.of w) < signedOf 16 (F.ENG_THERM_LVL_ENG_CRIT.of w))
  | .HK_SEQ => hkSeqOk w
  | .TRIG_CTL => trigArgOk (F.TRIG_CTL_ACT.of w) (F.TRIG_CTL_ARG.of w)
  | .PERF_SEL => perfEventOk (F.PERF_SEL_EVENT.of w)
  | .PMU_SEL => (List.range 8).all fun k => decide (w.toNat / 256 ^ k % 256 < 14)
  | .SAMP_CTL => decide (F.SAMP_CTL_EVENT.of w < 14)
  | .HIST_CTL => decide (F.HIST_CTL_SRC.of w < 5)
  | .SL_CTL => slFecOk w
  | .EDAC_CH_CFG => decide (F.EDAC_CH_CFG_SPAN.of w < 3)
  | _ => true

/-- A write carries a reserved encoding (R16). -/
def RegDef.reservedIn (r : RegDef) (new m : Word) : Bool :=
  r.fields.any (fun x => x.reserved new m) || (decide (r.stagedMask &&& m ≠ 0) && !wordOk r.id new)

/-! ## Conditions of the owning rules (R612, R636) -/

/-- The frame offset and its limits (R90, R99). -/
def State.frameCtlRefused (s : State) (o : Nat) (new : Word) : Bool :=
  let cur := s.f (R.TX_FRAME_CTL o) F.TX_FRAME_CTL_OFFSET
  let ofs := F.TX_FRAME_CTL_OFFSET.of new
  (decide (ofs ≠ cur) && !s.octDark o)
    || (decide (ofs < cur) && !s.stdMode o && s.b (R.LOOP_CTL o) F.LOOP_CTL_EN
      && decide (ofs < s.f (R.LOOP_CTL o) F.LOOP_CTL_PHASE_LIM))

/-- Loop timing needs an offset of at least PHASE_LIM (R99). -/
def State.loopCtlRefused (s : State) (o : Nat) (new : Word) : Bool :=
  !s.stdMode o && F.LOOP_CTL_EN.of new == 1
    && (!s.b (R.LOOP_CTL o) F.LOOP_CTL_EN || decide (s.f (R.LOOP_CTL o) F.LOOP_CTL_PHASE_LIM < F.LOOP_CTL_PHASE_LIM.of new))
    && decide (s.f (R.TX_FRAME_CTL o) F.TX_FRAME_CTL_OFFSET < F.LOOP_CTL_PHASE_LIM.of new)

/-- The line mode and layout change only on a dark octet without clients (R194). -/
def State.frmCtlRefused (s : State) (o : Nat) (new : Word) : Bool :=
  let w := s.reg (R.FRM_CTL o)
  (decide (F.FRM_CTL_MODE.of new ≠ F.FRM_CTL_MODE.of w) || decide (F.FRM_CTL_STD_LAYOUT.of new ≠ F.FRM_CTL_STD_LAYOUT.of w))
    && !s.octFree o

/-- A slot lane is bound to a client in either direction (R246). -/
def State.laneBound (s : State) (g i : Nat) : Bool :=
  s.b (R.SL_STAT g i) F.SL_STAT_RX_BOUND || s.b (R.SL_STAT g i) F.SL_STAT_TX_BOUND

/-- The bounds of a PHY move only while its lanes are off and unbound (R241, R246). -/
def State.layoutRefused (s : State) (g : Nat) (new : Word) : Bool :=
  (List.range 16).any fun i =>
    decide (s.phy g i ≠ phyLanes 16 (F.SG_LAYOUT_START.of new) i)
      && (s.b (R.SL_CTL g i) F.SL_CTL_EN || s.laneBound g i)

/-- The rate, FEC and kind of a bound lane stay (R246). -/
def State.slCtlRefused (s : State) (g i : Nat) (new : Word) : Bool :=
  let w := s.reg (R.SL_CTL g i)
  s.laneBound g i && (decide (F.SL_CTL_RATE.of new ≠ F.SL_CTL_RATE.of w) || decide (F.SL_CTL_FEC.of new ≠ F.SL_CTL_FEC.of w)
    || decide (F.SL_CTL_CBR.of new ≠ F.SL_CTL_CBR.of w))

/-- A span changes only on a channel that no ramp and no lit lane owns (R489); `cur` is the word that reads back. -/
def State.spanRefused (s : State) (c : Nat) (cur new : Word) : Bool :=
  decide (F.EDAC_CH_CFG_SPAN.of new ≠ F.EDAC_CH_CFG_SPAN.of cur)
    && (s.owner c == 2
      || (s.owner c == 1 && (let t := s.txState (chOct c) (c / 3 % 9); t != 0 && t != 6)))

/-- Equaliser coefficients: not the active bank, and not while adaptation writes the shadow bank (R132). -/
def State.coefRefused (s : State) (o l b : Nat) : Bool :=
  decide (b = s.f (R.FFE_STAT o l) F.FFE_STAT_ACTIVE_BANK) || decide (s.adapt o l = 1)

/-- A reference that shows no edge cannot be selected (R61). -/
def State.refSelRefused (s : State) (new m : Word) : Bool :=
  touches F.TS_CTL_REF_SEL m && !s.refOk (F.TS_CTL_REF_SEL.of new)

/-- Sampling needs a telemetry ring (R593). -/
def State.sampRefused (s : State) (new : Word) : Bool :=
  F.SAMP_CTL_EN.of new == 1 && (s.ring (F.SAMP_CTL_RING.of new)).typ != 4

/-- The bits of a write to a capture register that R187 judges: every field but ARM. -/
def capBits (r : RegDef) (bytes : Word) : Word :=
  r.maskOf (fun _ => true) &&& bytes &&& ~~~(if r.id = .FEC_CAP_CTL then fldMask F.FEC_CAP_CTL_ARM else 0)

/-- The tap sum of a transmit filter is within 24/64 (R86). -/
def firOk (w : Word) : Bool :=
  decide ((signedOf 6 (F.TX_FIR_PRE.of w)).natAbs + (signedOf 6 (F.TX_FIR_POST.of w)).natAbs ≤ 24)

/-- A level target or channel-model field is written while its adaptation runs (R141). -/
def State.lvlRefused (s : State) (o l : Nat) (x : Fld) : Bool := s.b (R.TRL_CTL o l) x

/-- Why the owning rule does not accept a write (R612): REFUSED, or VALUE for values out of range or order.  `cur` is the word that
reads back under R48, `new` the merged word, `m` the bits written. -/
def State.writeRefusal (s : State) (id : RegId) (is : List Nat) (cur new m : Word) : Option Nat :=
  let no := fun (b : Bool) => if b then some logREFUSED else none
  let val := fun (b : Bool) => if b then none else some logVALUE
  match id, is with
  | .TX_FRAME_CTL, [o] => no (s.frameCtlRefused o new)
  | .LOOP_CTL, [o] => no (s.loopCtlRefused o new)
  | .FRM_CTL, [o] => no (s.frmCtlRefused o new)
  | .SG_LAYOUT, [g] => no (s.layoutRefused g new)
  | .SL_CTL, [g, i] => no (s.slCtlRefused g i new)
  | .TX_DAC_LVL, _ => val (risingCodes (lvlCodes new))
  | .TX_FIR, _ => val (firOk new)
  | .TRL_LVL, [o, l] => if s.lvlRefused o l F.TRL_CTL_LVL_ADAPT then some logREFUSED else val (lvlOk new)
  | .TRL_CH, [o, l] => no (s.lvlRefused o l F.TRL_CTL_CH_ADAPT)
  | .ADC_CAL, [o, l, _] => no (s.b (R.ADC_BG_CTL o l) F.ADC_BG_CTL_EN)
  | .FFE_COEF, [o, l, b, _] => no (s.coefRefused o l b)
  | .EDAC_CH_CFG, [c] => no (s.spanRefused c cur new)
  | .EDAC_RAMP_CTL, [k] => no (s.ramp k).isSome
  | .EDAC_RAMP_ENT, [k, _] => no (s.ramp k).isSome
  | .HALY_SHARE, [o] => no (s.b (R.HALY_CTL o) F.HALY_CTL_EN)
  | .TS_CTL, _ => no (s.refSelRefused new m)
  | .SAMP_CTL, _ => no (s.sampRefused new)
  | .CAP_CFG, _ => val (F.CAP_CFG_SRC.of new == 0 || decide (F.CAP_CFG_LEN.of new ≤ 512))
  | .DOM_SET_SEC, [d] => no (d == s.time.active)
  | .DOM_ADJ, [d] => val (s.domAdjOk d new.toInt)
  | _, _ => none

/-- A register of a domain that the other owner steers (R67). -/
def State.notOwner (s : State) (id : RegId) (is : List Nat) (fw : Bool) : Bool :=
  match id, is with
  | .DOM_INCR, [d] | .DOM_ADJ, [d] | .DOM_SET_SEC, [d] => !s.domOwner d fw
  | _, _ => false

/-- The bits that are read-only in this instance (R548). -/
def readOnlyHere (id : RegId) (is : List Nat) : Word :=
  match id, is with
  | .PWR_DOM_WAKE, [d] => if sigSource d then 0 else fldMask F.PWR_DOM_WAKE_SIG_EN
  | .LAUNCH, [_, _, 0] => ~~~(0 : Word)
  | _, _ => 0

/-! ## Writes that act at once -/

/-- A write of 1 to GLB_LOCK.LOCK (R611): every RWL field becomes read-only, and split writes are closed (R463). -/
def State.lockSet (s : State) : State :=
  if s.b R.GLB_LOCK F.GLB_LOCK_LOCK then s
  else (s.setFs R.GLB_LOCK [(F.GLB_LOCK_LOCK, 1), (F.GLB_LOCK_TICK, s.tick % 2 ^ 48)]).testEnd

/-- RING_OP starts its operation on the staging registers (R374). -/
def State.ringOpWrite (s : State) (w : Word) : State :=
  let r := F.RING_OP_RING.of w
  let h := F.RING_OP_HEAD.of w
  match F.RING_OP_OP.of w with
  | 0 => s.ringRead r
  | 1 => s.ringCreate r
  | 2 => s.ringDestroy r
  | _ => if s.resyncOk r h then (s.resync r h (s.f R.RING_CTX_C F.RING_CTX_C_INIT_HSEQ)).ringOpDone r 0 else s.ringOpDone r errBAD

/-- Staging registers of the indirect windows take writes at once (R615). -/
def stagingReg (id : RegId) : Bool :=
  [RegId.RING_CTX_A, .RING_CTX_B, .RING_CTX_C, .MEM_TEST_DATA, .MEM_TEST_CHK, .SEC_FLASH_ADDR, .SEC_FLASH_DATA].contains id

/-- A write of 1 to a W1C or W1S bit, within the bytes written (R12, R13). -/
def State.bitWrite (s : State) (id : RegId) (is : List Nat) (new m : Word) : State :=
  let one := fun (x : Fld) => touches x m && x.of new == 1
  match id, is with
  | .GLB_LOCK, _ => if one F.GLB_LOCK_LOCK then s.lockSet else s
  | .TRIG_CTL, [k] => if one F.TRIG_CTL_LATE then s.setF (R.TRIG_CTL k) F.TRIG_CTL_LATE 0 else s
  | .IN_STORM, _ => s.stormClear (F.IN_STORM_STORM.of (new &&& m))
  | .HK_SEQ_CTL, [h] => if one F.HK_SEQ_CTL_RESTART then s.hkRestart h else s
  | .FEC_CAP_CTL, [o] => if one F.FEC_CAP_CTL_ARM then s.setF (R.FEC_CAP_CTL o) F.FEC_CAP_CTL_ARM 1 else s
  | _, _ => s

/-- One accepted access: the word, the byte offset, the merged word, the bytes written, the source and the size code. -/
structure Access where
  addr : Nat
  off : Nat
  new : Word
  bytes : Word
  fw : Bool
  size : Nat
  deriving DecidableEq, Repr

/-- A write waits for the next tick edge (R47). -/
def State.stageAccess (s : State) (x : Access) (m : Word) : State :=
  if m = 0 then s else { s with host.regQ := s.host.regQ ++ [⟨x.addr, x.off, m, x.new &&& m, x.fw, x.size⟩] }

/-- The effect of an accepted write. -/
def State.writeAct (s : State) (r : RegDef) (is : List Nat) (x : Access) (m : Word) : State :=
  match r.id, is with
  | .RING_OP, _ => if touches F.RING_OP_OP x.bytes then s.ringOpWrite x.new else s
  | .SEC_FLASH_CTL, _ => if touches F.SEC_FLASH_CTL_OP x.bytes then s.flashCtl x.new x.size x.fw else s
  | .MEM_TEST_CTL, _ => if touches F.MEM_TEST_CTL_OP x.bytes then s.memTestCtl x.new x.size x.fw else s
  | .CHK_CTL, [c] => if touches F.CHK_CTL_START x.bytes then s.chkCtl c x.size x.fw x.new else s
  | .CHK_DATA, [c] => s.chkData c x.size x.fw x.new
  | .CHK_TAIL, [c] => s.chkTail c x.size x.fw x.new
  | .CHK_VAL, [c] => s.chkVal c x.size x.fw x.new
  | .TRIG_TIME_NS, [k] => s.trigNsWrite k x.new
  | .TRIG_TIME_SEC, [k] => s.trigSecWrite k x.fw x.new
  | .DOM_ADJ, _ => s.stageAccess x (maskW 64)
  | .DOM_SET_SEC, _ => if touches F.DOM_SET_SEC_SEC x.bytes then s.stageAccess x (maskW 48) else s
  | .HIST_CTL, _ => s.stageAccess x (m ||| (fldMask F.HIST_CTL_CLEAR &&& x.bytes &&& x.new))
  | .FEC_CAP_CTL, _ => (s.bitWrite r.id is x.new x.bytes).stageAccess x (m ||| (fldMask F.FEC_CAP_CTL_ARM &&& x.bytes &&& x.new))
  | id, _ =>
    if stagingReg id then s.setReg x.addr ((s.reg x.addr &&& ~~~m) ||| (x.new &&& m))
    else (s.bitWrite id is x.new x.bytes).stageAccess x m

/-! ## Arrival -/

/-- RWL bits that GLB_LOCK keeps from being written (R13, R611). -/
def State.lockedBits (s : State) (r : RegDef) (bytes : Word) : Word :=
  if s.b R.GLB_LOCK F.GLB_LOCK_LOCK then r.maskOf (· == Acc.rwl) &&& bytes else 0

/-- An armed codeword capture keeps its set-up and its entries (R187). -/
def State.capWriteRefused (s : State) (id : RegId) (is : List Nat) (m : Word) : Bool :=
  match id, is with
  | .FEC_CAP_CTL, [o] | .FEC_CAP_ERR, o :: _ => decide (m ≠ 0) && s.b (R.FEC_CAP_CTL o) F.FEC_CAP_CTL_ARM
  | _, _ => false

/-- A host write to a mirrored register, on a device that does not hold PAIR_LOCK (R425). -/
def State.notHolder (s : State) (x : StagedWrite) : Bool := mirrored x.addr && !x.fw && !s.holdsLock

/-- A write to a register: `d` holds the written bytes in their places, `bytes` marks them.  A write that carries a reserved encoding is
logged RESERVED alone, whatever RWL fields it touches; a narrow write that carries some bytes of a WO field acts on the field with its
other bits 0 (log entry 116). -/
def State.regWrite (s : State) (r : RegDef) (is : List Nat) (a off : Nat) (d bytes : Word) (fw : Bool) (size : Nat) : State :=
  let cur := s.regLive r is a 0
  let cur := cur &&& ~~~(r.maskOf (· == Acc.wo))
  let new := (cur &&& ~~~bytes) ||| (d &&& bytes)
  let lk := s.lockedBits r bytes
  let m := r.stagedMask &&& bytes &&& ~~~(lk ||| readOnlyHere r.id is)
  let kept := (new &&& ~~~lk) ||| (cur &&& lk)
  if r.id = .SL_CTL ∧ (s.writeRefusal r.id is cur kept m).isSome = true then s.logW off logREFUSED size fw new
  else if r.reservedIn new bytes then s.logW off logRESERVED size fw new
  else
    let s := if lk = 0 then s else s.logW off logLOCKED size fw new
    if lk ≠ 0 ∧ m = 0 then s
    else if s.notHolder ⟨a, off, m, new, fw, size⟩ then s.logW off logREFUSED size fw new
    else if s.notOwner r.id is fw then s.logW off logREFUSED size fw new
    else if s.capWriteRefused r.id is (capBits r bytes) then s.logW off logREFUSED size fw new
    else match s.writeRefusal r.id is cur kept m with
      | some c => s.logW off c size fw new
      | none => s.writeAct r is ⟨a, off, kept, bytes, fw, size⟩ m

/-- The part of a write that lies in one 8-byte word (R605, R465). -/
def State.wordWrite (s : State) (a : Nat) (b : List Byte) (fw : Bool) : State :=
  let sh := 8 * (a % 8)
  let d : Word := BitVec.ofNat 64 (ofLeBytes b) <<< sh
  let bytes : Word := maskW (8 * b.length) <<< sh
  let size := sizeCode b.length
  match s.blockedBy a with
  | some k => s.offAccess a k size true fw d
  | none => match regAt (a / 8 * 8) with
    | some (r, is) => s.regWrite r is (a / 8 * 8) a d bytes fw size
    | none => s.logW a logUNMAPPED size fw d

/-- The words that a write covers, in ascending address order (R606). -/
def wordParts : Nat → Nat → List Byte → List (Nat × List Byte)
  | 0, _, _ => []
  | n + 1, a, b => if b.isEmpty then [] else (a, b.take (8 - a % 8)) :: wordParts n (a / 8 * 8 + 8) (b.drop (8 - a % 8))

/-- A write to BAR0 (R606): discarded whole unless it is a naturally aligned access of 1, 2, 4 or 8 bytes in each word it covers. -/
def State.busWrite (s : State) (a : Nat) (b : List Byte) (fw : Bool) : State :=
  let parts := wordParts b.length a b
  if b.isEmpty then s
  else if (b.length ≤ 8 ∧ sizeOk a b.length = false) ∨ parts.any (fun p => !sizeOk p.1 p.2.length) = true then
    s.logW a logSIZE (sizeCode b.length) fw (BitVec.ofNat 64 (ofLeBytes (b.take 8)))
  else s.each parts fun p s => s.wordWrite p.1 p.2 fw

/-- An 8-byte write. -/
def State.write8 (s : State) (a : Nat) (v : Word) (fw : Bool) : State := s.busWrite a (leBytes 8 v.toNat) fw

/-- REGISTER_WRITE (R12): a BAR0 write of the host, or of firmware. -/
def execRegisterWrite (addr : Nat) (bytes : List Byte) (fw : Bool) (s : State) : Host.Outcome State Fault Refusal :=
  .next (s.busWrite addr bytes fw)

/-- FEC_CAP_ARM (R187): an 8-byte write to FEC_CAP_CTL with ARM set. -/
def execFecCapArm (o : Fin 16) (v : BitVec 64) (s : State) : Host.Outcome State Fault Refusal :=
  .next (s.write8 (R.FEC_CAP_CTL o) (F.FEC_CAP_CTL_ARM.put v 1) false)

/-- SPAN_WRITE (R488): an 8-byte write to EDAC_CH_CFG; it lands at the next tick edge. -/
def execSpanWrite (ch : Fin 432) (v : BitVec 64) (s : State) : Host.Outcome State Fault Refusal :=
  .next (s.write8 (R.EDAC_CH_CFG ch) v false)

/-- GLB_LOCK_SET (R611): an 8-byte write of 1 to GLB_LOCK. -/
def execGlbLockSet (s : State) : Host.Outcome State Fault Refusal := .next (s.write8 R.GLB_LOCK 1 false)

/-! ## Landing at a tick edge (R47, R636) -/

/-- What the landing of a register's new value does beyond the value itself. -/
def State.landTime (s : State) (id : RegId) (is : List Nat) (new m : Word) : State :=
  match id, is with
  | .TS_CTL, _ => if touches F.TS_CTL_REF_SEL m then s.refSwitch (F.TS_CTL_REF_SEL.of new) else s
  | .TRIG_CTL, [k] => if touches F.TRIG_CTL_ARM m && F.TRIG_CTL_ARM.of new == 1 then
      { s with time.trigFired := Tab.erase s.time.trigFired k } else s
  | _, _ => s

/-- The frame mode has changed (R217): per-lane clock recovery in standard mode, and in Forist mode where LC is retired or a conversion has
been made; the lanes acquire anew. -/
def State.clkModeSet (s : State) (o : Nat) (std : Bool) : State :=
  let s := s.setB (R.ACQ_STAT o) F.ACQ_STAT_CLK_MODE (std || s.rxRetired o 8 || decide (s.convRx o = 4 ∨ s.convRx o = 5))
  let s := if std then s.setF (R.ACQ_STAT o) F.ACQ_STAT_TONE_LOCK 0 else s
  s.each (lanes9.filter fun l => s.acqState o l != 0 && s.acqState o l != 9) fun l s => s.acqWait o l

/-- The same for the line side. -/
def State.landLine (s : State) (id : RegId) (is : List Nat) (old new : Word) : State :=
  match id, is with
  | .MON_CTL, [o, l] => if old = new then s else s.monRestart o l
  | .RX_AFE_CTL, [o, l] => if F.RX_AFE_CTL_GAIN.of old = F.RX_AFE_CTL_GAIN.of new then s else s.monRestartSrc o l
  | .FRM_CTL, [o] => if F.FRM_CTL_MODE.of old = F.FRM_CTL_MODE.of new then s
      else s.clkModeSet o (F.FRM_CTL_MODE.of new == 1)
  | .TONE_CTL, [o] => if F.TONE_CTL_TONE_EN.of new = 0 ∧ F.TONE_CTL_TONE_EN.of old = 1 ∧ s.stdMode o = false then s.halCut o false else s
  | .HALY_CTL, [o] => if F.HALY_CTL_EN.of new = 0 ∧ F.HALY_CTL_EN.of old = 1 then
      let s := s.halCut o false
      (s.setHal o { s.hal o with seen := [] }).halStop o
      else s
  | .FLT_CTL_O, [o] => if F.FLT_CTL_O_EN.of new = 0 then (s.each lanes9 fun l s => s.fltDisarm 0 o l).fltDisarm 2 o 0 else s
  | .FLT_CTL_G, [g] => if F.FLT_CTL_O_EN.of new = 0 then s.each (List.range 16) fun i s => s.fltDisarm 1 g i else s
  | _, _ => s

/-- The same for engine control, power and the instruments. -/
def State.landOther (s : State) (id : RegId) (is : List Nat) (a : Nat) (old new m : Word) : State :=
  match id, is with
  | .EDAC_CH_CFG, [c] => if F.EDAC_CH_CFG_SPAN.of old = F.EDAC_CH_CFG_SPAN.of new then s else s.spanStart c
  | .EDAC_CTL, _ => State.clearChange (s.setReg a old) s 2
  | .EDAC_CLR, [c] => s.followClear c
  | .REEF_CTL, _ => if F.REEF_CTL_EN.of new = 0 ∧ s.reefStage ≠ 0 then s.reefDisable else s
  | .PERF_SEL, [n] => if old = new then s else s.setReg (R.PERF_CNT n) 0
  | .PMU_SEL, [c] => s.each (List.range 8) fun k s =>
      if old.toNat / 256 ^ k % 256 = new.toNat / 256 ^ k % 256 then s
      else s.setReg (R.PMU_CNT c k) 0
  | .HIST_CTL, [u] => if touches F.HIST_CTL_CLEAR m then s.histClear u else s
  | _, _ => s

/-- A poisoned word is whole again when it is written (R454, R458): its other fields take firmware's copy. -/
def State.unpoison (s : State) (a : Nat) : State :=
  match Tab.get (fun _ => none) s.mem.bad a with
  | some w => { s with mem.bad := Tab.erase s.mem.bad a }.mergeReg a (tableMask a) w
  | none => { s with mem.corr := s.mem.corr.erase a }

/-- An accepted value takes effect; a mirrored register goes into the MIRROR of the tick (R424). -/
def State.landValue (s : State) (r : RegDef) (is : List Nat) (a : Nat) (old new m : Word) : State :=
  let s := s.setReg a new
  let s := ((s.landTime r.id is new m).landLine r.id is old new).landOther r.id is a old new m
  if mirrored a then { s with pair.setupOut := s.pair.setupOut ++ [(a, s.reg a)] } else s

/-- The bits that land at an edge: ARM has been set at the write. -/
def landMask (id : RegId) (m : Word) : Word := if id = .FEC_CAP_CTL then m &&& ~~~(fldMask F.FEC_CAP_CTL_ARM) else m

/-- The set-up of a codeword capture lands unarmed, or armed by the very write that carries it (R187, R636; log entry 116). -/
def State.capLandRefused (s : State) (id : RegId) (is : List Nat) (x : StagedWrite) : Bool :=
  match id, is with
  | .FEC_CAP_CTL, [o] => s.b (R.FEC_CAP_CTL o) F.FEC_CAP_CTL_ARM && !touches F.FEC_CAP_CTL_ARM x.mask
  | _, _ => false

/-- A staged write to a register reaches its edge: judged again (R636), against the values in force. -/
def State.landReg (s : State) (r : RegDef) (is : List Nat) (x : StagedWrite) : State :=
  match r.id, is with
  | .DOM_SET_SEC, [d] =>
    if s.domOwner d x.fw && d != s.time.active then s.domSetSec d x.val.toNat else s.logW x.off logREFUSED x.size x.fw x.val
  | .DOM_ADJ, [d] =>
    if s.domOwner d x.fw && s.domAdjOk d x.val.toInt then s.domAdj d x.val.toInt else s.logW x.off logREFUSED x.size x.fw x.val
  | _, _ =>
    let s := s.unpoison x.addr
    let old := s.reg x.addr
    let mask := landMask r.id x.mask
    let new := (old &&& ~~~mask) ||| (x.val &&& mask)
    if (s.writeRefusal r.id is old new mask).isSome || s.notOwner r.id is x.fw || s.notHolder x || s.capLandRefused r.id is x then
      s.logW x.off logREFUSED x.size x.fw new
    else s.landValue r is x.addr old new mask

/-- A staged write reaches its edge; where the domain is no longer On it is discarded (R465). -/
def State.landWrite (s : State) (x : StagedWrite) : State :=
  match s.blockedBy x.addr with
  | some d => s.offAccess x.off d x.size true x.fw x.val
  | none => match regAt x.addr with
    | some (r, is) => s.landReg r is x
    | none => s

/-- The staged writes of a tick land, in the order of their arrival; the values mirrored by the twin land with them (R424). -/
def State.landWrites (s : State) : State :=
  let q := s.host.regQ
  let m := s.pair.setupQ
  let s : State := { s with host.regQ := [], pair.setupQ := [] }
  let s := s.each m fun x s => match s.blockedBy x.1 with
    | some _ => s
    | none => match regAt x.1 with
      | some (r, is) => s.landReg r is ⟨x.1, x.1, r.stagedMask, x.2, true, 3⟩
      | none => s
  s.each q fun x s => s.landWrite x

end Sys2Proof.Machine
end

