-- ==== Sys2Proof/Machine/Tick.lean ====
section
/-!
DEFINITION. The tick edge (R43 to R58, R71): counters advance, staged writes and commands land, and every unit does what the manual gives
it to do once a tick; and the periods of the always-on oscillator that stand for ticks while the tick is stopped (R62).
-/

namespace Sys2Proof.Machine

/-! ## Time -/

/-- Cycles to the next tick edge: the first at which the output timescale reaches the next multiple of 10,000 ns (R43); none where the
tick is stopped. -/
def State.tickCycles (s : State) : Option Nat :=
  if s.time.holdover then none else s.cyclesTo ((s.time.next * unitTick * offUnit : Nat) : Int)

/-- Both counters advance by their increments (R59). -/
def State.advance (s : State) (cyc : Nat) : State :=
  let a := s.cntAt 0 cyc
  let b := s.cntAt 1 cyc
  (s.setCnt 0 a).setCnt 1 b

/-- The edge carries its number, and what belongs to one tick starts anew. -/
def State.edge (s : State) : State :=
  { s with
    time.tick := s.time.next
    time.edge := s.time.next
    time.next := s.time.next + 1
    time.planHeld := s.time.skipPlan
    time.skipPlan := false
    time.atLimit := []
    time.deadline := false
    host.offPosted := false
    mem.posted := []
    obs.slipPosted := [] }

/-- PPS_OUT at a tick edge (R71): fields are taken at a second boundary, and the pin rises OFFSET_NS after it, in the tick that holds that
instant. -/
def State.ppsTick (s : State) : State :=
  let s := if s.tickIdx = 0 then
      { s with
        time.ppsEn := s.b R.PPS_OUT_CTL F.PPS_OUT_CTL_EN
        time.ppsWidth := s.f R.PPS_OUT_CTL F.PPS_OUT_CTL_WIDTH_TICKS
        time.ppsOfs := s.f R.PPS_OUT_CTL F.PPS_OUT_CTL_OFFSET_NS }
    else s
  let high := if !s.time.ppsEn then 0
    else if s.tickIdx = s.time.ppsOfs / 10000 then s.time.ppsWidth else s.time.ppsHigh - 1
  { s with time.ppsHigh := high }

/-- TRIG_OUT pins count down (R75). -/
def State.pinTick (s : State) : State :=
  { s with time.trigPin := (s.time.trigPin.map fun (e : Nat × Nat) => (e.1, e.2 - 1)).filter fun e => e.2 != 0 }

/-! ## Lanes at the edge -/

/-- The lanes of an octet: codes of ramps, muting, and the requests that waited for a ramp's end. -/
def State.octLanes (s : State) (o : Nat) : State :=
  if !s.octOn o then s
  else
    let s := s.each lanes9 fun l s => s.laneTick o l
    s.each lanes9 fun l s => (s.laneStart o l).launchPending o l

/-- The synthesisers of an octet: a start due at this edge, and a calibration that a temperature trigger asked for. -/
def State.octSyn (s : State) (o : Nat) : State :=
  let s := s.synEdge o
  if (s.txo o).calNext && s.octOn o then (State.synCal (s.setTxo o { s.txo o with calNext := false }) o).1 else s

/-! ## Staged commands (R49, R52) -/

/-- The commands that apply at this edge: those deferred first, in the order of their deferral; then the others by ascending ring, in
submission order. -/
def State.dueCmds (s : State) : List StagedCmd :=
  let due := s.staged.filter fun (x : StagedCmd) => decide (x.due ≤ s.tick)
  due.filter (·.deferred) ++ (due.filter fun x => !x.deferred).mergeSort fun a b => decide (a.ring ≤ b.ring)

/-- A command that may change a calendar page. -/
def pageCmd (i : Instr) : Bool :=
  match i with
  | .clientAdd .. | .clientModify .. | .clientDelete .. => true
  | _ => false

/-- The octets for which the commands of the edge will announce a page: an agent answers by that whatever the order of the commands in the
tick (R521). -/
def State.pagesAhead (s : State) (due : List StagedCmd) : List Nat :=
  if due.all fun x => !pageCmd x.cmd then []
  else
    let t := s.each (due.filter fun x => pageCmd x.cmd) fun x s => applyCmd x.cmd s
    (List.range 16).filter fun o => (t.fo o).plan.isSome

/-- The staged commands of the tick take effect, each on the state that the one before it left.  Commands staged for a tick whose number a
backward step repeats wait for that edge (R70). -/
def State.landCmds (s : State) : State :=
  if !s.isOn domCTRL then s
  else
    let due := s.dueCmds
    let s : State := { s with staged := s.staged.filter fun (x : StagedCmd) => !decide (x.due ≤ s.tick) }
    let s : State := { s with frame.ahead := s.pagesAhead due }
    let s := s.each due fun x s => applyCmd x.cmd s
    { s with frame.ahead := [] }

/-! ## Customer tick tasks (R55, R58, R571, R572) -/

/-- The tasks that triggers start at this edge (R74). -/
def State.trigTasks (s : State) : List Nat := (s.time.trigWait.filter fun w => w.2.1 == 5).map (·.2.2)

/-- A task runs: `ns` is its run time, cut at its budget; `cause` 1 or 2 is a fault at the program counter `pc`. -/
def State.taskRun (s : State) (t ns cause pc : Nat) : State :=
  let ns := min ns (s.f (R.TASK_CFG t) F.TASK_CFG_BUDGET_NS)
  let s := { s with time.atLimit := if ns = s.f (R.TASK_CFG t) F.TASK_CFG_BUDGET_NS then t :: s.time.atLimit else s.time.atLimit }
  let s := s.incF (R.TASK_STAT t) F.TASK_STAT_RUNS 1
  let s := s.setF (R.TASK_STAT t) F.TASK_STAT_MAX_NS (max ns (s.f (R.TASK_STAT t) F.TASK_STAT_MAX_NS))
  let s := s.each (s.histUnits 4 (some t)) fun u s => s.histAdd u (s.runSample u ns)
  let s : State := { s with sec.outLeft := Tab.set (fun _ => 0) s.sec.outLeft t 8 }
  if cause = 1 ∨ cause = 2 then (s.setTask t 4).event Ev.TASK_FAULT t noLane [cause, pc] else s

/-- A task at a tick edge: a running one runs, in every tick or where a trigger asks for it, unless an overrun skips it or the control cluster
runs from the oscillator (R528).  A run that
`tasks` does not describe takes a free time (log entry 1). -/
def State.taskTick (s : State) (trig : List Nat) (tasks : List (Nat × Nat × Nat × Nat)) (t : Nat) : State :=
  let wanted := !s.b (R.TASK_CFG t) F.TASK_CFG_MODE || trig.contains t
  if s.taskState t ≠ 2 ∨ wanted = false ∨ s.b R.PWR_STAT F.PWR_STAT_CORE_CLK = false ∨ s.time.skipTask.contains t = true then s
  else match tasks.find? fun x => x.1 == t with
    | some (_, ns, cause, pc) => s.taskRun t ns cause pc
    | none =>
      let (ns, s) := s.draw 2001
      s.taskRun t ns 0 0

/-! ## The deskew store's memory (R285, R588) -/

/-- An access on a trained channel whose EDC failed `n` times in a row (R293): it is retried up to EDC_RETRY times, each failed try counts,
and once the retries are exhausted its word is uncorrectable (R285). -/
def State.gdAccess (s : State) (ch n c w : Nat) : State :=
  if s.isOn domGDDR && decide (ch < 24) && s.b (R.GD_CH_STAT ch) F.GD_CH_STAT_TRAINED then
    let most := s.f R.GD_CTL F.GD_CTL_EDC_RETRY
    let k := min n (most + 1)
    let s := (s.incF (R.GD_CH_CNT ch) F.GD_CH_CNT_EDC_ERR k).perf (0xA00 + ch) k
    if n ≤ most then s
    else
      let s := s.incF (R.GD_CH_CNT ch) F.GD_CH_CNT_RETRY_FAIL 1
      if s.defined c then s.storePoison c w else s
  else s

/-- Store groups of clients in PROTECTED whose words the model does not hold: free counts for the event counters (log entry 1). -/
def State.gdTick (s : State) (ch : Nat) : State :=
  if s.isOn domGDDR && s.b (R.GD_CH_STAT ch) F.GD_CH_STAT_TRAINED
      && s.classB.any fun c => s.protState c == 3 && (s.path c).wr == 0 then
    (s.perfFree (0xA20 + ch) (2 ^ 20)).perfFree (0xA40 + ch) (2 ^ 20)
  else s

/-- The data that passed in the tick that ends: sent by standard-mode lanes, in at slot PHYs, in GDDR6, and the fill of buffers. -/
def State.dataIn (s : State) (x : TickIn) : State :=
  let s := s.each x.send fun e s => s.stdSend (e.1 / 9) (e.1 % 9) e.2
  let s := s.each (List.range 16) fun o s => s.stdClips o x.send
  let s := s.each x.slot fun e s => s.slotIn e.1 e.2
  let s := s.each x.chk fun e s => s.patBits e.1 e.2
  let s := s.each x.edc fun e s => s.gdAccess e.1 e.2.1 e.2.2.1 e.2.2.2
  s.each x.fill fun e s => if s.defined e.1 then s.setPath e.1 { s.path e.1 with fill := some e.2 } else s

/-- The highest temperature of each die in the hour (R360). -/
def State.hourTemps (s : State) : State :=
  { s with jrn.hourTemp := (List.range 5).map fun d =>
      (d, match s.jrn.hourTemp.find? fun (e : Nat × Int) => e.1 == d with
        | some e => max e.2 (s.dieTemp d)
        | none => s.dieTemp d) }

/-! ## The parts of an edge -/

/-- What the engine DAC and the transmit path do at the edge. -/
def State.edgeTx (s : State) : State :=
  let s := (if s.sec.held then s.popAll else s.popAll.ownerReturn).rampsStep
  let s := s.each (List.range 16) fun o s => s.octLanes o
  s.each (List.range 16) fun o s => s.octSyn o

/-- A stop that is due starts at the edge (R541). -/
def State.critStart (s : State) : State :=
  match s.pwr.critPend with
  | some n => s.orderlyStart 1 n
  | none => s

/-- Writes and commands land. -/
def State.edgeLand (s : State) : State :=
  (s.refreshTick.landWrites.pwrBefore.critStart.landCmds).pwrAfter.each (List.range 4) fun k s => s.i2cNext k

/-- The receive path, acquisition, the channels and the fault managers. -/
def State.edgeRx (s : State) : State :=
  let os := List.range 16
  let s := s.each os fun o s => ((s.loopTick o).rxTick o).toneClips o
  let s := s.each os fun o s => ((s.halTick o).acqTick o).convTickTx o
  let s := s.each (pairsOf os 9) fun p s => s.fltRefresh 0 p.1 p.2
  let s := s.each (pairsOf os 16) fun p s => s.fltRefresh 1 p.1 p.2
  s.each os fun o s => s.fltRefresh 2 o 0

/-- Slot lanes, clients and the deskew store. -/
def State.edgeClients (s : State) (x : TickIn) : State :=
  let s := s.each (pairsOf (List.range 16) 16) fun p s => if s.sgOn p.1 then (s.phyTick p.1 p.2).slotTick p.1 p.2 x else s.phyTick p.1 p.2
  let s := s.reefTick.shedTick
  let s := s.each (pairsOf (List.range 16) 9) fun p s => s.reefLane p.1 p.2
  let s := s.engCritTick
  let s := s.each s.map.defined fun c s => s.clientTick c
  s.each (List.range 24) fun ch s => s.gdTick ch

/-- What firmware does in a tick: it needs the control domain. -/
def State.edgeFirmware (s : State) (x : TickIn) : State :=
  if !s.isOn domCTRL then s
  else
    let s := (s.each (pairsOf (List.range 16) 9) fun p s => s.planTick p.1 p.2).planSteps.hourTemps
    let s := if s.tick % 360000000 = 0 then { s with jrn.hourDue := true } else s
    let s := (s.each (List.range 16) fun o s => s.replanTick o).freeingTick
    let trig := s.trigTasks
    let s := s.trigTick
    let s := s.each (List.range 34) fun u s => s.trimTick x.noWindow u
    let s := s.each [0, 1] fun t s => s.taskTick trig x.tasks t
    let s := ({ s with
      time.skipTask := [], time.skipSlice := [] } : State)
    s.pmuTick.sampTick

/-- The interleave loops, after a trim result that the edge has applied (R125). -/
def State.edgeAdc (s : State) : State := s.each (List.range 16) fun o s => s.adcTick o

/-- The instruments, the pair and the records of the edge. -/
def State.edgeRecords (s : State) (x : TickIn) : State :=
  let s := (s.patTick x.chk).markTick.shrdTick
  let s := s.telemetrySnapshot.mirrorSend.stormTick
  { s.perf 0xC00 1 with pwr.page := s.statusPage }

/-- A tick edge; the pins of a stop that has sent its final MIRROR are released at the end of the tick before (R541). -/
def State.tickEdge (s : State) (x : TickIn) : State :=
  let s := s.stopPins.edge.ppsTick.pinTick
  let s := s.edgeTx.edgeLand
  let s := s.pairTick.edgeRx.edgeClients x
  (((s.edgeFirmware x).edgeAdc.edgeRecords x).testTick).jump

/-- TICK (R47).  While no reference is present, or the active increment is 0, the tick is stopped and nothing happens. -/
def execTick (x : TickIn) (s : State) : Host.Outcome State Fault Refusal :=
  if 2 ^ 64 ≤ s.time.next then .fault .tickWrap
  else
    let t := s.slew
    match t.tickCycles with
    | none => .next s
    | some cyc =>
      let t := (t.each x.line fun p s => s.rxLine (p.1 / 9) (p.1 % 9) p.2).sentClear.dataIn x
      .next (((t.each x.tp fun m s => s.tpSend m).advance cyc).tickEdge x)

/-- AON_PERIOD (R62): while the tick is stopped, a period of the always-on oscillator paces the kick, the heartbeat and the thermal scan,
and a stop that is due starts. -/
def State.aonPeriod (s : State) : State :=
  if s.time.holdover then ({ s with pwr.scanPhase := s.pwr.scanPhase + 1 } : State).stopPins.critStart else s

/-- AON_PERIOD (R62). -/
def execAonPeriod (s : State) : Host.Outcome State Fault Refusal := .next s.aonPeriod

end Sys2Proof.Machine
end

