-- ==== Sys2Proof/WellFormed.lean ====
section
/-!
DEFINITION. Well-formed commands: every argument field of a host command holds a listed encoding (R17, R401 and the command
tables of the later chapters).  What a field may hold in a given state of the device is no part of this.
-/

namespace Sys2Proof

open Sys2Proof.Machine

/-- A byte with a single defined bit. -/
def flag1 (b : BitVec 8) : Bool := decide (b.toNat < 2)

/-- An argument `x` below `n`. -/
def below {w : Nat} (x : BitVec w) (n : Nat) : Bool := decide (x.toNat < n)

/-- A host address of whole 64-byte entries. -/
def aligned64 (x : BitVec 64) : Bool := decide (x.toNat % 64 = 0)

/-- A range of rings (R399). -/
def ringSpan (first : BitVec 16) (count : BitVec 24) : Bool :=
  decide (1 ≤ count.toNat) && decide (first.toNat + count.toNat ≤ 65536)

/-- A lane of a type of pattern registers (R597): 0 line, 1 slot, 2 Shroud, 3 timing port. -/
def laneNamed (t i l : BitVec 8) : Bool :=
  if t.toNat = 0 then below i 16 && below l 9 else if t.toNat = 1 then below i 16 && below l 16
  else if t.toNat = 2 then below i 1 && below l 8 else decide (t.toNat = 3) && below i 2 && below l 1

/-- The protection settings of CLIENT_ADD and PROT_SET (R298). -/
def protOk (flags unc : BitVec 8) (hold : BitVec 16) (wtr : BitVec 32) : Bool :=
  below flags 8 && decide (0 < unc.toNat) && below hold 1024 && decide (0 < wtr.toNat)

/-- The fields of CLIENT_ADD that hold a listed encoding whatever the state is. -/
def clientAddOk (a : ClientAddArgs) : Bool :=
  below a.client 512 && below a.kind 2 && below a.cls 4 && below a.ends 4 && below a.src 16 && below a.snk 16 && below a.sinkFlags 8

/-- The fields of ENG_I2C (R511). -/
def engI2cOk (bus addr wn rn rs : BitVec 8) : Bool := below bus 4 && below addr 128 && below wn 65 && below rn 17 && flag1 rs

/-- The codes after the first `n` of EDAC_QUEUE are reserved. -/
def codesOk (n : BitVec 8) (codes : BitVec 128) : Bool := decide (codes.toNat / 2 ^ (16 * n.toNat) = 0)

/-- Every argument of a command holds a listed encoding.  True of an event row. -/
def Instr.wf : Instr → Bool
  | .audit _ first count freeze addr => ringSpan first count && flag1 freeze && aligned64 addr
  | .ringResync _ ring _ _ => decide (ring.toNat ≠ 0)
  | .timeSwitch _ d => below d 2
  | .timeStep _ a => decide (a.toNat ≠ 0)
  | .txEnable _ o l k => below o 16 && below l 9 && decide (k.toNat ≠ 0) && below k 16
  | .txStep _ o l k => below o 16 && below l 9 && decide (k.toNat ≠ 0) && below k 16
  | .txDisable _ o l force => below o 16 && below l 9 && flag1 force
  | .synCal _ o retry => below o 16 && flag1 retry
  | .ffeSwap _ o m => below o 16 && below m 512
  | .ffeMode _ o m => below o 16 && below m 2
  | .slip _ o l n coarse => below o 16 && below l 9 && flag1 coarse && (decide (coarse.toNat = 1) || (decide (n.toNat ≠ 0) && below n 64))
  | .acqRestart _ o m => below o 16 && below m 512
  | .laneRetire _ o l dir _ => below o 16 && below l 9 && below dir 2
  | .laneRestore _ o => below o 16
  | .clientAdd _ a => clientAddOk a
  | .clientModify _ c what _ auto copy _ => below c 512 && decide (1 ≤ what.toNat) && below what 3 && flag1 auto && flag1 copy
  | .clientDelete _ c => below c 512
  | .slRetrain _ g _ => below g 16
  | .protSet _ c flags unc hold wtr => below c 512 && protOk flags unc hold wtr
  | .protReq _ c q => below c 512 && below q 5
  | .halySend _ o dst path rep len addr _ =>
    below o 16 && (below dst 8 || decide (dst.toNat = 15)) && below path 4 && below rep 4 && below len 1025 && aligned64 addr
  | .trimRun _ u => below u 34
  | .jrnRead _ region _ count addr => below region 2 && decide (1 ≤ count.toNat) && below count 4097 && aligned64 addr
  | .pairTakeover _ force => flag1 force
  | .pairAudit _ first count addr => ringSpan first count && aligned64 addr
  | .shrdLoop _ mode force => below mode 4 && flag1 force
  | .fltClear _ k u l => below k 3 && below u 16 && below l (if k.toNat = 0 then 9 else if k.toNat = 1 then 16 else 256)
  | .memTest _ op die _ word _ _ => below op 3 && below die 5 && below word 32768
  | .edacQueue _ ch n flush codes => below ch 432 && decide (n.toNat ≠ 0) && below n 9 && flag1 flush && codesOk n codes
  | .edacRamp _ k => below k 16
  | .engI2c _ bus addr wn rn rs _ => engI2cOk bus addr wn rn rs
  | .pwrReq _ d t => decide (3 ≤ d.toNat) && below d 43 && below t 3
  | .reefReq _ v => below v 2
  | .pmbXfer _ entry _ wn rn page _ => below entry 32 && below wn 33 && below rn 25 && flag1 page
  | .attest _ _ addr => aligned64 addr
  | .imageWrite _ slot off len _ _ =>
    below slot 2 && decide (off.toNat % 65536 = 0) && decide (len.toNat % 65536 = 0) && below len 1048577
  | .imageCommit _ slot => below slot 2
  | .rollbackAdvance _ force => flag1 force
  | .taskLoad _ t _ _ _ => below t 2
  | .taskSet _ t action mode budget => below t 2 && below action 3 && below mode 2 && decide (500 ≤ budget.toNat) && below budget 2001
  | .patSet _ t i l gen chk sq force =>
    laneNamed t i l && below gen 11 && below chk 11 && decide (sq.toNat ≠ 0) && below sq 64 && flag1 force
  | .loopSet _ t i l loop force => laneNamed t i l && decide (t.toNat ≠ 2) && below loop 4 && flag1 force
  | .capStart _ ll src len buf => below ll 144 && below src 4 && decide (len.toNat ≠ 0) && below len 1025 && below buf 16
  | .capRead _ buf off len addr =>
    below buf 16 && decide (off.toNat % 64 = 0) && decide (len.toNat % 64 = 0) && aligned64 addr && decide (off.toNat + len.toNat ≤ 1048576)
  | .tick .. | .stagingDeadline .. | .tickStorm | .taskOverrun .. | .refclkLoss .. | .refclkReturn .. | .domSetSecWrite ..
  | .domAdjWrite .. | .slewDone | .ppsInEdge .. | .trigFire .. | .trigTimeWrite .. | .tpMessageRx .. | .synTempCheck ..
  | .synCalComplete .. | .synCalTimeout .. | .synRelock .. | .synRelockTimeout .. | .handover .. | .synAlignFail ..
  | .synUnlock .. | .synNone .. | .lockTimeout .. | .rampEnd .. | .rawLos .. | .rxChangeLand .. | .ffeAdaptUpdate ..
  | .monThreshold .. | .codewordDecode .. | .fecCapArm .. | .fecUncorr .. | .frameStart .. | .calSwitch .. | .pageAdopt ..
  | .toneLock .. | .phaseSweepEnd .. | .cdrLock .. | .cdrAcqTimeout .. | .eqSettled .. | .markerResult ..
  | .searchTimeout .. | .acqLost .. | .octAligned .. | .skewRange .. | .clkModeLand .. | .convStart .. | .halyMessageRx ..
  | .convTimeout .. | .lcToneEnd .. | .convSelect .. | .convLcFail .. | .bridgeStart .. | .anComplete .. | .anFail ..
  | .trainComplete .. | .ltFail .. | .slUp .. | .slDown .. | .recentre .. | .holdOffExpiry .. | .wtrExpiry ..
  | .subframeSelect .. | .delayExcess .. | .delayReturn .. | .dSignReverse .. | .singleTimeout .. | .tagLossTimeout ..
  | .gdTrainingDone | .gdRetrain .. | .gdChannelFail .. | .halyTxBurst .. | .halyRampDownEnd .. | .halyDetect ..
  | .halySyncFound .. | .halyHeader .. | .halyBeaconDue .. | .halyHearingLoss .. | .halyTtlExpiry .. | .halySlotStart ..
  | .trimTempCheck .. | .trimStart .. | .trimDone .. | .plannerRun | .jrnHourly | .jrnFlashWrite .. | .ringOpRead ..
  | .ringOpCreate .. | .ringOpDestroy .. | .ringOpResync .. | .sqDoorbell .. | .headDoorbell .. | .descriptorFetch ..
  | .completionWrite | .eventWrite | .telemetryWrite | .msixSignal .. | .nop .. | .linkDown | .linkUp | .functionLevelReset
  | .perstN .. | .d3hotEntry | .d0Return | .pairLockFree | .pairInitTimer | .pairLockTaken | .mirrorRx .. | .statusRx ..
  | .statusSend | .hbLost | .fence | .pairRelease .. | .releaseCheck | .pairResync .. | .shrdClockLock | .shrdLaneResult ..
  | .shrdUp .. | .shrdLaneLoss .. | .shrdAlignFail .. | .chkStart .. | .chkDataWrite .. | .chkTailWrite .. | .chkValWrite ..
  | .losLong .. | .retryTimeout .. | .memTestWrite .. | .memTestRead .. | .memTestExit .. | .tableRefresh .. | .mcheck ..
  | .inputEdge .. | .inputStorm .. | .wdtExpire | .smbusStatusRead | .spanWrite .. | .spanSettle .. | .edacRampDone ..
  | .engClrNEdge .. | .lastRamp .. | .lastRampStep | .lastRampDone | .lastRampRelease .. | .hkConversion ..
  | .hkSeqRestart .. | .i2cTransactionEnd .. | .i2cRecover .. | .pwrDelayExpiry .. | .domainEntryComplete ..
  | .domainExitComplete .. | .wakeSig .. | .wakeTick .. | .coreClk .. | .pmbPoll .. | .avsStep | .engThermRead ..
  | .orderlyStop | .orderlyStopDomainOff | .reefGrace | .reefGrace2 | .reefHold | .pwrStop .. | .powerOnReset | .resetN ..
  | .resetRelease .. | .bootTimeout .. | .vddCoreLoss | .vddAonLoss | .certRead .. | .keyUpdate .. | .flashRead ..
  | .flashProgram .. | .flashErase .. | .flashOpEnd | .patLock .. | .patLockLoss .. | .loopSlip .. | .histClear ..
  | .histSample .. | .pmuSample .. | .sampleRecord | .capStagingEnd .. | .capDone .. | .registerWrite .. | .lowHalfRead ..
  | .highHalfRead .. | .capturingRead .. | .latchingRead .. | .errLogRead .. | .unsupportedRead .. | .glbLockSet
  | .aonPeriod | .toneLoss .. | .stdAmLock .. | .convDoneRepeat .. | .halyDetectLoss .. | .slotRawLos .. | .eccError ..
  | .engSupplyWaitEnd .. | .pmbTransactionEnd .. => true

/-- A well-formed command. -/
def WellFormed (i : Instr) : Prop := i.wf = true

end Sys2Proof
end

