-- ==== Sys2Proof/Machine/Fetch.lean ====
section
/-!
DEFINITION. Fetching and accepting descriptors (R380 to R386, R49, R50), from submission rings and from the outboxes of customer tasks
(R571).
-/

namespace Sys2Proof.Machine

/-! ## Which ring is served (R380, R386) -/

/-- An SQ whose descriptor at HEAD can be fetched: in RUN, not empty, with room for the completion, and with no fence that still waits. -/
def State.fetchable (s : State) (r : Nat) : Bool :=
  let q := s.ring r
  q.typ == 1 && q.state == 1 && decide (q.held ≠ 0) && decide (0 < (s.ring q.cq).free) && !(q.fence && decide (q.outst ≠ 0))

/-- Descriptors are fetched at all: firmware is ready, the link is up, the device is in D0, and fewer than 16,384 commands are
outstanding. -/
def State.fetching (s : State) : Bool :=
  s.b R.SEC_BOOT_STAT F.SEC_BOOT_STAT_FW_READY && s.isOn domCTRL && s.canWrite && decide (s.host.outstanding < 16384)

/-- The SQs that can be served, in ascending order. -/
def State.served (s : State) : List Nat := (s.host.rings.map (·.1)).filter fun r => s.fetchable r

/-- The ring served next: ring 0 first; the others in turn, with up to 8 descriptors for each. -/
def State.nextRing (s : State) : Option Nat :=
  let rs := s.served
  if rs.contains 0 then some 0
  else if rs.contains s.host.rrRing ∧ s.host.rrCount < 8 then some s.host.rrRing
  else match rs.find? fun r => decide (s.host.rrRing < r) with
    | some r => some r
    | none => rs.head?

/-- A descriptor of a ring has been fetched. -/
def State.turn (s : State) (r : Nat) : State :=
  if r = 0 then s
  else if s.host.rrRing = r ∧ s.host.rrCount < 8 then { s with host.rrCount := s.host.rrCount + 1 }
  else { s with host.rrRing := r, host.rrCount := 1 }

/-! ## The descriptor's parts (R381) -/

/-- A byte of a descriptor, and a number in it. -/
def dByte (b : List Byte) (k : Nat) : Nat := (b.getD k 0).toNat
def dNum (b : List Byte) (k n : Nat) : Nat := ofLeBytes ((b.drop k).take n)

/-- FLAGS.EXT as fetched, and the descriptor's length in bytes. -/
def dExt (b : List Byte) : Bool := bitOf (dByte b 1) 0
def dLen (b : List Byte) : Nat := if dExt b then 128 else 64

/-- The CRC passes. -/
def dCrcOk (b : List Byte) : Bool := crc32c (b.take (dLen b - 4)) == dNum b (dLen b - 4) 4

/-- The commands that take two entries. -/
def extOp (op : Nat) : Bool := op == 0x38 || op == 0x74

/-- Every byte outside the listed arguments is 0. -/
def dReservedOk (b : List Byte) (args : List (Nat × Nat)) : Bool :=
  (List.range (dLen b - 4)).all fun k =>
    decide (k < 4) || (decide (8 ≤ k) && decide (k < 16)) || args.any (fun x => decide (x.1 ≤ k) && decide (k < x.1 + x.2))
      || dByte b k == 0

/-- The command that a descriptor spells, where check 3 of R382 passes. -/
def dCommand (ring : Nat) (c : Cmd) (b mem : List Byte) : Option Instr :=
  let op := dByte b 0
  match argRanges op, cmdOf c b mem op with
  | some args, some i =>
    let admin := op == 0x01 || op == 0x02
    if dByte b 1 < 4 && dExt b == extOp op && dReservedOk b args && i.wf && (!admin || (ring == 0 && c.eff == 0)) then some i else none
  | _, _ => none

/-! ## Acceptance (R49, R50, R383) -/

/-- Check 4 of R382 (R50). -/
def State.tickCheck (s : State) (eff : Nat) : Option Nat :=
  if eff = 0 then none
  else if eff ≤ s.tick + 1 then some St.TICK_PAST
  else if 4294967296 < eff - s.tick then some St.TICK_FAR
  else if 4096 ≤ s.scheduled then some St.SCHED_FULL
  else none

/-- A descriptor that is never accepted completes, not executed (R382, R383). -/
def State.rejectDesc (s : State) (c : Cmd) (op st : Nat) (res : List (Nat × Nat × Nat)) : State :=
  { s with host.compQ := s.host.compQ ++ [⟨c.ring, op, st, c.hseq, 0, res, c.epoch, s.tick⟩] }

/-- Check 5 where the owning rule makes it at acceptance (R134, R254, R398, R425, R432): the status of a refusal. -/
def State.acceptCheck (s : State) (i : Instr) : Option Nat :=
  match i with
  | .clientAdd _ a => if s.holdsLock then s.addAccept a else some St.NOT_ACTIVE
  | .ringResync _ ring head _ => if s.resyncOk ring.toNat head.toNat then none else some St.BAD_FIELD
  | .pairRelease _ =>
    if s.pairState ≠ 1 then some St.NOT_ACTIVE
    else if !s.b R.PAIR_STAT F.PAIR_STAT_TWIN_SYNCED || !s.pair.twinAuto then some St.PAIR_UNSYNCED else none
  | .ffeSwap .. | .ffeMode .. => if s.swapBusy i then some St.SWAP_BUSY else none
  | _ => none

/-- The edge at which a command accepted now takes effect (R49, R50). -/
def State.dueTick (s : State) (eff : Nat) : Nat := if eff ≠ 0 then eff else if s.time.deadline then s.time.next + 1 else s.time.next

/-- A command is accepted: it counts as outstanding, and is staged for its tick unless check 5 refuses it. -/
def State.accept (s : State) (i : Instr) (c : Cmd) (op : Nat) : State :=
  let q := s.ring c.ring
  let s := if c.ring < 65536 then s.setRing c.ring { q with outst := q.outst + 1 } else s
  let s := { s with host.outstanding := s.host.outstanding + 1, host.accAt := Tab.insert s.host.accAt (65536 * c.ring + c.hseq) s.tick }
  match s.acceptCheck i with
  | some st => s.refuse c op st
  | none => (s.stage ⟨i, c.ring, s.dueTick c.eff, decide (c.eff = 0), false⟩).swapShow i

/-! ## From a submission ring (R382, R385, R397) -/

/-- A ring moves past a fetched descriptor: HEAD and the expected HSEQ advance. -/
def State.passDesc (s : State) (r n : Nat) : State :=
  let q := s.ring r
  s.setRing r { q with head := (q.head + n) % q.size, expHseq := (q.expHseq + 1) % 65536, fence := false }

/-- A ring's completion ring keeps an entry for a descriptor. -/
def State.reserve (s : State) (r : Nat) : State :=
  let cq := (s.ring r).cq
  s.setRing cq { s.ring cq with resv := (s.ring cq).resv + 1 }

/-- A descriptor that fails check 1 or 2: its completion carries the expected HSEQ, and the ring halts (R388, R397). -/
def State.failDesc (s : State) (r : Nat) (c : Cmd) (op st cause : Nat) : State :=
  let s := s.incF R.RING_CNT (if cause = 2 then F.RING_CNT_CHECK_FAIL_CNT else F.RING_CNT_SEQ_GAP_CNT) 1
  ((s.reserve r).rejectDesc c op st [(32, 2, (s.ring r).expHseq)]).halt r cause

/-- HSEQ is the expected one, and DB_HSEQ where the descriptor is the last before TAIL. -/
def seqOk (q : Ring) (n hseq : Nat) : Bool := hseq == q.expHseq && (decide (q.held ≠ n) || hseq == q.dbHseq)

/-- A descriptor that has passed checks 1 and 2. -/
def State.checkedDesc (s : State) (r n : Nat) (c : Cmd) (b mem : List Byte) : State :=
  let op := dByte b 0
  let fence := bitOf (dByte b 1) 1
  match dCommand r c b mem with
  | none => ((s.passDesc r n).reserve r).rejectDesc c op St.BAD_FIELD []
  | some i =>
    if fence && decide ((s.ring r).outst ≠ 0) then s.setRing r { s.ring r with fence := true }
    else match s.tickCheck c.eff with
      | some st => ((s.passDesc r n).reserve r).rejectDesc c op st []
      | none => ((s.passDesc r n).reserve r).accept i c op

/-- The checks of R382 on the bytes at HEAD: the end before TAIL first, on the first entry. -/
def State.ringDesc (s : State) (r : Nat) (b mem : List Byte) : State :=
  let q := s.ring r
  let n := if dExt b then 2 else 1
  let c : Cmd := ⟨r, dNum b 2 2, dNum b 8 8, s.host.epoch⟩
  if q.held < n then s.failDesc r c (dByte b 0) St.SEQ_GAP 1
  else
    let good := dCrcOk b
    let s := s.chkFrame 0 good
    if !good then s.failDesc r c (dByte b 0) St.CHECK_FAIL 2
    else if !seqOk q n c.hseq then s.failDesc r c (dByte b 0) St.SEQ_GAP 1
    else s.checkedDesc r n c b mem

/-- A descriptor of the ring whose turn it is, is fetched; a failed read halts the ring. -/
def State.ringFetch (s : State) (r : Nat) (bytes : Option (List Byte)) (mem : List Byte) : State :=
  if !s.fetching || s.nextRing != some r then s
  else
    let s := (s.turn r).perf 0xB00 1
    match bytes with
    | none => s.halt r 5
    | some b => s.ringDesc r (b.take 128) mem

/-! ## From a task's outbox (R571) -/

/-- Opcodes that a customer task may not use. -/
def taskBarred (op : Nat) : Bool :=
  (decide (0x80 ≤ op) && decide (op ≤ 0x87)) || (decide (0x60 ≤ op) && decide (op ≤ 0x67))
    || [0x78, 0x7B, 0x69, 0x01, 0x02].contains op

/-- A descriptor of an outbox: at most 8 for each run, HSEQ ignored, and no ring to halt. -/
def State.taskFetch (s : State) (t : Nat) (b mem : List Byte) : State :=
  let left := Tab.get (fun _ => 0) s.sec.outLeft t
  let c : Cmd := ⟨65536 + t, dNum b 2 2, dNum b 8 8, s.host.epoch⟩
  let op := dByte b 0
  if left = 0 ∨ s.isOn domCTRL = false then s
  else
    let s : State := { s with sec.outLeft := Tab.set (fun _ => 0) s.sec.outLeft t (left - 1) }
    let good := dCrcOk b
    let s := s.chkFrame 0 good
    if !good then (s.incF R.RING_CNT F.RING_CNT_CHECK_FAIL_CNT 1).rejectDesc c op St.CHECK_FAIL []
    else match dCommand c.ring c b mem with
      | none => s.rejectDesc c op St.BAD_FIELD []
      | some i =>
        if taskBarred op then s.rejectDesc c op St.BAD_FIELD []
        else match s.tickCheck c.eff with
          | some st => s.rejectDesc c op st []
          | none => s.accept i c op

/-- DESCRIPTOR_FETCH (R382): the entry, or the two entries, at HEAD of a submission ring, or the next descriptor of a task's outbox (rings
65,536 and 65,537).  `bytes` is none where the read fails; `mem` is the host memory that the command's address names. -/
def execDescriptorFetch (ring : Fin 65538) (bytes : Option (List Byte)) (mem : List Byte) (s : State) :
    Host.Outcome State Fault Refusal :=
  .next (if ring.val < 65536 then s.ringFetch ring.val bytes mem
    else match bytes with
      | some b => s.taskFetch (ring.val - 65536) (b.take 128) mem
      | none => s)

end Sys2Proof.Machine
end

