-- ==== Sys2Proof/Machine/Dispatch.lean ====
section
/-!
DEFINITION. The dispatch of commands to their meanings, one arm per row of the opcode table.
-/

namespace Sys2Proof.Machine

def exec (i : Instr) (s : State) : Host.Outcome State Fault Refusal :=
  match i with
  | .tick tasks => Sys2Proof.Machine.execTick tasks s
  | .stagingDeadline closed cmds recs slices tasks plan => Sys2Proof.Machine.execStagingDeadline closed cmds recs slices tasks plan s
  | .tickStorm => Sys2Proof.Machine.execTickStorm s
  | .taskOverrun t => Sys2Proof.Machine.execTaskOverrun t s
  | .refclkLoss d => Sys2Proof.Machine.execRefclkLoss d s
  | .refclkReturn d phase => Sys2Proof.Machine.execRefclkReturn d phase s
  | .domSetSecWrite d fw v => Sys2Proof.Machine.execDomSetSecWrite d fw v s
  | .domAdjWrite d fw v => Sys2Proof.Machine.execDomAdjWrite d fw v s
  | .timeSwitch cmd domain => Sys2Proof.Machine.execTimeSwitch cmd domain s
  | .timeStep cmd amount => Sys2Proof.Machine.execTimeStep cmd amount s
  | .slewDone => Sys2Proof.Machine.execSlewDone s
  | .ppsInEdge x cyc => Sys2Proof.Machine.execPpsInEdge x cyc s
  | .trigFire k cyc => Sys2Proof.Machine.execTrigFire k cyc s
  | .trigTimeWrite k fw v => Sys2Proof.Machine.execTrigTimeWrite k fw v s
  | .tpMessageRx p cyc bytes => Sys2Proof.Machine.execTpMessageRx p cyc bytes s
  | .synCal cmd octet retry => Sys2Proof.Machine.execSynCal cmd octet retry s
  | .synTempCheck o => Sys2Proof.Machine.execSynTempCheck o s
  | .synCalComplete o syn => Sys2Proof.Machine.execSynCalComplete o syn s
  | .synCalTimeout o syn => Sys2Proof.Machine.execSynCalTimeout o syn s
  | .synRelock o syn => Sys2Proof.Machine.execSynRelock o syn s
  | .synRelockTimeout o syn => Sys2Proof.Machine.execSynRelockTimeout o syn s
  | .handover o syn => Sys2Proof.Machine.execHandover o syn s
  | .synAlignFail o syn => Sys2Proof.Machine.execSynAlignFail o syn s
  | .synUnlock o => Sys2Proof.Machine.execSynUnlock o s
  | .synNone o => Sys2Proof.Machine.execSynNone o s
  | .txEnable cmd octet lane launch => Sys2Proof.Machine.execTxEnable cmd octet lane launch s
  | .txStep cmd octet lane launch => Sys2Proof.Machine.execTxStep cmd octet lane launch s
  | .txDisable cmd octet lane force => Sys2Proof.Machine.execTxDisable cmd octet lane force s
  | .lockTimeout o l => Sys2Proof.Machine.execLockTimeout o l s
  | .rampEnd o l => Sys2Proof.Machine.execRampEnd o l s
  | .rawLos o l asserted => Sys2Proof.Machine.execRawLos o l asserted s
  | .rxChangeLand o pos => Sys2Proof.Machine.execRxChangeLand o pos s
  | .ffeSwap cmd octet mask => Sys2Proof.Machine.execFfeSwap cmd octet mask s
  | .ffeMode cmd octet mode => Sys2Proof.Machine.execFfeMode cmd octet mode s
  | .ffeAdaptUpdate o l sums => Sys2Proof.Machine.execFfeAdaptUpdate o l sums s
  | .monThreshold o l unit => Sys2Proof.Machine.execMonThreshold o l unit s
  | .codewordDecode o l cw payload errs rel arr => Sys2Proof.Machine.execCodewordDecode o l cw payload errs rel arr s
  | .fecCapArm o v => Sys2Proof.Machine.execFecCapArm o v s
  | .fecUncorr o l => Sys2Proof.Machine.execFecUncorr o l s
  | .frameStart o => Sys2Proof.Machine.execFrameStart o s
  | .calSwitch o => Sys2Proof.Machine.execCalSwitch o s
  | .pageAdopt o => Sys2Proof.Machine.execPageAdopt o s
  | .toneLock o => Sys2Proof.Machine.execToneLock o s
  | .phaseSweepEnd o l off => Sys2Proof.Machine.execPhaseSweepEnd o l off s
  | .cdrLock o l => Sys2Proof.Machine.execCdrLock o l s
  | .cdrAcqTimeout o l => Sys2Proof.Machine.execCdrAcqTimeout o l s
  | .eqSettled o l => Sys2Proof.Machine.execEqSettled o l s
  | .markerResult o l hits exact allExact consec => Sys2Proof.Machine.execMarkerResult o l hits exact allExact consec s
  | .searchTimeout o l => Sys2Proof.Machine.execSearchTimeout o l s
  | .slip cmd octet lane amount coarse => Sys2Proof.Machine.execSlip cmd octet lane amount coarse s
  | .acqLost o l missed => Sys2Proof.Machine.execAcqLost o l missed s
  | .acqRestart cmd octet mask => Sys2Proof.Machine.execAcqRestart cmd octet mask s
  | .octAligned o => Sys2Proof.Machine.execOctAligned o s
  | .skewRange o l => Sys2Proof.Machine.execSkewRange o l s
  | .clkModeLand o => Sys2Proof.Machine.execClkModeLand o s
  | .convStart o => Sys2Proof.Machine.execConvStart o s
  | .halyMessageRx o path hdr payload crc cyc pos fest above => Sys2Proof.Machine.execHalyMessageRx o path hdr payload crc cyc pos fest above s
  | .convTimeout o => Sys2Proof.Machine.execConvTimeout o s
  | .lcToneEnd o => Sys2Proof.Machine.execLcToneEnd o s
  | .convSelect o => Sys2Proof.Machine.execConvSelect o s
  | .convLcFail o lost => Sys2Proof.Machine.execConvLcFail o lost s
  | .bridgeStart o => Sys2Proof.Machine.execBridgeStart o s
  | .laneRetire cmd octet lane dir reason => Sys2Proof.Machine.execLaneRetire cmd octet lane dir reason s
  | .laneRestore cmd octet => Sys2Proof.Machine.execLaneRestore cmd octet s
  | .anComplete g ix => Sys2Proof.Machine.execAnComplete g ix s
  | .anFail g ix => Sys2Proof.Machine.execAnFail g ix s
  | .trainComplete g ix => Sys2Proof.Machine.execTrainComplete g ix s
  | .ltFail g ix => Sys2Proof.Machine.execLtFail g ix s
  | .slUp g ix => Sys2Proof.Machine.execSlUp g ix s
  | .slDown g ix => Sys2Proof.Machine.execSlDown g ix s
  | .slRetrain cmd group mask => Sys2Proof.Machine.execSlRetrain cmd group mask s
  | .clientAdd cmd a => Sys2Proof.Machine.execClientAdd cmd a s
  | .clientModify cmd client what cls auto copy mask => Sys2Proof.Machine.execClientModify cmd client what cls auto copy mask s
  | .clientDelete cmd client => Sys2Proof.Machine.execClientDelete cmd client s
  | .recentre c => Sys2Proof.Machine.execRecentre c s
  | .holdOffExpiry c => Sys2Proof.Machine.execHoldOffExpiry c s
  | .wtrExpiry c => Sys2Proof.Machine.execWtrExpiry c s
  | .subframeSelect c c0 c1 one both => Sys2Proof.Machine.execSubframeSelect c c0 c1 one both s
  | .delayExcess c => Sys2Proof.Machine.execDelayExcess c s
  | .delayReturn c => Sys2Proof.Machine.execDelayReturn c s
  | .dSignReverse c => Sys2Proof.Machine.execDSignReverse c s
  | .singleTimeout c => Sys2Proof.Machine.execSingleTimeout c s
  | .tagLossTimeout c => Sys2Proof.Machine.execTagLossTimeout c s
  | .protSet cmd client flags uncThr holdOff wtr => Sys2Proof.Machine.execProtSet cmd client flags uncThr holdOff wtr s
  | .protReq cmd client request => Sys2Proof.Machine.execProtReq cmd client request s
  | .gdTrainingDone => Sys2Proof.Machine.execGdTrainingDone s
  | .gdRetrain ch => Sys2Proof.Machine.execGdRetrain ch s
  | .gdChannelFail ch => Sys2Proof.Machine.execGdChannelFail ch s
  | .halySend cmd octet dst path rep len addr mem => Sys2Proof.Machine.execHalySend cmd octet dst path rep len addr mem s
  | .halyTxBurst o cyc => Sys2Proof.Machine.execHalyTxBurst o cyc s
  | .halyRampDownEnd o => Sys2Proof.Machine.execHalyRampDownEnd o s
  | .halyDetect o => Sys2Proof.Machine.execHalyDetect o s
  | .halySyncFound o level errs cyc => Sys2Proof.Machine.execHalySyncFound o level errs cyc s
  | .halyHeader o hdr => Sys2Proof.Machine.execHalyHeader o hdr s
  | .halyBeaconDue o => Sys2Proof.Machine.execHalyBeaconDue o s
  | .halyHearingLoss o path => Sys2Proof.Machine.execHalyHearingLoss o path s
  | .halyTtlExpiry o => Sys2Proof.Machine.execHalyTtlExpiry o s
  | .halySlotStart o => Sys2Proof.Machine.execHalySlotStart o s
  | .trimRun cmd target => Sys2Proof.Machine.execTrimRun cmd target s
  | .trimTempCheck u => Sys2Proof.Machine.execTrimTempCheck u s
  | .trimStart u => Sys2Proof.Machine.execTrimStart u s
  | .trimDone u => Sys2Proof.Machine.execTrimDone u s
  | .plannerRun => Sys2Proof.Machine.execPlannerRun s
  | .jrnHourly => Sys2Proof.Machine.execJrnHourly s
  | .jrnFlashWrite ok => Sys2Proof.Machine.execJrnFlashWrite ok s
  | .jrnRead cmd region seq count addr => Sys2Proof.Machine.execJrnRead cmd region seq count addr s
  | .ringOpRead ring => Sys2Proof.Machine.execRingOpRead ring s
  | .ringOpCreate ring => Sys2Proof.Machine.execRingOpCreate ring s
  | .ringOpDestroy ring => Sys2Proof.Machine.execRingOpDestroy ring s
  | .ringOpResync ring head => Sys2Proof.Machine.execRingOpResync ring head s
  | .sqDoorbell ring v => Sys2Proof.Machine.execSqDoorbell ring v s
  | .headDoorbell ring v => Sys2Proof.Machine.execHeadDoorbell ring v s
  | .descriptorFetch ring bytes mem => Sys2Proof.Machine.execDescriptorFetch ring bytes mem s
  | .completionWrite => Sys2Proof.Machine.execCompletionWrite s
  | .eventWrite => Sys2Proof.Machine.execEventWrite s
  | .telemetryWrite => Sys2Proof.Machine.execTelemetryWrite s
  | .msixSignal ring => Sys2Proof.Machine.execMsixSignal ring s
  | .audit cmd first count freeze addr => Sys2Proof.Machine.execAudit cmd first count freeze addr s
  | .ringResync cmd ring head expHseq => Sys2Proof.Machine.execRingResync cmd ring head expHseq s
  | .nop cmd => Sys2Proof.Machine.execNop cmd s
  | .linkDown => Sys2Proof.Machine.execLinkDown s
  | .linkUp => Sys2Proof.Machine.execLinkUp s
  | .functionLevelReset => Sys2Proof.Machine.execFunctionLevelReset s
  | .perstN low => Sys2Proof.Machine.execPerstN low s
  | .d3hotEntry => Sys2Proof.Machine.execD3hotEntry s
  | .d0Return => Sys2Proof.Machine.execD0Return s
  | .pairLockFree => Sys2Proof.Machine.execPairLockFree s
  | .pairInitTimer => Sys2Proof.Machine.execPairInitTimer s
  | .pairLockTaken => Sys2Proof.Machine.execPairLockTaken s
  | .mirrorRx bytes cyc => Sys2Proof.Machine.execMirrorRx bytes cyc s
  | .statusRx bytes cyc => Sys2Proof.Machine.execStatusRx bytes cyc s
  | .statusSend => Sys2Proof.Machine.execStatusSend s
  | .hbLost => Sys2Proof.Machine.execHbLost s
  | .fence => Sys2Proof.Machine.execFence s
  | .pairTakeover cmd force => Sys2Proof.Machine.execPairTakeover cmd force s
  | .pairRelease cmd => Sys2Proof.Machine.execPairRelease cmd s
  | .releaseCheck => Sys2Proof.Machine.execReleaseCheck s
  | .pairAudit cmd first count addr => Sys2Proof.Machine.execPairAudit cmd first count addr s
  | .pairResync cmd => Sys2Proof.Machine.execPairResync cmd s
  | .shrdLoop cmd mode force => Sys2Proof.Machine.execShrdLoop cmd mode force s
  | .shrdClockLock => Sys2Proof.Machine.execShrdClockLock s
  | .shrdLaneResult n coarse exact errs => Sys2Proof.Machine.execShrdLaneResult n coarse exact errs s
  | .shrdUp skews => Sys2Proof.Machine.execShrdUp skews s
  | .shrdLaneLoss n => Sys2Proof.Machine.execShrdLaneLoss n s
  | .shrdAlignFail n => Sys2Proof.Machine.execShrdAlignFail n s
  | .chkStart ch v => Sys2Proof.Machine.execChkStart ch v s
  | .chkDataWrite ch v => Sys2Proof.Machine.execChkDataWrite ch v s
  | .chkTailWrite ch v => Sys2Proof.Machine.execChkTailWrite ch v s
  | .chkValWrite ch v => Sys2Proof.Machine.execChkValWrite ch v s
  | .losLong slot u l => Sys2Proof.Machine.execLosLong slot u l s
  | .retryTimeout k u l => Sys2Proof.Machine.execRetryTimeout k u l s
  | .fltClear cmd kind unit lane => Sys2Proof.Machine.execFltClear cmd kind unit lane s
  | .memTest cmd op die macroIx word data check => Sys2Proof.Machine.execMemTest cmd op die macroIx word data check s
  | .memTestWrite v => Sys2Proof.Machine.execMemTestWrite v s
  | .memTestRead v => Sys2Proof.Machine.execMemTestRead v s
  | .memTestExit v => Sys2Proof.Machine.execMemTestExit v s
  | .tableRefresh addr copyOk => Sys2Proof.Machine.execTableRefresh addr copyOk s
  | .mcheck core addr recovers => Sys2Proof.Machine.execMcheck core addr recovers s
  | .inputEdge x asserted => Sys2Proof.Machine.execInputEdge x asserted s
  | .inputStorm x => Sys2Proof.Machine.execInputStorm x s
  | .wdtExpire => Sys2Proof.Machine.execWdtExpire s
  | .smbusStatusRead => Sys2Proof.Machine.execSmbusStatusRead s
  | .edacQueue cmd channel count flush codes => Sys2Proof.Machine.execEdacQueue cmd channel count flush codes s
  | .spanWrite ch v => Sys2Proof.Machine.execSpanWrite ch v s
  | .spanSettle ch => Sys2Proof.Machine.execSpanSettle ch s
  | .edacRamp cmd slot => Sys2Proof.Machine.execEdacRamp cmd slot s
  | .edacRampDone k => Sys2Proof.Machine.execEdacRampDone k s
  | .engClrNEdge k low => Sys2Proof.Machine.execEngClrNEdge k low s
  | .lastRamp cmd => Sys2Proof.Machine.execLastRamp cmd s
  | .lastRampStep => Sys2Proof.Machine.execLastRampStep s
  | .lastRampDone => Sys2Proof.Machine.execLastRampDone s
  | .lastRampRelease cmd => Sys2Proof.Machine.execLastRampRelease cmd s
  | .hkConversion h kind raw raw2 cyc => Sys2Proof.Machine.execHkConversion h kind raw raw2 cyc s
  | .hkSeqRestart h => Sys2Proof.Machine.execHkSeqRestart h s
  | .engI2c cmd bus addr wcount rcount rstart wdata => Sys2Proof.Machine.execEngI2c cmd bus addr wcount rcount rstart wdata s
  | .i2cTransactionEnd k nak data => Sys2Proof.Machine.execI2cTransactionEnd k nak data s
  | .i2cRecover k stuck => Sys2Proof.Machine.execI2cRecover k stuck s
  | .pwrReq cmd dom target => Sys2Proof.Machine.execPwrReq cmd dom target s
  | .pwrDelayExpiry dom => Sys2Proof.Machine.execPwrDelayExpiry dom s
  | .domainEntryComplete dom => Sys2Proof.Machine.execDomainEntryComplete dom s
  | .domainExitComplete dom => Sys2Proof.Machine.execDomainExitComplete dom s
  | .wakeSig dom => Sys2Proof.Machine.execWakeSig dom s
  | .wakeTick dom => Sys2Proof.Machine.execWakeTick dom s
  | .coreClk pll => Sys2Proof.Machine.execCoreClk pll s
  | .pmbPoll res => Sys2Proof.Machine.execPmbPoll res s
  | .avsStep => Sys2Proof.Machine.execAvsStep s
  | .engThermRead o data => Sys2Proof.Machine.execEngThermRead o data s
  | .orderlyStop => Sys2Proof.Machine.execOrderlyStop s
  | .orderlyStopDomainOff => Sys2Proof.Machine.execOrderlyStopDomainOff s
  | .reefGrace => Sys2Proof.Machine.execReefGrace s
  | .reefGrace2 => Sys2Proof.Machine.execReefGrace2 s
  | .reefHold => Sys2Proof.Machine.execReefHold s
  | .reefReq cmd manual => Sys2Proof.Machine.execReefReq cmd manual s
  | .pmbXfer cmd entry code wcount rcount page wdata => Sys2Proof.Machine.execPmbXfer cmd entry code wcount rcount page wdata s
  | .pwrStop cmd => Sys2Proof.Machine.execPwrStop cmd s
  | .powerOnReset => Sys2Proof.Machine.execPowerOnReset s
  | .resetN low => Sys2Proof.Machine.execResetN low s
  | .resetRelease role fuseOk flashOk certOk hang supply rows checker => Sys2Proof.Machine.execResetRelease role fuseOk flashOk certOk hang supply rows checker s
  | .bootTimeout role => Sys2Proof.Machine.execBootTimeout role s
  | .vddCoreLoss => Sys2Proof.Machine.execVddCoreLoss s
  | .vddAonLoss => Sys2Proof.Machine.execVddAonLoss s
  | .attest cmd nonce addr => Sys2Proof.Machine.execAttest cmd nonce addr s
  | .certRead cmd addr max => Sys2Proof.Machine.execCertRead cmd addr max s
  | .imageWrite cmd slot offset len addr mem => Sys2Proof.Machine.execImageWrite cmd slot offset len addr mem s
  | .imageCommit cmd slot => Sys2Proof.Machine.execImageCommit cmd slot s
  | .rollbackAdvance cmd force => Sys2Proof.Machine.execRollbackAdvance cmd force s
  | .keyUpdate cmd addr mem => Sys2Proof.Machine.execKeyUpdate cmd addr mem s
  | .taskLoad cmd task len addr mem => Sys2Proof.Machine.execTaskLoad cmd task len addr mem s
  | .taskSet cmd task action mode budget => Sys2Proof.Machine.execTaskSet cmd task action mode budget s
  | .flashRead v => Sys2Proof.Machine.execFlashRead v s
  | .flashProgram v => Sys2Proof.Machine.execFlashProgram v s
  | .flashErase v => Sys2Proof.Machine.execFlashErase v s
  | .flashOpEnd => Sys2Proof.Machine.execFlashOpEnd s
  | .patSet cmd ptype index lane gen chk sqHalf force => Sys2Proof.Machine.execPatSet cmd ptype index lane gen chk sqHalf force s
  | .loopSet cmd ptype index lane loop force => Sys2Proof.Machine.execLoopSet cmd ptype index lane loop force s
  | .patLock ptype index lane => Sys2Proof.Machine.execPatLock ptype index lane s
  | .patLockLoss ptype index lane => Sys2Proof.Machine.execPatLockLoss ptype index lane s
  | .loopSlip ptype index lane => Sys2Proof.Machine.execLoopSlip ptype index lane s
  | .histClear u => Sys2Proof.Machine.execHistClear u s
  | .histSample u x => Sys2Proof.Machine.execHistSample u x s
  | .pmuSample core pc addr word lat flags => Sys2Proof.Machine.execPmuSample core pc addr word lat flags s
  | .sampleRecord => Sys2Proof.Machine.execSampleRecord s
  | .capStart cmd lineLane src len buf => Sys2Proof.Machine.execCapStart cmd lineLane src len buf s
  | .capStagingEnd y data => Sys2Proof.Machine.execCapStagingEnd y data s
  | .capDone y => Sys2Proof.Machine.execCapDone y s
  | .capRead cmd buf offset len addr => Sys2Proof.Machine.execCapRead cmd buf offset len addr s
  | .registerWrite addr bytes fw => Sys2Proof.Machine.execRegisterWrite addr bytes fw s
  | .lowHalfRead addr size => Sys2Proof.Machine.execLowHalfRead addr size s
  | .highHalfRead addr size => Sys2Proof.Machine.execHighHalfRead addr size s
  | .capturingRead addr => Sys2Proof.Machine.execCapturingRead addr s
  | .latchingRead addr half cyc => Sys2Proof.Machine.execLatchingRead addr half cyc s
  | .errLogRead half => Sys2Proof.Machine.execErrLogRead half s
  | .unsupportedRead addr size => Sys2Proof.Machine.execUnsupportedRead addr size s
  | .glbLockSet => Sys2Proof.Machine.execGlbLockSet s
  | .aonPeriod => Sys2Proof.Machine.execAonPeriod s
  | .toneLoss o => Sys2Proof.Machine.execToneLoss o s
  | .stdAmLock o => Sys2Proof.Machine.execStdAmLock o s
  | .convDoneRepeat o => Sys2Proof.Machine.execConvDoneRepeat o s
  | .halyDetectLoss o => Sys2Proof.Machine.execHalyDetectLoss o s
  | .slotRawLos g ix asserted => Sys2Proof.Machine.execSlotRawLos g ix asserted s
  | .eccError space idx addr data chk use obj => Sys2Proof.Machine.execEccError space idx addr data chk use obj s
  | .engSupplyWaitEnd o good => Sys2Proof.Machine.execEngSupplyWaitEnd o good s
  | .pmbTransactionEnd outcome data => Sys2Proof.Machine.execPmbTransactionEnd outcome data s

end Sys2Proof.Machine
end

