-- ==== Sys2Proof/Safety.lean ====
section
/-!
DEFINITION. What a safe run of the block is: every command in turn answers a next state, and the register store keeps its
canonical form.
-/

namespace Sys2Proof

/-- The register store is in canonical form: offsets rise strictly, and none is listed at its reset value. -/
def Machine.State.regsCanon (s : Machine.State) : Prop := Tab.canon Machine.resetWord s.regs = true

/-- `k` steps from a state all answer a next state. -/
def runsFor (k : Nat) (s : Machine.State) : Prop := ∃ t, Host.Core.run core k s = Host.Outcome.next t

end Sys2Proof
end

