-- ==== Sys2Proof/Certificates/Slice0/Obligations.lean ====
section
/-!
DEFINITION. The statements for the provers.  Most say what a command leaves: that it answers a next state, and what that state
holds.
-/

namespace Sys2Proof.Machine

/-- The command answers a next state, and `P` holds of it. -/
def Gives (i : Instr) (s : State) (P : State → Prop) : Prop := ∃ t, exec i s = Host.Outcome.next t ∧ P t

/-- Between two states the device has produced, behind the completions it already held, one of a command with a status (R388). -/
def Answers (s t : State) (c : Cmd) (op st : Nat) : Prop :=
  ∃ q r q', t.host.compQ = s.host.compQ ++ q ++ r :: q' ∧ r.ring = c.ring ∧ r.opcode = op ∧ r.status = st ∧ r.hseq = c.hseq

/-- Between two states the device has posted, behind the events it already held, one with a code, an object and a lane (R390). -/
def Posts (s t : State) (code obj lane : Nat) (clear : Bool) : Prop :=
  ∃ q e q', t.host.evQ = s.host.evQ ++ q ++ e :: q' ∧ e.code = code ∧ e.obj = obj ∧ e.lane = lane ∧ e.clear = clear

/-- Between two states an access has entered the error log, or has been counted because the log is full (R612). -/
def Logs (s t : State) (off cause : Nat) : Prop :=
  t.host.logTotal = satAdd 32 s.host.logTotal 1 ∧
    (if s.host.log.length < 64 then ∃ e, t.host.log = s.host.log ++ [e] ∧ e.off = off ∧ e.cause = cause
     else t.host.log = s.host.log)

/-- A write waits, behind those that waited, for the next tick edge (R47): the bits `mask` of the word at `a`. -/
def Stages (s t : State) (a : Nat) (mask v : Word) (fw : Bool) : Prop :=
  ∃ q w, t.host.regQ = s.host.regQ ++ q ++ [w] ∧ w.addr = a ∧ w.mask = mask ∧ w.val = v ∧ w.fw = fw

end Sys2Proof.Machine

open Sys2Proof Sys2Proof.Machine

/-! ## The step and the queue -/

/-- A step takes the command at the front of the queue and runs it on the state with the queue's rest. -/
def Claims.StepRunsFrontCommand : Prop :=
  ∀ (s : State) (c : Instr) (rest : List Instr), step { s with pending := c :: rest } = exec c { s with pending := rest }

/-- The word form adds nothing: no row has bits, so `withFetchWord` leaves the state alone, and an empty queue idles (log entry 4). -/
def Claims.EmptyQueueIdles : Prop :=
  ∀ (s : State) (n w : Nat), s.pending = [] → decodeTableWord n w = none ∧ s.withFetchWord n w = s ∧ step s = Host.Outcome.next s

/-! ## Time (chapter 2) -/

/-- TICK (R43, R44, R47): while a reference is present and the active counter advances, the edge carries the next number; while the
tick is stopped nothing happens; beyond 64 bits the step faults. -/
def Claims.TickCarriesTheNextNumber : Prop :=
  ∀ (s : State) (x : TickIn),
    (s.time.next < 2 ^ 64 → s.slew.tickCycles ≠ none → Gives (.tick x) s fun t => t.time.edge = s.time.next)
    ∧ (s.time.next < 2 ^ 64 → s.slew.tickCycles = none → Gives (.tick x) s fun t => t = s)
    ∧ (2 ^ 64 ≤ s.time.next → exec (.tick x) s = Host.Outcome.fault .tickWrap)

/-- R68 whole: TIME_SWITCH makes the domain active with OUT_OFFSET such that the output timescale does not jump, or completes with
TIME_DIFF where |OUT_OFFSET| would exceed 1 ms. -/
def Obligations.TimeSwitchKeepsTheTimescale : Prop :=
  ∀ (s : State) (c : Cmd) (d : BitVec 8), d.toNat < 2 → c.epoch = s.host.epoch →
    ((s.outAt 0 - (s.cnt d.toNat * offUnit : Nat)).natAbs ≤ offLimit →
      Gives (.timeSwitch c d) s fun t => t.time.active = d.toNat ∧ t.time.off = s.outAt 0 - (s.cnt d.toNat * offUnit : Nat)
        ∧ t.outAt 0 = s.outAt 0 ∧ Answers s t c Op.TIME_SWITCH St.OK)
    ∧ (offLimit < (s.outAt 0 - (s.cnt d.toNat * offUnit : Nat)).natAbs →
      Gives (.timeSwitch c d) s fun t => t.time = s.time ∧ Answers s t c Op.TIME_SWITCH St.TIME_DIFF)

/-- TIME_STEP (R70): the number of the next edge moves by the step and TICK_COUNT jumps to the number before it, OUT_OFFSET and the present
edge's number stay, no pending command keeps an EFFECTIVE_TICK that a forward step skips; a step to a negative number completes with BAD_FIELD. -/
def Obligations.TimeStepMovesTheNextEdge : Prop :=
  ∀ (s : State) (c : Cmd) (a : BitVec 64), a.toInt ≠ 0 → c.epoch = s.host.epoch →
    (0 ≤ (s.time.next : Int) + a.toInt →
      Gives (.timeStep c a) s fun t => (t.time.next : Int) = s.time.next + a.toInt ∧ t.time.edge = s.time.edge
        ∧ t.tick = t.time.next - 1
        ∧ t.time.off = s.time.off ∧ t.time.active = s.time.active ∧ Answers s t c Op.TIME_STEP St.OK
        ∧ ∀ x ∈ t.staged, x.zero = false → ¬ (s.time.next ≤ x.due ∧ (x.due : Int) < s.time.next + a.toInt))
    ∧ ((s.time.next : Int) + a.toInt < 0 →
      Gives (.timeStep c a) s fun t => t.time = s.time ∧ t.staged = s.staged ∧ Answers s t c Op.TIME_STEP St.BAD_FIELD)

/-- The staging deadline, overruns and customer tasks (R54, R57, R58). -/
def Claims.DeadlinesAndOverruns : Prop :=
  ∀ (s : State) (cmds sl tk : List Nat) (n : Nat) (p : Bool) (k : Fin 2),
    (s.time.deadline = false →
      Gives (.stagingDeadline true cmds n sl tk p) s fun t => t.time.deadline = true ∧ t.time.overStreak = 0 ∧ t.staged = s.staged)
    ∧ (s.time.deadline = false →
      Gives (.stagingDeadline false cmds n sl tk p) s fun t =>
        t.time.deadline = true ∧ t.time.overStreak = s.time.overStreak + 1 ∧ Posts s t Ev.TICK_OVERRUN noObj noLane false
        ∧ t.f R.TICK_OVERRUN_CNT ⟨0, 64⟩ = satAdd 64 (s.f R.TICK_OVERRUN_CNT ⟨0, 64⟩) 1
        ∧ ∀ x ∈ s.staged, x.zero = false → x ∈ t.staged)
    ∧ (100 ≤ s.time.overStreak → s.time.stormPosted = false →
      Gives .tickStorm s fun t => Posts s t Ev.TICK_STORM noObj noLane false
        ∧ (s.f (R.TASK_CFG k) F.TASK_CFG_STATE = 2 → t.f (R.TASK_CFG k) F.TASK_CFG_STATE = 3))
    ∧ (s.f (R.TASK_CFG k) F.TASK_CFG_STATE = 2 → s.time.atLimit.contains k.val = true →
      Gives (.taskOverrun k) s fun t => Posts s t Ev.TASK_OVERRUN k noLane false ∧ t.f (R.TASK_CFG k) F.TASK_CFG_STATE = 2)
    ∧ (s.time.atLimit.contains k.val = false → Gives (.taskOverrun k) s fun t => t = s)

/-- The references (R60, R62): a lost reference in use is replaced by the other where REF_AUTO is set, else the tick stops; a
reference that returns ends the holdover. -/
def Obligations.ReferencesFallBackAndReturn : Prop :=
  ∀ (s : State) (d : Fin 2) (ph : List Int),
    (s.refOk d = true → s.time.refUse = d.val → s.time.holdover = false → s.b R.TS_CTL F.TS_CTL_REF_AUTO = true →
      s.refOk (1 - d.val) = true →
      Gives (.refclkLoss d) s fun t => t.time.refUse = 1 - d.val ∧ t.time.holdover = false ∧ t.refOk d = false
        ∧ Posts s t Ev.REFCLK_LOSS d noLane false)
    ∧ (s.refOk d = true → s.time.refUse = d.val → s.time.holdover = false →
      (s.b R.TS_CTL F.TS_CTL_REF_AUTO = false ∨ s.refOk (1 - d.val) = false) →
      Gives (.refclkLoss d) s fun t => t.time.holdover = true ∧ Posts s t Ev.REFCLK_LOSS d noLane false)
    ∧ (s.refOk d = false → s.time.holdover = true → (s.time.refUse = d.val ∨ s.b R.TS_CTL F.TS_CTL_REF_AUTO = true) →
      Gives (.refclkReturn d ph) s fun t => t.time.holdover = false ∧ t.time.refUse = d.val ∧ t.refOk d = true
        ∧ t.time.cntA = s.time.cntA ∧ t.time.cntB = s.time.cntB ∧ Posts s t Ev.REFCLK_LOSS d noLane true)

/-- Writes to the time base (R63, R64, R67, R77) wait for the tick edge, or are discarded and logged. -/
def Claims.TimeWritesAreStagedOrLogged : Prop :=
  ∀ (s : State) (d : Fin 2) (k : Fin 16) (fw : Bool) (v : BitVec 64),
    (s.domOwner d fw = true → d.val ≠ s.time.active →
      Gives (.domSetSecWrite d fw v) s fun t => Stages s t (R.DOM_SET_SEC d) (maskW 48) v fw)
    ∧ (d.val = s.time.active ∨ s.domOwner d fw = false →
      Gives (.domSetSecWrite d fw v) s fun t => Logs s t (R.DOM_SET_SEC d) logREFUSED ∧ t.host.regQ = s.host.regQ)
    ∧ (s.domOwner d fw = true → s.domAdjOk d v.toInt = true →
      Gives (.domAdjWrite d fw v) s fun t => Stages s t (R.DOM_ADJ d) (maskW 64) v fw)
    ∧ (s.domOwner d fw = true → s.domAdjOk d v.toInt = false →
      Gives (.domAdjWrite d fw v) s fun t => Logs s t (R.DOM_ADJ d) logVALUE ∧ t.host.regQ = s.host.regQ)
    ∧ Gives (.trigTimeWrite k fw v) s fun t => Stages s t (R.TRIG_TIME_SEC k) (maskW 48) v fw
        ∧ ∀ e ∈ t.time.trigNs, e.1 ≠ k.val

/-- A landed phase adjustment of the active domain does not move the output timescale, and setting the seconds keeps the nanoseconds
(R63, R64). -/
def Claims.AdjustmentsKeepTheTimescale : Prop :=
  ∀ (s : State) (d sec : Nat) (adj : Int), d < 2 → s.time.active < 2 → s.time.cntA < cntMod → s.time.cntB < cntMod →
    (d = s.time.active → 0 ≤ (s.cnt d : Int) + adj * (2 ^ 24 : Nat) → (s.cnt d : Int) + adj * (2 ^ 24 : Nat) < cntMod →
      (s.domAdj d adj).outAt 0 = s.outAt 0)
    ∧ (d ≠ s.time.active → (s.domAdj d adj).outAt 0 = s.outAt 0)
    ∧ (sec < 2 ^ 48 → (s.domSetSec d sec).cnt d = sec * unitSec + s.cnt d % unitSec)

/-- PPS inputs, PTP messages and the end of a slew (R67, R69, R72). -/
def Obligations.PulsesAndMessagesAreStamped : Prop :=
  ∀ (s : State) (x p : Fin 2) (cyc : Fin 6250) (b : List Byte),
    (bitOf (s.f R.IN_STORM F.IN_STORM_STORM) (16 + x) = false → s.ppsOk x (s.cntAt 0 cyc, s.cntAt 1 cyc) = true →
      Gives (.ppsInEdge x cyc) s fun t => t.reg (R.PPS_IN_NS x 0) = nsWord (s.cntAt 0 cyc)
        ∧ t.reg (R.PPS_IN_SEC x 1) = secWord (s.cntAt 1 cyc)
        ∧ t.f (R.PPS_IN_STAT x) F.PPS_IN_STAT_REJECT_CNT = s.f (R.PPS_IN_STAT x) F.PPS_IN_STAT_REJECT_CNT)
    ∧ (bitOf (s.f R.IN_STORM F.IN_STORM_STORM) (16 + x) = false → s.ppsOk x (s.cntAt 0 cyc, s.cntAt 1 cyc) = false →
      Gives (.ppsInEdge x cyc) s fun t => t.reg (R.PPS_IN_NS x 0) = s.reg (R.PPS_IN_NS x 0)
        ∧ t.f (R.PPS_IN_STAT x) F.PPS_IN_STAT_REJECT_CNT
          = satAdd F.PPS_IN_STAT_REJECT_CNT.w (s.f (R.PPS_IN_STAT x) F.PPS_IN_STAT_REJECT_CNT) 1)
    ∧ (s.b (R.TP_CTL p) F.TP_CTL_EN = true → s.patOn 3 p 0 = false →
      Gives (.tpMessageRx p cyc b) s fun t => t.time.servoQ = s.time.servoQ
        ++ [(p.val, (s.cntAt 0 cyc + cntMod - s.f (R.TP_LAT p) F.TP_LAT_RX_LAT * 2 ^ 32) % cntMod,
          (s.cntAt 1 cyc + cntMod - s.f (R.TP_LAT p) F.TP_LAT_RX_LAT * 2 ^ 32) % cntMod, b)])
    ∧ (s.time.slewDone = true →
      Gives .slewDone s fun t => t.time.slewDone = false ∧ Posts s t Ev.SLEW_DONE noObj noLane false)

/-- A trigger unit whose time has come fires (R73 to R75): a one-shot unit does not fire again, a periodic one moves on by its period,
and a tick-bound action waits for the edge, or merges with the one that waits. -/
def Obligations.TriggersFireOnTime : Prop :=
  ∀ (s : State) (k : Fin 16) (cyc : Fin 6250), s.b (R.TRIG_CTL k) F.TRIG_CTL_ARM = true → (s.trigTime k : Int) ≤ s.trigNow k cyc →
    s.time.holdover = false →
    (s.f (R.TRIG_PERIOD k) F.TRIG_PERIOD_PERIOD_NS = 0 → Tab.get (fun _ => false) s.time.trigFired k = false →
      s.f (R.TRIG_CTL k) F.TRIG_CTL_ACT = 0 →
      Gives (.trigFire k cyc) s fun t => Tab.get (fun _ => false) t.time.trigFired k = true ∧ t.time.trigWait = s.time.trigWait)
    ∧ (s.f (R.TRIG_PERIOD k) F.TRIG_PERIOD_PERIOD_NS ≠ 0 → 3 ≤ s.f (R.TRIG_CTL k) F.TRIG_CTL_ACT →
      s.f (R.TRIG_CTL k) F.TRIG_CTL_ACT ≤ 5 → s.trigBefore k cyc < s.trigTime k →
      s.trigTime k / 2 ^ 16 + s.f (R.TRIG_PERIOD k) F.TRIG_PERIOD_PERIOD_NS < 2 ^ 48 * 1000000000 →
      Gives (.trigFire k cyc) s fun t =>
        t.trigTime k = s.trigTime k + s.f (R.TRIG_PERIOD k) F.TRIG_PERIOD_PERIOD_NS * 2 ^ 16
        ∧ (if s.time.trigWait.any (fun w => w.1 == k.val) then
            t.time.trigWait = s.time.trigWait
              ∧ t.f (R.TRIG_CTL k) F.TRIG_CTL_MISSED_CNT
                = satAdd F.TRIG_CTL_MISSED_CNT.w (s.f (R.TRIG_CTL k) F.TRIG_CTL_MISSED_CNT) 1
           else t.time.trigWait
              = s.time.trigWait ++ [(k.val, s.f (R.TRIG_CTL k) F.TRIG_CTL_ACT, s.f (R.TRIG_CTL k) F.TRIG_CTL_ARG)]))

/-! ## Synthesisers and launch (chapter 3) -/

/-- Calibrations and relocks of an octet's synthesisers (R91 to R93). -/
def Claims.SynthesisersCalibrate : Prop :=
  ∀ (s : State) (c : Cmd) (ob rb : BitVec 8) (o : Fin 16) (y : Fin 2), ob.toNat = o.val → rb.toNat < 2 → s.octOn o = true →
    (s.txo o).entering = false →
    (s.synBusy o = false → s.syn o 0 ≠ 6 → s.syn o 1 ≠ 6 → s.synTarget o = some y.val →
      Gives (.synCal c ob rb) s fun t => t.syn o y = 3 ∧ (t.txo o).waiting = (s.txo o).waiting ++ [{ c with eff := s.tick }])
    ∧ (s.tick % 100 = 0 → s.b (R.TX_SYN_CTL o) F.TX_SYN_CTL_AUTO_CAL = true → s.synRun o = true → s.synBusy o = false →
      s.syn o y = 5 → s.syn o (1 - y.val) = 1 → s.synWarm o y = false →
      Gives (.synTempCheck o) s fun t => (t.txo o).calNext = true)
    ∧ (s.syn o y = 3 → (s.txo o).runNext = 0 → s.synRun o = true →
      Gives (.synCalComplete o y) s fun t => t.syn o y = 4 ∧ t.i (R.TX_SYN_CAL o y) F.TX_SYN_CAL_CAL_TEMP = s.octTemp o)
    ∧ (s.syn o y = 3 → (s.txo o).runNext = 0 → s.synRun o = false →
      Gives (.synCalComplete o y) s fun t =>
        (t.txo o).runNext = y.val + 1 ∧ t.i (R.TX_SYN_CAL o y) F.TX_SYN_CAL_CAL_TEMP = s.octTemp o)
    ∧ (s.syn o y = 2 → Gives (.synRelock o y) s fun t => (t.txo o).runNext = y.val + 1)
    ∧ (s.syn o y = 2 → s.synEnt o y + 100 ≤ s.tick → (s.txo o).runNext = 0 →
      Gives (.synRelockTimeout o y) s fun t => t.syn o y = 3)
    ∧ (s.syn o y = 4 → Gives (.handover o y) s fun t => (t.txo o).runNext = y.val + 1 ∧ (t.txo o).handover = true)

/-- Failures of an octet's synthesisers (R93, R95): the state FAIL with its count and event, a loss of lock, and every lit lane
ramped down where none reaches RUN in time. -/
def Claims.SynthesisersFail : Prop :=
  ∀ (s : State) (o : Fin 16) (y : Fin 2), 
    (s.syn o y = 3 → s.synEnt o y + 300 ≤ s.tick → (s.txo o).runNext = 0 →
      Gives (.synCalTimeout o y) s fun t => t.syn o y = 6 ∧ Posts s t Ev.SYN_CAL_FAIL o noLane false
        ∧ t.f (R.TX_SYN_STAT o) F.TX_SYN_STAT_CAL_FAIL_CNT
          = satAdd F.TX_SYN_STAT_CAL_FAIL_CNT.w (s.f (R.TX_SYN_STAT o) F.TX_SYN_STAT_CAL_FAIL_CNT) 1)
    ∧ (s.syn o y = 4 → s.synEnt o y + 100 ≤ s.tick → (s.txo o).runNext = 0 →
      Gives (.synAlignFail o y) s fun t => t.syn o y = 6 ∧ Posts s t Ev.SYN_ALIGN_FAIL o noLane false)
    ∧ (s.synRun o = true →
      Gives (.synUnlock o) s fun t => (t.txo o).lossTick = some s.tick ∧ Posts s t Ev.SYN_UNLOCK o noLane false
        ∧ t.f (R.TX_SYN_STAT o) F.TX_SYN_STAT_UNLOCK_CNT
          = satAdd F.TX_SYN_STAT_UNLOCK_CNT.w (s.f (R.TX_SYN_STAT o) F.TX_SYN_STAT_UNLOCK_CNT) 1)
    ∧ (∀ t0, (s.txo o).lossTick = some t0 → t0 + s.f (R.TX_SYN_CTL o) F.TX_SYN_CTL_PLL_LOCK_TIMEOUT ≤ s.tick →
      s.synRun o = false →
      Gives (.synNone o) s fun t => (t.txo o).lossTick = none ∧ Posts s t Ev.SYN_NONE o noLane false
        ∧ ∀ l, l < 9 → s.txState o l = 3 → t.txState o l = 5)

/-- Launch requests that the lane takes (R107, R112, R113): up from DARK, to another step from LIT, down from LIT, and held behind a
ramp in progress. -/
def Claims.LaunchRequestsAct : Prop :=
  ∀ (s : State) (c : Cmd) (ob lb kb fb : BitVec 8) (o : Fin 16) (l : Fin 9), ob.toNat = o.val → lb.toNat = l.val →
    (s.txRefusal true o l kb.toNat = none → s.txState o l = 0 → s.laneCleared o l = false → s.synRun o = true →
      Gives (.txEnable c ob lb kb) s fun t => t.txState o l = 2 ∧ t.f (R.TX_LANE_STAT o l) F.TX_LANE_STAT_TARGET_STEP = kb.toNat
        ∧ (t.txl o l).cur = some ⟨.enable, kb.toNat, some c, .host, s.tick⟩)
    ∧ (s.txRefusal true o l kb.toNat = none → s.txState o l = 0 → s.laneCleared o l = false → s.synRun o = false →
      Gives (.txEnable c ob lb kb) s fun t => t.txState o l = 1
        ∧ (t.txl o l).cur = some ⟨.enable, kb.toNat, some c, .host, s.tick⟩)
    ∧ (s.txRefusal false o l kb.toNat = none → s.txState o l = 3 →
      Gives (.txStep c ob lb kb) s fun t => t.txState o l = 4 ∧ t.f (R.TX_LANE_STAT o l) F.TX_LANE_STAT_TARGET_STEP = kb.toNat
        ∧ (t.txl o l).hostStep = some kb.toNat)
    ∧ (fb.toNat < 2 → s.holdsLock = true → s.octOn o = true → (s.txo o).entering = false →
      (fb.toNat = 1 ∨ s.laneInUse o l = false) → s.txState o l = 3 →
      Gives (.txDisable c ob lb fb) s fun t => t.txState o l = 5 ∧ t.f (R.TX_LANE_STAT o l) F.TX_LANE_STAT_TARGET_STEP = 0)
    ∧ (fb.toNat < 2 → s.holdsLock = true → s.octOn o = true → (s.txo o).entering = false →
      (fb.toNat = 1 ∨ s.laneInUse o l = false) → s.txState o l = 2 →
      Gives (.txDisable c ob lb fb) s fun t => t.txState o l = 2
        ∧ (t.txl o l).pend = some ⟨.disable, 0, some c, .host, s.tick⟩
        ∧ t.b (R.TX_LANE_STAT o l) F.TX_LANE_STAT_PEND_DISABLE = true)

/-- Launch requests that are turned away (R107, R112): the status says why, and the lane stays as it is. -/
def Claims.LaunchRequestsRefused : Prop :=
  ∀ (s : State) (c : Cmd) (ob lb kb fb : BitVec 8) (o : Fin 16) (l : Fin 9), ob.toNat = o.val → lb.toNat = l.val →
    c.epoch = s.host.epoch →
    (∀ e, s.txRefusal true o l kb.toNat = some e →
      Gives (.txEnable c ob lb kb) s fun t => Answers s t c Op.TX_ENABLE e ∧ t.txState o l = s.txState o l)
    ∧ (s.txRefusal false o l kb.toNat = none → s.txState o l = 0 → s.laneCleared o l = false →
      Gives (.txStep c ob lb kb) s fun t => Answers s t c Op.TX_STEP St.LANE_DARK ∧ t.txState o l = 0)
    ∧ (fb.toNat = 0 → s.holdsLock = true → s.octOn o = true → (s.txo o).entering = false → s.laneInUse o l = true →
      Gives (.txDisable c ob lb fb) s fun t => Answers s t c Op.TX_DISABLE St.LANE_IN_USE ∧ t.tx = s.tx ∧ t.regs = s.regs)

/-- The ends of ramps and of the wait for a synthesiser (R96, R107). -/
def Claims.RampsAndWaitsEnd : Prop :=
  ∀ (s : State) (o : Fin 16) (l : Fin 9) (c : Cmd) (q : LaunchReq), (s.txl o l).cur = some q → q.cmd = some c →
    c.epoch = s.host.epoch →
    (s.txState o l = 2 ∨ s.txState o l = 4 → (s.txl o l).start + (s.txl o l).len ≤ s.tick + 1 →
      Gives (.rampEnd o l) s fun t => t.txState o l = 3 ∧ (t.txl o l).cur = none ∧ Answers s t c q.op.code St.OK
        ∧ t.f (R.TX_LANE_STAT o l) F.TX_LANE_STAT_CUR_STEP = s.f (R.TX_LANE_STAT o l) F.TX_LANE_STAT_TARGET_STEP)
    ∧ (s.txState o l = 5 → (s.txl o l).retire = false → (s.txl o l).start + (s.txl o l).len ≤ s.tick + 1 →
      Gives (.rampEnd o l) s fun t => t.txState o l = 0 ∧ Answers s t c q.op.code St.OK)
    ∧ (s.txState o l = 1 → (s.txl o l).start + s.f (R.TX_SYN_CTL o) F.TX_SYN_CTL_PLL_LOCK_TIMEOUT ≤ s.tick →
      s.synRun o = false →
      Gives (.lockTimeout o l) s fun t => t.txState o l = 0 ∧ (t.txl o l).cur = none ∧ Answers s t c q.op.code St.LOCK_TIMEOUT)

/-! ## Line receive and the frame (chapters 4 and 5) -/

/-- Staged receive changes (R127, R134, R136 to R138): the commands and adaptation stage a swap, and a swap that lands exchanges the
banks of its lanes and completes. -/
def Claims.ReceiveChangesAreStagedAndLand : Prop :=
  ∀ (s : State) (c : Cmd) (ob mb : BitVec 8) (mask : BitVec 16) (o : Fin 16) (l : Fin 9) (sums : List Int) (pos : List Nat),
    ob.toNat = o.val →
    (s.ffeSwapRefusal o mask.toNat = none →
      Gives (.ffeSwap c ob mask) s fun t =>
        t.swaps o = s.swaps o ++ [⟨mask.toNat, s.tick, some { c with eff := s.tick }, none, false⟩])
    ∧ (s.ffeModeRefusal o mb.toNat = none →
      Gives (.ffeMode c ob mb) s fun t =>
        ∃ m, t.swaps o = s.swaps o ++ [⟨m, s.tick, some { c with eff := s.tick }, some mb.toNat, false⟩])
    ∧ (s.ffeOn o l = true → s.adapt o l = 1 → s.tick % s.f (R.FFE_CTL o l) F.FFE_CTL_ADAPT_PERIOD = 0 →
      s.swapStaged o l = false →
      Gives (.ffeAdaptUpdate o l sums) s fun t => t.swaps o = s.swaps o ++ [⟨2 ^ l.val, s.tick + 1, none, none, true⟩])
    ∧ (∀ w, s.swaps o = [w] → w.due ≤ s.tick → w.mode = none → w.cmd = some c → c.epoch = s.host.epoch →
      Gives (.rxChangeLand o pos) s fun t => t.swaps o = [] ∧ Answers s t c Op.FFE_SWAP St.OK
        ∧ t.f (R.FFE_STAT o l) F.FFE_STAT_ACTIVE_BANK
          = if bitOf w.mask l then 1 - s.f (R.FFE_STAT o l) F.FFE_STAT_ACTIVE_BANK
            else s.f (R.FFE_STAT o l) F.FFE_STAT_ACTIVE_BANK)

/-- A threshold unit asserts after SET_N qualifying outputs and clears after CLR_N (R149). -/
def Claims.ThresholdsAssertAndClear : Prop :=
  ∀ (s : State) (o : Fin 16) (l : Fin 9) (u : Fin 4), s.octOn o = true → s.b (monThr o l u) F.MON_THR_x_EN = true →
    (s.b (R.MON_STAT o l) (monBit u) = false → s.f (monThr o l u) F.MON_THR_x_SET_N ≤ (s.rxl o l).setN.getD u 0 →
      Gives (.monThreshold o l u) s fun t => t.b (R.MON_STAT o l) (monBit u) = true ∧ Posts s t (monEv u) o l false)
    ∧ (s.b (R.MON_STAT o l) (monBit u) = true → s.f (monThr o l u) F.MON_THR_x_CLR_N ≤ (s.rxl o l).clrN.getD u 0 →
      Gives (.monThreshold o l u) s fun t => t.b (R.MON_STAT o l) (monBit u) = false ∧ Posts s t (monEv u) o l true)

/-- A codeword of client data (R184, R185): a correctable one adds its corrected symbols, an uncorrectable one counts as such and
enters the frame's count; both are counted. -/
def Obligations.CodewordsAreCounted : Prop :=
  ∀ (s : State) (o : Fin 16) (l : Fin 9) (cw : Fin 808) (p : BitVec 5140) (errs rel : List (Nat × Nat)) (arr : Int),
    s.octOn o = true → s.yfecOn o = true → s.rxLock o l = true → l.val < 8 → s.stdMode o = false → cw.val % 101 ≠ 0 →
    cw.val ≠ 807 →
    ((decodeOf false errs (s.erased o l rel)).ok = true →
      Gives (.codewordDecode o l cw p errs ⟨[], rel⟩ arr) s fun t =>
        t.f (R.FEC_CW o l) F.FEC_CW_CNT = satAdd F.FEC_CW_CNT.w (s.f (R.FEC_CW o l) F.FEC_CW_CNT) 1
        ∧ t.f (R.FEC_CORR_SYM o l) F.FEC_CORR_SYM_CNT = satAdd F.FEC_CORR_SYM_CNT.w (s.f (R.FEC_CORR_SYM o l) F.FEC_CORR_SYM_CNT)
          ((decodeOf false errs (s.erased o l rel)).e + (decodeOf false errs (s.erased o l rel)).hit)
        ∧ (t.fl o l).unc = (s.fl o l).unc)
    ∧ ((decodeOf false errs (s.erased o l rel)).ok = false →
      Gives (.codewordDecode o l cw p errs ⟨[], rel⟩ arr) s fun t =>
        t.f (R.FEC_CW o l) F.FEC_CW_CNT = satAdd F.FEC_CW_CNT.w (s.f (R.FEC_CW o l) F.FEC_CW_CNT) 1
        ∧ t.f (R.FEC_UNC_CW o l) F.FEC_UNC_CW_CNT = satAdd F.FEC_UNC_CW_CNT.w (s.f (R.FEC_UNC_CW o l) F.FEC_UNC_CW_CNT) 1
        ∧ t.f (R.FEC_CORR_SYM o l) F.FEC_CORR_SYM_CNT = s.f (R.FEC_CORR_SYM o l) F.FEC_CORR_SYM_CNT
        ∧ (t.fl o l).unc = (s.fl o l).unc + 1)
    ∧ (∀ fc n k, (s.fl o l).done = some (fc, n, k) → Gives (.fecUncorr o l) s fun t => Posts s t Ev.FEC_UNCORR o l false)

/-- The decoder corrects exactly where 2e + f does not exceed 40, e being the symbol errors outside the f erasures (R184). -/
def Claims.DecoderLimit : Prop :=
  ∀ (errs : List (Nat × Nat)) (era : List Nat), (∀ x ∈ errs, x.1 < 540 ∧ x.2 % 1024 ≠ 0) →
    ((decodeOf false errs era).ok = true ↔
      2 * (errs.filter fun x => !era.contains x.1).length + era.length ≤ 40)

/-- The frame that starts in a tick carries the next frame count, and the count returns to 0 while every lane is dark (R157, R168). -/
def Claims.FramesCount : Prop :=
  ∀ (s : State) (o : Fin 16), s.octOn o = true → s.yfecOn o = true → s.stdMode o = false → (s.fo o).last ≠ some s.tick →
    (s.octDark o = false → s.synRun o = true →
      Gives (.frameStart o) s fun t => (t.fo o).fc = ((s.fo o).fc + 1) % 2 ^ 48 ∧ (t.fo o).run = true ∧ (t.fo o).last = some s.tick)
    ∧ (s.octDark o = true → Gives (.frameStart o) s fun t => (t.fo o).fc = 0 ∧ (t.fo o).run = false ∧ (t.fo o).sent = [])

/-- Calendar pages take force (R178, R182): the announced page two frames after its announcement, on the receive side in the frame that
it names, and a carried page once all its parts are there. -/
def Claims.CalendarPagesTakeForce : Prop :=
  ∀ (s : State) (o : Fin 16),
    (∀ p t0, (s.fo o).txNext = some (p, t0) → t0 + 2 ≤ s.tick → lanes9.find? (fun l => (s.aq o l).service) = none →
      Gives (.calSwitch o) s fun t => (t.fo o).txPage = p ∧ (t.fo o).txNext = none
        ∧ t.f (R.CAL_STAT o) F.CAL_STAT_TX_SEQ = p.seq % 256 ∧ t.f (R.CAL_STAT o) F.CAL_STAT_TX_ANN = 0)
    ∧ (∀ l a, lanes9.find? (fun l => (s.aq o l).service) = some l → (s.fo o).txNext = none → (s.fo o).ann = some a →
      (s.fl o l).rxFc % 2 ^ 16 = a.switchFc →
      Gives (.calSwitch o) s fun t => (t.fo o).rxPage = some (asPage a.seq a.slots) ∧ (t.fo o).ann = none)
    ∧ (∀ a, (s.fo o).ann = none → (s.fo o).carried = some a → a.parts = 255 →
      Gives (.pageAdopt o) s fun t => (t.fo o).rxPage = some (asPage a.seq a.slots) ∧ (t.fo o).carried = none)

/-- R163: the last group's mapping aside, the symbol of a pair of bits is the Gray code 0, 1, 2, 3 of (m, b) = 00, 01, 11, 10; each codeword
has 2,880 symbols, and every symbol is at most 3 (R161 to R163). -/
def Claims.CodewordsAre2880Symbols : Prop :=
  ∀ (scr clear : Nat) (pay : List Bool), pay.length = 5000 →
    (codewordSymbols scr clear pay).length = 2880 ∧ ∀ x ∈ codewordSymbols scr clear pay, x ≤ 3

/-! ## Acquisition and alignment (chapter 6) -/

/-- Loss of signal and of the tone (R122, R202, R206). -/
def Obligations.SignalAndTone : Prop :=
  ∀ (s : State) (o : Fin 16) (l : Fin 9),
    (s.octOn o = true → s.rxRetired o l = false → s.rawLos o l = false → s.losJudged o l true = true →
      Gives (.rawLos o l true) s fun t => t.rawLos o l = true ∧ Posts s t Ev.RAW_LOS o l false)
    ∧ (s.octOn o = true → s.rxRetired o l = false → s.rawLos o l = true → s.losJudged o l false = true →
      Gives (.rawLos o l false) s fun t => t.rawLos o l = false ∧ Posts s t Ev.RAW_LOS o l true)
    ∧ (s.octOn o = true → s.stdMode o = false → s.rxRetired o 8 = false → s.rawLos o 8 = false → s.lcData o = false →
      s.toneLock o = false →
      Gives (.toneLock o) s fun t => t.toneLock o = true ∧ Posts s t Ev.ACQ_LOCK o 8 false)
    ∧ (s.toneLock o = true → Gives (.toneLoss o) s fun t => t.toneLock o = false)

/-- The states of acquisition that end by themselves (R204, R206, R210). -/
def Claims.AcquisitionAdvances : Prop :=
  ∀ (s : State) (o : Fin 16) (l : Fin 9) (k : Fin 64) (hits exact : Nat) (ae cs : Bool),
    (s.acqState o l = 2 → (s.aq o l).since + 8 ≤ s.tick →
      Gives (.phaseSweepEnd o l k) s fun t => t.acqState o l = 3
        ∧ t.f (R.RX_PI o l) F.RX_PI_CODE = ((s.aq o l).sweep + 224 + k) % 256
        ∧ t.f (R.RX_PI o l) F.RX_PI_TARGET = t.f (R.RX_PI o l) F.RX_PI_CODE)
    ∧ (s.acqState o l = 7 → l.val < 8 → Gives (.cdrLock o l) s fun t => t.acqState o l = 3)
    ∧ (s.acqState o l = 7 → (s.aq o l).since + 4 ≤ s.tick →
      Gives (.cdrAcqTimeout o l) s fun t => Posts s t Ev.ACQ_FAIL o l false)
    ∧ (s.acqState o l = 3 → (s.aq o l).since + s.f (R.ACQ_CTL o) F.ACQ_CTL_EQ_TICKS ≤ s.tick →
      Gives (.eqSettled o l) s fun t => t.acqState o l = 4)
    ∧ (s.acqState o l = 4 → l.val < 8 → s.stdMode o = false → s.f (R.ACQ_CTL o) F.ACQ_CTL_HIT_MIN ≤ exact →
      Gives (.markerResult o l hits exact ae cs) s fun t => t.acqState o l = 5)
    ∧ (s.acqState o l = 5 → l.val < 8 → s.stdMode o = false →
      Gives (.markerResult o l hits exact true true) s fun t => t.acqState o l = 5 ∧ (t.aq o l).verify = (s.aq o l).verify + 1)
    ∧ (s.acqState o l = 4 → (s.aq o l).since + 255 ≤ s.tick →
      Gives (.searchTimeout o l) s fun t => Posts s t Ev.ACQ_FAIL o l false)

/-- SLIP, ACQ_RESTART and a loss of lock (R206, R211, R212, R235, R446). -/
def Claims.AcquisitionCommands : Prop :=
  ∀ (s : State) (c : Cmd) (ob lb nb cb : BitVec 8) (mask : BitVec 16) (o : Fin 16) (l : Fin 9), ob.toNat = o.val → lb.toNat = l.val →
    c.epoch = s.host.epoch →
    (s.stdMode o = false → s.b (R.ACQ_CTL o) F.ACQ_CTL_OWNER = true → s.clkMode o = false → s.acqState o l = 4 →
      (s.aq o l).lastSub ≠ some s.tick → 1 ≤ nb.toNat → nb.toNat < 64 → cb.toNat = 0 →
      Gives (.slip c ob lb nb cb) s fun t => (t.aq o l).point = ((s.aq o l).point + nb.toNat) % 2880 ∧ t.acqState o l = 4
        ∧ Answers s t c Op.SLIP St.OK)
    ∧ (s.stdMode o = false → (s.b (R.ACQ_CTL o) F.ACQ_CTL_OWNER = false ∨ s.clkMode o = true) → cb.toNat = 1 →
      Gives (.slip c ob lb nb cb) s fun t => t.acq = s.acq ∧ Answers s t c Op.SLIP St.NOT_OWNER)
    ∧ (s.octOn o = true → mask.toNat < 512 → (∀ k, k < 9 → bitOf mask.toNat k = true → s.rxRetired o k = false) →
      Gives (.acqRestart c ob mask) s fun t => Answers s t c Op.ACQ_RESTART St.OK
        ∧ ∀ k, k < 8 → bitOf mask.toNat k = true → (t.fltUnit 0 o k).armed = false)
    ∧ (s.acqState o l = 6 → l.val < 8 →
      Gives (.acqLost o l true) s fun t => Posts s t Ev.ACQ_LOST o l false ∧ t.rxLock o l = false)

/-- The octet's alignment, its deskew window and the change of clock recovery (R214, R215, R218, R225). -/
def Claims.OctetsAlign : Prop :=
  ∀ (s : State) (o : Fin 16) (l : Fin 9),
    (s.octOn o = true → s.stdMode o = false → s.slotLanes o ≠ [] → s.anyService o = false →
      (∀ k ∈ s.slotLanes o, s.rxLock o k = true ∧ (s.aq o k).known = true) →
      (arrivalSpan ((s.slotLanes o).map fun k => (s.aq o k).arrival)).2 ≤ 64 →
      Gives (.octAligned o) s fun t => t.b (R.ACQ_STAT o) F.ACQ_STAT_OCT_ALIGNED = true
        ∧ ∀ k ∈ s.slotLanes o, (t.aq o k).service = true)
    ∧ (s.rxLock o l = true → (s.aq o l).known = true → s.b (R.ACQ_STAT o) F.ACQ_STAT_OCT_ALIGNED = true →
      32 < (s.skewOf o (s.aq o l).arrival).natAbs → (s.aq o l).service = false →
      Gives (.skewRange o l) s fun t => Posts s t Ev.SKEW_RANGE o l false)
    ∧ (s.rxLock o l = true → (s.aq o l).known = true → s.b (R.ACQ_STAT o) F.ACQ_STAT_OCT_ALIGNED = true →
      32 < (s.skewOf o (s.aq o l).arrival).natAbs → (s.aq o l).service = true →
      Gives (.skewRange o l) s fun t => Posts s t Ev.ACQ_LOST o l false)
    ∧ ((s.ao o).clkStaged = true →
      Gives (.clkModeLand o) s fun t => t.clkMode o = true ∧ (t.ao o).clkStaged = false
        ∧ (s.b (R.ACQ_STAT o) F.ACQ_STAT_OCT_ALIGNED = true → t.readPos o = (s.readPos o + 1423) % 2332800))
    ∧ (s.octOn o = true → s.stdMode o = true → l.val < 8 → s.acqState o l = 4 →
      (∀ k ∈ s.linePhy o l, (s.acqState o k = 4 ∨ s.acqState o k = 6) ∧ s.rawLos o k = false) →
      Gives (.stdAmLock o) s fun t => t.rxLock o l = true ∧ (t.aq o l).service = true)

/-- The receive end of a conversion (R222). -/
def Claims.ConversionAtTheReceiver : Prop :=
  ∀ (s : State) (o : Fin 16),
    (∀ t0, (s.ao o).convDue = some t0 → t0 ≤ s.tick → s.convRx o = 1 →
      Gives (.convStart o) s fun t => (t.ao o).convDue = none ∧ Posts s t Ev.CONV_START o (s.convRxLane o) false
        ∧ ((t.ao o).clkStaged = true ∨ s.clkMode o = true))
    ∧ (s.convRx o = 1 → (s.ao o).convDue = none → (s.ao o).convTick + s.convLimit o ≤ s.tick → (s.ao o).convExp < 2 →
      Gives (.convTimeout o) s fun t => (t.ao o).convExp = (s.ao o).convExp + 1 ∧ t.convRx o = 1)
    ∧ (s.convRx o = 1 → (s.ao o).convDue = none → (s.ao o).convTick + s.convLimit o ≤ s.tick → 2 ≤ (s.ao o).convExp →
      Gives (.convTimeout o) s fun t => t.convRx o = 5 ∧ Posts s t Ev.CONV_FAIL o (s.convRxLane o) false)
    ∧ (s.convRx o = 1 ∨ s.convRx o = 2 →
      Gives (.lcToneEnd o) s fun t => t.convRx o = 3 ∧ t.acqState o 8 = 7 ∧ t.toneLock o = false)
    ∧ (∀ d, s.framesPastB o = some d → 2 ≤ d → s.convRx o = 3 → s.rxLock o 8 = true → s.convRxLane o < 8 →
      s.f (R.FRM_LANE_STAT o 8) F.FRM_LANE_STAT_RX_BRIDGE = s.convRxLane o →
      Gives (.convSelect o) s fun t => t.convRx o = 4 ∧ t.rxRetired o (s.convRxLane o) = true
        ∧ Posts s t Ev.CONV_SELECT o (s.convRxLane o) false)
    ∧ (s.convRx o = 3 → s.rxLock o 8 = false → Gives (.convLcFail o true) s fun t => t.convRx o = 5)
    ∧ (s.convRx o = 4 → (s.ao o).doneOwed = true → (s.ao o).convTick + s.convLimit o ≤ s.tick →
      Gives (.convDoneRepeat o) s fun t =>
        if s.f (R.FRM_RX_OAM o (s.convRxLane o)) F.FRM_RX_OAM_LANE_STATE = 4 then (t.ao o).doneOwed = false
        else (t.ao o).convTick = s.tick)

/-- The transmit end of a conversion, and retirement by command (R220, R223, R231, R234, R235). -/
def Obligations.RetirementByCommand : Prop :=
  ∀ (s : State) (c : Cmd) (ob lb db rb : BitVec 8) (o : Fin 16) (l : Fin 8), ob.toNat = o.val → lb.toNat = l.val →
    (s.convTx o = 1 → s.fcAhead o 0 = s.f (R.CONV_STAT o) F.CONV_STAT_TX_B →
      Gives (.bridgeStart o) s fun t => t.convTx o = 2 ∧ t.f (R.TONE_CTL o) F.TONE_CTL_TONE_EN = 0)
    ∧ (db.toNat = 1 → s.laneRetireRefusal o l true = none → s.convNak o = 0 →
      Gives (.laneRetire c ob lb db rb) s fun t => t.convTx o = 1 ∧ t.convTxLane o = l.val ∧ (t.ao o).ackDue = some (s.tick + 1))
    ∧ (db.toNat = 0 → s.laneRetireRefusal o l false = none → s.convPossible o = true →
      Gives (.laneRetire c ob lb db rb) s fun t => t.convRx o = 1 ∧ t.convRxLane o = l.val
        ∧ (t.ao o).convDue = some (s.tick + 1))
    ∧ (db.toNat = 0 → s.laneRetireRefusal o l false = none → s.convPossible o = false → c.epoch = s.host.epoch →
      Gives (.laneRetire c ob lb db rb) s fun t => t.rxRetired o l = true ∧ Answers s t c Op.LANE_RETIRE St.OK)
    ∧ (s.octOn o = true → s.octFree o = true → c.epoch = s.host.epoch →
      Gives (.laneRestore c ob) s fun t => Answers s t c Op.LANE_RESTORE St.OK ∧ t.convRx o = 0 ∧ t.convTx o = 0
        ∧ ∀ k, k < 9 → t.rxRetired o k = false ∧ t.txRetired o k = false)

/-! ## Slot lanes (chapter 7) -/

/-- Negotiation and training of a PHY (R243 to R245): AN ends in training or acquisition where the partner advertises what the PHY does, training
ends in acquisition with the taps in force as the new targets, and failures are counted and posted. -/
def Claims.SlotPhysTrain : Prop :=
  ∀ (s : State) (g i : Fin 16) (ts : List (Nat × Nat)) (fs : List Nat), s.phyHead g i = i.val →
    (s.slState g i = 1 → s.anTech g i ∈ ts → s.anFec g i ∈ fs →
      Gives (.anComplete g ⟨i, ts, fs⟩) s fun t =>
        ∀ k ∈ s.phy g i, t.slState g k = if s.slF g i F.SL_CTL_LT_EN = 1 then 2 else 3)
    ∧ (s.slState g i = 1 → s.anTech g i ∉ ts ∨ s.anFec g i ∉ fs → Gives (.anComplete g ⟨i, ts, fs⟩) s fun t => t = s)
    ∧ (s.slState g i = 1 → 50000 ≤ (s.slo g i).anTicks →
      Gives (.anFail g i) s fun t => t.slState g i = 1 ∧ Posts s t Ev.AN_FAIL g i false
        ∧ t.f (R.SL_CNT g i) F.SL_CNT_AN_FAIL_CNT = satAdd 16 (s.f (R.SL_CNT g i) F.SL_CNT_AN_FAIL_CNT) 1)
    ∧ (s.slState g i = 2 →
      Gives (.trainComplete g i) s fun t => ∀ k ∈ s.phy g i, t.slState g k = 3
        ∧ t.b (R.SL_TXEQ g k) F.SL_TXEQ_TRAINED = true
        ∧ (∀ e ∈ tapsAt (s.slF g k F.SL_CTL_RATE), t.f (R.SL_TXEQ g k) e.2 = t.f (R.SL_TXEQ g k) (curTap e.1))
        ∧ (s.slF g k F.SL_CTL_RATE < 2 → t.f (R.SL_TXEQ g k) F.SL_TXEQ_CM3_TGT = s.f (R.SL_TXEQ g k) F.SL_TXEQ_CM3_TGT))
    ∧ (s.slState g i = 2 → (s.fltUnit 1 g i).armed = false →
      Gives (.ltFail g i) s fun t => Posts s t Ev.LT_FAIL g i false
        ∧ t.f (R.SL_CNT g i) F.SL_CNT_LT_FAIL_CNT = satAdd 16 (s.f (R.SL_CNT g i) F.SL_CNT_LT_FAIL_CNT) 1
        ∧ ∀ k ∈ s.phy g i, t.slState g k = if s.slF g i F.SL_CTL_AN_EN = 1 then 1 else 2)

/-- A PHY reaches UP, loses lock or its signal, and is retrained by command (R245, R268): leaving UP posts SL_DOWN and starts the PHY
anew. -/
def Claims.SlotPhysGoUpAndDown : Prop :=
  ∀ (s : State) (c : Cmd) (gb : BitVec 8) (mask : BitVec 16) (g i : Fin 16), s.phyHead g i = i.val →
    (s.slState g i = 3 → (∀ k ∈ s.phy g i, s.b (R.SL_STAT g k) F.SL_STAT_RAW_LOS = false) →
      Gives (.slUp g i) s fun t => Posts s t Ev.SL_UP g i false
        ∧ ∀ k ∈ s.phy g i, t.slState g k = 4 ∧ t.b (R.SL_STAT g k) F.SL_STAT_LOCK = true)
    ∧ (s.slState g i = 4 → (s.fltUnit 1 g i).armed = false →
      Gives (.slDown g i) s fun t => Posts s t Ev.SL_DOWN g i false ∧ (∀ k ∈ s.phy g i, t.slState g k = s.phyEntry g i)
        ∧ t.f (R.SL_CNT g i) F.SL_CNT_DOWN_CNT = satAdd 16 (s.f (R.SL_CNT g i) F.SL_CNT_DOWN_CNT) 1)
    ∧ (s.sgOn g = true → s.b (R.SL_STAT g i) F.SL_STAT_RAW_LOS = false → s.slState g i = 4 →
      Gives (.slotRawLos g i true) s fun t => t.b (R.SL_STAT g i) F.SL_STAT_RAW_LOS = true ∧ Posts s t Ev.SL_DOWN g i false
        ∧ ∀ k ∈ s.phy g i, t.slState g k = s.phyEntry g i)
    ∧ (s.sgOn g = true → s.b (R.SL_STAT g i) F.SL_STAT_RAW_LOS = true → (s.fltUnit 1 g i).armed = false →
      Gives (.slotRawLos g i false) s fun t => t.b (R.SL_STAT g i) F.SL_STAT_RAW_LOS = false ∧ t.slState g i = s.slState g i)
    ∧ (gb.toNat = g.val → s.sgOn g = true → c.epoch = s.host.epoch →
      (∀ k, k < 16 → bitOf mask.toNat k = true → ∀ m ∈ s.phy g k, bitOf mask.toNat m = true) →
      Gives (.slRetrain c gb mask) s fun t => Answers s t c Op.SL_RETRAIN St.OK
        ∧ (bitOf mask.toNat i = true → s.slState g i ≠ 0 →
          t.slState g i = if s.phyRuns g i then s.phyEntry g i else 0))

/-! ## Clients and route protection (chapters 7 and 8) -/

/-- Clients (R254 to R257, R268): an add that passes every check defines the client, a class change and new slots take effect, a delete
removes the definition; CLIENT_EXISTS and NO_CLIENT are answered with nothing changed. -/
def Obligations.ClientsAreAddedAndDeleted : Prop :=
  ∀ (s : State) (c : Cmd) (a : ClientAddArgs) (cb : BitVec 16) (wb kb ab yb : BitVec 8) (mask : BitVec 128), s.holdsLock = true →
    c.epoch = s.host.epoch →
    (s.addAccept a = none → s.addTick a = none →
      Gives (.clientAdd c a) s fun t => Answers s t c Op.CLIENT_ADD St.OK ∧ t.defined a.client.toNat = true
        ∧ t.cls a.client.toNat = a.cls.toNat ∧ t.ends a.client.toNat = a.ends.toNat ∧ t.need a.client.toNat = a.slots
        ∧ a.client.toNat ∈ t.map.defined)
    ∧ (s.addFieldsOk a = true → s.defined a.client.toNat = true →
      Gives (.clientAdd c a) s fun t => Answers s t c Op.CLIENT_ADD St.CLIENT_EXISTS ∧ t.map = s.map ∧ t.frame = s.frame
        ∧ ∀ x, t.reg x = s.reg x)
    ∧ (cb.toNat < 512 → s.defined cb.toNat = true → wb.toNat = 1 → (s.cls cb.toNat = 2 ∨ s.cls cb.toNat = 3) →
      (kb.toNat = 2 ∨ kb.toNat = 3) →
      Gives (.clientModify c cb wb kb ab yb mask) s fun t => Answers s t c Op.CLIENT_MODIFY St.OK
        ∧ t.cls cb.toNat = kb.toNat ∧ t.frame = s.frame)
    ∧ (cb.toNat < 512 → s.defined cb.toNat = true → wb.toNat = 2 →
      s.modifySlotsBad cb.toNat yb.toNat (ab.toNat % 2 == 1) mask.toNat = false →
      ∀ o l, s.moveSlots cb.toNat yb.toNat (ab.toNat % 2 == 1) mask.toNat = some (o, l) → s.calBusy o = false →
        s.stdMode o = false →
      Gives (.clientModify c cb wb kb ab yb mask) s fun t => Answers s t c Op.CLIENT_MODIFY St.OK
        ∧ ∃ p, (t.fo o).plan = some p ∧ ∀ k ∈ l, p.tag k = some cb.toNat)
    ∧ (cb.toNat < 512 → s.defined cb.toNat = true → (∀ o ∈ s.sinkOcts cb.toNat, s.calBusy o = false) →
      Gives (.clientDelete c cb) s fun t => Answers s t c Op.CLIENT_DELETE St.OK ∧ t.defined cb.toNat = false
        ∧ cb.toNat ∉ t.map.defined)
    ∧ (cb.toNat < 512 → s.defined cb.toNat = false →
      Gives (.clientDelete c cb) s fun t => Answers s t c Op.CLIENT_DELETE St.NO_CLIENT ∧ t.map = s.map ∧ t.frame = s.frame
        ∧ ∀ x, t.reg x = s.reg x)

/-- The requests of R289: expired timers and commands move the active route, and PROT_SET changes the configuration. -/
def Claims.ProtectionSelectsRoutes : Prop :=
  ∀ (s : State) (d : Cmd) (c : Fin 512) (cb hb : BitVec 16) (fb ub qb : BitVec 8) (wb : BitVec 32), s.isB c = true →
    ((s.cli c).holdKind ≠ 0 → s.f (R.PROT_STAT c) F.PROT_STAT_HOLD_LEFT = 0 → (s.cli c).force = none → (s.cli c).manual = none →
      s.protReq c = (s.cli c).holdKind →
      Gives (.holdOffExpiry c) s fun t => t.active c = 1 - s.active c ∧ Posts s t Ev.PROT_SWITCH c noLane false
        ∧ t.f (R.PROT_CNT c) F.PROT_CNT_SWITCH_CNT = satAdd 16 (s.f (R.PROT_CNT c) F.PROT_CNT_SWITCH_CNT) 1)
    ∧ ((s.cli c).wtrRun = true → s.f (R.PROT_STAT c) F.PROT_STAT_WTR_LEFT = 0 → (s.cli c).force = none →
      (s.cli c).manual = none → s.active c ≠ s.f (R.PROT_CFG c) F.PROT_CFG_PREF →
      s.sf c (1 - s.active c) = false → s.sd c (1 - s.active c) = false →
      Gives (.wtrExpiry c) s fun t => t.active c = s.f (R.PROT_CFG c) F.PROT_CFG_PREF
        ∧ Posts s t Ev.PROT_SWITCH c noLane false)
    ∧ (s.holdsLock = true → d.epoch = s.host.epoch → cb.toNat = c.val → (qb.toNat = 1 ∨ qb.toNat = 2) →
      Gives (.protReq d cb qb) s fun t => Answers s t d Op.PROT_REQ St.OK ∧ t.active c = qb.toNat - 1
        ∧ t.f (R.PROT_STAT c) F.PROT_STAT_REQ = 5 ∧ (t.cli c).force = some (qb.toNat - 1))
    ∧ (s.holdsLock = true → d.epoch = s.host.epoch → cb.toNat = c.val → qb.toNat = 0 →
      Gives (.protReq d cb qb) s fun t => Answers s t d Op.PROT_REQ St.OK ∧ (t.cli c).force = none ∧ (t.cli c).manual = none)
    ∧ (s.holdsLock = true → d.epoch = s.host.epoch → cb.toNat = c.val →
      protFieldsOk fb.toNat ub.toNat hb.toNat wb.toNat = true →
      Gives (.protSet d cb fb ub hb wb) s fun t => Answers s t d Op.PROT_SET St.OK
        ∧ t.f (R.PROT_CFG c) F.PROT_CFG_UNC_THR = ub.toNat ∧ t.f (R.PROT_CFG c) F.PROT_CFG_HOLD_OFF = hb.toNat
        ∧ t.f (R.PROT_CFG c) F.PROT_CFG_WTR = wb.toNat ∧ t.f (R.PROT_CFG c) F.PROT_CFG_PREF = fb.toNat % 2)

/-- The selector's states (R259, R280, R286, R287, R290). -/
def Claims.ProtectionStatesFollowTheDelay : Prop :=
  ∀ (s : State) (c : Fin 512) (c0 c1 one both : Nat), 
    (s.defined c = true →
      Gives (.recentre c) s fun t => Posts s t Ev.RECENTRE c noLane false
        ∧ t.f (R.MAP_CLI_STAT c) F.MAP_CLI_STAT_RECENTRE_CNT
          = satAdd 16 (s.f (R.MAP_CLI_STAT c) F.MAP_CLI_STAT_RECENTRE_CNT) 1)
    ∧ (s.isB c = true → s.protState c = 3 → c0 ≠ c1 →
      Gives (.subframeSelect c c0 c1 one both) s fun t =>
        t.f (R.PROT_CNT c) F.PROT_CNT_CMIS_CNT = satAdd 16 (s.f (R.PROT_CNT c) F.PROT_CNT_CMIS_CNT) 1
        ∧ t.f (R.PROT_CNT c) F.PROT_CNT_REPAIR_CNT = s.f (R.PROT_CNT c) F.PROT_CNT_REPAIR_CNT
        ∧ ((s.cli c).cmisTick ≠ some s.tick → Posts s t Ev.C_MISMATCH c noLane false))
    ∧ (s.isB c = true → s.protState c = 3 → c0 = c1 → s.b (R.PROT_CFG c) F.PROT_CFG_REPAIR = true →
      Gives (.subframeSelect c c0 c1 one both) s fun t =>
        t.f (R.PROT_CNT c) F.PROT_CNT_REPAIR_CNT = satAdd 32 (s.f (R.PROT_CNT c) F.PROT_CNT_REPAIR_CNT) one
        ∧ t.f (R.PROT_CNT2 c) F.PROT_CNT2_BOTH_BAD
          = satAdd F.PROT_CNT2_BOTH_BAD.w (s.f (R.PROT_CNT2 c) F.PROT_CNT2_BOTH_BAD) both)
    ∧ (s.isB c = true → s.protState c = 3 → 8 ≤ (s.cli c).overN →
      Gives (.delayExcess c) s fun t => t.protState c = 4 ∧ Posts s t Ev.DELAY_EXCESS c noLane false
        ∧ Posts s t Ev.RECENTRE c noLane false)
    ∧ (s.isB c = true → s.protState c = 4 → 8 ≤ (s.cli c).underN →
      Gives (.delayReturn c) s fun t => t.protState c = 3 ∧ Posts s t Ev.RECENTRE c noLane false)
    ∧ (s.isB c = true → s.protState c = 3 → 8 ≤ (s.cli c).signN →
      Gives (.dSignReverse c) s fun t => t.protState c = 3 ∧ (t.cli c).store = 1 - (s.cli c).store
        ∧ (t.cli c).signN = 0 ∧ Posts s t Ev.RECENTRE c noLane false)
    ∧ (s.isB c = true → s.protState c = 1 → 600 ≤ (s.cli c).aloneN → (s.cli c).aloneR < 2 →
      Gives (.singleTimeout c) s fun t => t.protState c = 2 ∧ t.active c = (s.cli c).aloneR)
    ∧ (s.isB c = true → (s.protState c = 2 ∨ s.protState c = 3 ∨ s.protState c = 4) → 600 ≤ (s.cli c).goneN →
      Gives (.tagLossTimeout c) s fun t => t.protState c = 1)

/-- The deskew store's channels (R294 to R296): trained together, retrained on a change of temperature, and one that fails takes the
store out of service. -/
def Obligations.DeskewChannelsTrainAndFail : Prop :=
  ∀ (s : State) (ch : Fin 24) (c : Fin 512), s.isOn domGDDR = true →
    (s.b R.GD_STAT F.GD_STAT_READY = false → s.f R.GD_STAT F.GD_STAT_CH_FAIL = 0 →
      s.b (R.GD_CH_STAT ch) F.GD_CH_STAT_FAIL = false → (∀ x ∈ s.classB, s.protState x ≠ 5) →
      Gives .gdTrainingDone s fun t => t.b R.GD_STAT F.GD_STAT_READY = true
        ∧ t.b (R.GD_CH_STAT ch) F.GD_CH_STAT_TRAINED = true ∧ t.i (R.GD_CH_STAT ch) F.GD_CH_STAT_TRAIN_TEMP = s.mastTemp)
    ∧ (s.b R.GD_STAT F.GD_STAT_READY = false → s.f R.GD_STAT F.GD_STAT_CH_FAIL = 0 → s.classB = [c.val] → s.protState c = 5 →
      Gives .gdTrainingDone s fun t => t.protState c = 1)
    ∧ (s.b (R.GD_CH_STAT ch) F.GD_CH_STAT_TRAINED = true → s.b (R.GD_CH_STAT ch) F.GD_CH_STAT_FAIL = false →
      50 * s.f R.GD_CTL F.GD_CTL_RETRAIN_DT < (s.mastTemp - s.i (R.GD_CH_STAT ch) F.GD_CH_STAT_TRAIN_TEMP).natAbs →
      Gives (.gdRetrain ch) s fun t => t.i (R.GD_CH_STAT ch) F.GD_CH_STAT_TRAIN_TEMP = s.mastTemp
        ∧ t.f R.GD_STAT F.GD_STAT_RETRAIN_CNT = satAdd 16 (s.f R.GD_STAT F.GD_STAT_RETRAIN_CNT) 1)
    ∧ (s.b R.GD_STAT F.GD_STAT_READY = true → s.classB = [c.val] →
      Gives (.gdChannelFail ch) s fun t => t.b R.GD_STAT F.GD_STAT_READY = false ∧ t.protState c = 5
        ∧ t.b (R.GD_CH_STAT ch) F.GD_CH_STAT_FAIL = true ∧ t.b (R.GD_CH_STAT ch) F.GD_CH_STAT_TRAINED = false
        ∧ bitOf (t.f R.GD_STAT F.GD_STAT_CH_FAIL) ch = true ∧ Posts s t Ev.DSK_FAIL c noLane false)

/-! ## The Halyard channel (chapter 9) -/

/-- Messages out (R307, R310, R318, R322, R323, R327, R331): HALY_SEND queues its message, a boundary starts the first one that has a
usable path and completes the one sent, and messages without a path expire. -/
def Claims.HalyardMessagesAreSent : Prop :=
  ∀ (s : State) (c : Cmd) (ob db pb rb : BitVec 8) (len : BitVec 16) (addr : BitVec 64) (mem : List Byte) (o : Fin 16)
    (cyc : Fin 6250) (m : HalyMsg) (l : List HalyMsg), ob.toNat = o.val →
    (s.halSendRefusal o db.toNat pb.toNat rb.toNat len.toNat addr.toNat = none →
      Gives (.halySend c ob db pb rb len addr mem) s fun t => ∃ x, (t.hal o).queue = halInsert x (s.hal o).queue
        ∧ x.typ = 0x80 ∧ x.cls = 4 ∧ x.choice = pb.toNat ∧ x.owed = 1 + rb.toNat ∧ x.payload.length = len.toNat
        ∧ x.payload.take (min len.toNat mem.length) = mem.take len.toNat ∧ x.cmd = some { c with eff := s.tick })
    ∧ (∀ e, s.halSendRefusal o db.toNat pb.toNat rb.toNat len.toNat addr.toNat = some e → c.epoch = s.host.epoch →
      Gives (.halySend c ob db pb rb len addr mem) s fun t => Answers s t c Op.HALY_SEND e ∧ t.haly = s.haly)
    ∧ (∀ ps, s.halServes o = true → (s.hal o).flight = none → (s.hal o).queue = m :: l → s.halPaths o m = 0 :: ps →
      s.halCanSend o 0 m = true → s.halTx o ≠ 0 →
      Gives (.halyTxBurst o cyc) s fun t => t.halTx o = 2 ∧ (t.hal o).queue.length = l.length
        ∧ ∃ x, (t.hal o).flight = some (x, 0) ∧ x.typ = m.typ
          ∧ x.alive = some (m.alive.getD (((s.hal o).alive + 1) % 65536)))
    ∧ (s.halServes o = true → (s.hal o).flight = some (m, 0) → m.todo = [] → m.owed = 1 → m.cmd = some c →
      c.epoch = s.host.epoch → (s.hal o).queue = [] → (s.hal o).backlog = [] → s.halTx o = 2 →
      Gives (.halyTxBurst o cyc) s fun t => Answers s t c Op.HALY_SEND St.OK ∧ (t.hal o).flight = none ∧ t.halTx o = 3
        ∧ t.f (R.HALY_TX_CNT o) F.HALY_TX_CNT_TX_OK = satAdd F.HALY_TX_CNT_TX_OK.w (s.f (R.HALY_TX_CNT o) F.HALY_TX_CNT_TX_OK) 1)
    ∧ (∀ ps, s.halServes o = true → (s.hal o).flight = none → (s.hal o).queue = m :: l → s.halPaths o m = 0 :: ps →
      s.halCanSend o 0 m = true → s.halTx o = 0 →
      Gives (.halyTxBurst o cyc) s fun t => t.halTx o = 1 ∧ (t.hal o).queue = m :: l ∧ (t.hal o).flight = none)
    ∧ (s.halTx o = 3 → (s.hal o).queue = [] →
      Gives (.halyRampDownEnd o) s fun t => t.halTx o = 0 ∧ t.halRx o = if s.halRx o = 4 then 0 else s.halRx o)
    ∧ (s.halServes o = true → s.f (R.HALY_CTL o) F.HALY_CTL_BEACON ≠ 0 →
      (s.hal o).lastBeacon + s.f (R.HALY_CTL o) F.HALY_CTL_BEACON ≤ s.tick → s.halLocal o 0 = true → (s.hal o).depth < 64 →
      Gives (.halyBeaconDue o) s fun t => (t.hal o).lastBeacon = s.tick ∧ ∃ x ∈ (t.hal o).queue, x.typ = 1 ∧ x.choice = 4)
    ∧ (s.halServes o = true → s.halShared o = true → s.halTx o = 0 →
      s.tick % s.f (R.HALY_SHARE o) F.HALY_SHARE_SLOT_TICKS = 0 →
      s.tick / s.f (R.HALY_SHARE o) F.HALY_SHARE_SLOT_TICKS % (s.f (R.HALY_SHARE o) F.HALY_SHARE_STATIONS + 1)
        = s.f (R.HALY_SHARE o) F.HALY_SHARE_STATION →
      (s.hal o).queue = m :: l → m.typ ≠ 1 → m.todo = [] → m.choice = 1 → s.halUp o 0 = true →
      3888 + 10 * halSymbols m.payload.length + 5832 ≤ 9720 * s.f (R.HALY_SHARE o) F.HALY_SHARE_SLOT_TICKS →
      Gives (.halySlotStart o) s fun t => t.halTx o = 1 ∧ t.halRx o = 4 ∧ (t.hal o).queue = m :: l ∧ (t.hal o).inSlot = true)
    ∧ ((s.hal o).queue = m :: l → s.halExpired o m = true → (s.hal o).backlog = [] → m.cmd = some c → c.epoch = s.host.epoch →
      Gives (.halyTtlExpiry o) s fun t => Answers s t c Op.HALY_SEND St.NO_PATH ∧ (t.hal o).queue = l)

/-- Messages in (R309, R310, R313, R314, R321): the states of the receiver on SUB, what a message with a good and a bad CRC and a
repeat do, and the loss of hearing. -/
def Claims.HalyardMessagesAreReceived : Prop :=
  ∀ (s : State) (o : Fin 16) (hdr : BitVec 64) (b : List Byte) (crc : BitVec 32) (cyc : Fin 6250) (pos errs : Nat)
    (fest level : Int) (above : Bool) (p : Fin 2),
    (s.halServes o = true → s.halRx o = 0 → Gives (.halyDetect o) s fun t => t.halRx o = 1)
    ∧ (s.halRx o = 1 → Gives (.halyDetectLoss o) s fun t => t.halRx o = 0)
    ∧ (errs ≤ s.f (R.HALY_DET o) F.HALY_DET_SYNC_ERR → s.halRx o = 1 →
      Gives (.halySyncFound o level errs cyc) s fun t => t.halRx o = 2 ∧ (t.hal o).rxLevel = level)
    ∧ (errs ≤ s.f (R.HALY_DET o) F.HALY_DET_SYNC_ERR → s.halRx o = 3 →
      (s.hal o).rxLevel + 10 * (s.f (R.HALY_DET o) F.HALY_DET_CAPTURE_DB : Int) < level →
      Gives (.halySyncFound o level errs cyc) s fun t => t.halRx o = 2 ∧ Posts s t Ev.HALY_TRUNC o noLane false)
    ∧ (s.halRx o = 2 → hdrOk hdr.toNat = true → hdrReserved hdr.toNat = false →
      Gives (.halyHeader o hdr) s fun t => t.halRx o = 3 ∧ (t.hal o).rxHdr = hdr.toNat)
    ∧ (s.halRx o = 2 → hdrOk hdr.toNat = false →
      Gives (.halyHeader o hdr) s fun t => t.halRx o = 1
        ∧ t.f (R.HALY_CNT o) F.HALY_CNT_FALSE_CNT = satAdd F.HALY_CNT_FALSE_CNT.w (s.f (R.HALY_CNT o) F.HALY_CNT_FALSE_CNT) 1)
    ∧ (s.halServes o = true → s.halRx o = 3 → hdr.toNat = (s.hal o).rxHdr → hdrLen hdr.toNat = b.length →
      (crc.toNat = crc32 (leBytes 8 hdr.toNat ++ b) → hdrType hdr.toNat = 0x80 → hdrDst hdr.toNat = 15 →
        (Tab.get (fun _ => []) (s.hal o).seen (hdrSrc hdr.toNat)).contains (hdrAlive hdr.toNat) = false →
        Gives (.halyMessageRx o 0 hdr b crc cyc pos fest above) s fun t => t.halRx o = (if above then 1 else 0)
          ∧ t.f (R.HALY_CNT o) F.HALY_CNT_RX_OK = satAdd F.HALY_CNT_RX_OK.w (s.f (R.HALY_CNT o) F.HALY_CNT_RX_OK) 1
          ∧ (Tab.get (fun _ => []) (t.hal o).seen (hdrSrc hdr.toNat)).contains (hdrAlive hdr.toNat) = true)
      ∧ (crc.toNat = crc32 (leBytes 8 hdr.toNat ++ b) →
        (Tab.get (fun _ => []) (s.hal o).seen (hdrSrc hdr.toNat)).contains (hdrAlive hdr.toNat) = true →
        Gives (.halyMessageRx o 0 hdr b crc cyc pos fest above) s fun t =>
          t.f (R.HALY_CNT2 o) F.HALY_CNT2_REPEAT_CNT
            = satAdd F.HALY_CNT2_REPEAT_CNT.w (s.f (R.HALY_CNT2 o) F.HALY_CNT2_REPEAT_CNT) 1
          ∧ t.f (R.HALY_CNT o) F.HALY_CNT_RX_OK = s.f (R.HALY_CNT o) F.HALY_CNT_RX_OK)
      ∧ (crc.toNat ≠ crc32 (leBytes 8 hdr.toNat ++ b) →
        Gives (.halyMessageRx o 0 hdr b crc cyc pos fest above) s fun t =>
          t.f (R.HALY_CNT o) F.HALY_CNT_CRC_FAIL = satAdd F.HALY_CNT_CRC_FAIL.w (s.f (R.HALY_CNT o) F.HALY_CNT_CRC_FAIL) 1
          ∧ (t.hal o).seen = (s.hal o).seen ∧ (t.hal o).queue = (s.hal o).queue))
    ∧ (s.halServes o = true → s.stdMode o = false → s.halShared o = false → (s.hal o).relGot = [] → hdrOk hdr.toNat = true →
      hdrReserved hdr.toNat = false → hdrLen hdr.toNat = b.length → crc.toNat = crc32 (leBytes 8 hdr.toNat ++ b) →
      hdrType hdr.toNat = 0x80 → hdrDst hdr.toNat = 15 →
      (Tab.get (fun _ => []) (s.hal o).seen (hdrSrc hdr.toNat)).contains (hdrAlive hdr.toNat) = false →
      Gives (.halyMessageRx o 1 hdr b crc cyc pos fest above) s fun t =>
        t.f (R.HALY_CNT o) F.HALY_CNT_RX_OK = satAdd F.HALY_CNT_RX_OK.w (s.f (R.HALY_CNT o) F.HALY_CNT_RX_OK) 1
        ∧ t.b (R.HALY_STAT o) (fHEARD 1) = true
        ∧ (Tab.get (fun _ => []) (t.hal o).seen (hdrSrc hdr.toNat)).contains (hdrAlive hdr.toNat) = true)
    ∧ (s.halStale o (if p = 0 then (s.hal o).sub else (s.hal o).rel).heard = true →
      s.halStale o (if p = 0 then (s.hal o).sub else (s.hal o).rel).far = true →
      Gives (.halyHearingLoss o p) s fun t => t.b (R.HALY_STAT o) (fHEARD p) = false ∧ t.b (R.HALY_STAT o) (fFAR p) = false
        ∧ t.halUp o p = false ∧ (s.halUp o p = true → Posts s t Ev.HALY_PATH o noLane true))

/-! ## Trim, planning and the journal (chapter 10) -/

/-- Trim runs (R341 to R344, R363): requested by command or by temperature, started when they may, and done after their rows. -/
def Claims.TrimRunsFollowTheirRows : Prop :=
  ∀ (s : State) (c : Cmd) (ub : BitVec 8) (u : Fin 34), ub.toNat = u.val →
    ((u.val < 16 → s.octOn u = true) → (16 ≤ u.val → u.val < 32 → s.sgOn (u - 16) = true) → (s.tu u).start = none →
      (s.tu u).admitted = none →
      (s.trimLanes u = true → Gives (.trimRun c ub) s fun t => (t.tu u).admitted = some s.tick
        ∧ (t.tu u).waiting = (s.tu u).waiting ++ [{ c with eff := s.tick }])
      ∧ (s.trimLanes u = false → c.epoch = s.host.epoch →
        Gives (.trimRun c ub) s fun t => Answers s t c Op.TRIM_RUN St.WRONG_STATE ∧ t.trim = s.trim))
    ∧ (∀ x d, s.trimAsk u = some (x, d) → s.tick % 100 = 0 → d < (s.trimTemp u - x).natAbs → (s.tu u).start = none →
      (s.tu u).admitted = none → s.trimLanes u = true →
      Gives (.trimTempCheck u) s fun t => (t.tu u).admitted = some s.tick ∧ (t.tu u).waiting = (s.tu u).waiting)
    ∧ (∀ a, (s.tu u).admitted = some a → a + 1 ≤ s.tick → (s.tu u).spaced s.tick = true → s.trimLanes u = true →
      Gives (.trimStart u) s fun t => (t.tu u).start = some s.tick ∧ (t.tu u).admitted = none
        ∧ (u.val < 16 → t.f (R.TRIM_STAT u) F.TRIM_STAT_STATE = 1))
    ∧ (∀ a, (s.tu u).start = some a → s.trimEnd u ≤ (s.tu u).row → (s.tu u).waiting = [c] → c.epoch = s.host.epoch →
      Gives (.trimDone u) s fun t => (t.tu u).start = none ∧ (t.tu u).last = some a ∧ Answers s t c Op.TRIM_RUN St.OK
        ∧ (u.val < 16 → t.f (R.TRIM_STAT u) F.TRIM_STAT_STATE = 0 ∧ t.f (R.TRIM_LAST u) F.TRIM_LAST_TICK = a % 2 ^ 48
          ∧ Posts s t Ev.TRIM_DONE u noLane false))

/-- The planner's runs and the journal's entries (R353, R360, R361, R363). -/
def Claims.PlannerAndJournalRun : Prop :=
  ∀ (s : State) (c : Cmd) (rb : BitVec 8) (qb : BitVec 32) (nb : BitVec 16) (addr : BitVec 64) (e : List Byte)
    (q : List (List Byte)),
    (s.b R.PLAN_CTL F.PLAN_CTL_EN = true → 50000 ≤ s.tickIdx → s.time.planHeld = false →
      (∀ x, s.trim.lastRun = some x → x / 100000 ≠ s.tick / 100000) →
      Gives .plannerRun s fun t => t.trim.runs = s.trim.runs + 1 ∧ t.trim.lastRun = some s.tick
        ∧ t.f R.PLAN_STAT F.PLAN_STAT_LAST_TICK = s.tick % 2 ^ 48)
    ∧ (s.jrn.hourDue = true → s.time.planHeld = false →
      Gives .jrnHourly s fun t => t.jrn.hourRetire = 0 ∧ t.jrn.hourTrim = 0 ∧ t.jrn.hourDue = false
        ∧ ∃ x, t.jrn.flashQ = s.jrn.flashQ ++ [x] ∧ x.length = 256)
    ∧ (s.jrn.flashQ = e :: q →
      Gives (.jrnFlashWrite true) s fun t => t.jrn.flash = jrnRoom 196608 s.jrn.flash ++ [e] ∧ t.jrn.flashQ = q ∧ t.jrn.tries = 0)
    ∧ (s.jrn.flashQ = e :: q → s.jrn.tries < 2 →
      Gives (.jrnFlashWrite false) s fun t => t.jrn.flashQ = e :: q ∧ t.jrn.tries = s.jrn.tries + 1)
    ∧ (s.jrn.flashQ = e :: q → 2 ≤ s.jrn.tries →
      Gives (.jrnFlashWrite false) s fun t => t.jrn.flashQ = q ∧ t.jrn.flash = s.jrn.flash
        ∧ Posts s t Ev.JRN_FAIL noObj noLane false)
    ∧ (rb.toNat = 0 → 1 ≤ nb.toNat → nb.toNat ≤ 4096 → addr.toNat % 64 = 0 → s.b R.JRN_STAT F.JRN_STAT_READY = true →
      s.isOn domGDDR = true → c.epoch = s.host.epoch →
      Gives (.jrnRead c rb qb nb addr) s fun t => Answers s t c Op.JRN_READ St.OK ∧ t.jrn = s.jrn
        ∧ (let es := (s.jrn.own.filter fun e => decide (qb.toNat ≤ jrnSeq e)).take nb.toNat
           t.host.dmaOut = s.host.dmaOut ++ (if es.isEmpty then [] else [⟨addr.toNat, es.flatten⟩])))

/-! ## The host interface (chapter 11) -/

/-- Ring operations and doorbells (R374 to R379, R398). -/
def Claims.RingsAreManaged : Prop :=
  ∀ (s : State) (r : Fin 65536) (h : BitVec 16) (v : BitVec 64),
    (s.blockedBy R.RING_OP = none →
      (Gives (.ringOpRead r) s fun t => t.reg R.RING_CTX_A = BitVec.ofNat 64 (s.ring r).base
        ∧ t.reg R.RING_CTX_B = (s.ring r).ctxB ∧ t.reg R.RING_CTX_C = (s.ring r).ctxC ∧ t.reg R.RING_CTX_D = (s.ring r).ctxD
        ∧ t.reg R.RING_CTX_E = (s.ring r).ctxE ∧ t.f R.RING_OP_STAT F.RING_OP_STAT_ERR = 0)
      ∧ ((s.ring r).typ = 0 → s.createBad r s.stagedRing = false →
        Gives (.ringOpCreate r) s fun t => (t.ring r).typ = s.f R.RING_CTX_B F.RING_CTX_B_TYPE ∧ (t.ring r).state = 1
          ∧ (t.ring r).head = 0 ∧ (t.ring r).tail = 0 ∧ (t.ring r).base = s.f R.RING_CTX_A F.RING_CTX_A_BASE * 4096
          ∧ t.f R.RING_OP_STAT F.RING_OP_STAT_ERR = 0)
      ∧ ((s.ring r).typ ≠ 0 →
        Gives (.ringOpCreate r) s fun t => t.host = s.host ∧ t.f R.RING_OP_STAT F.RING_OP_STAT_ERR = errEXISTS)
      ∧ ((s.ring r).typ ≠ 0 → s.ringInUse r = false →
        Gives (.ringOpDestroy r) s fun t => (t.ring r).typ = 0 ∧ t.f R.RING_OP_STAT F.RING_OP_STAT_ERR = 0)
      ∧ ((s.ring r).typ ≠ 0 → s.ringInUse r = true →
        Gives (.ringOpDestroy r) s fun t => t.host = s.host ∧ t.f R.RING_OP_STAT F.RING_OP_STAT_ERR = errIN_USE)
      ∧ ((s.ring r).typ = 1 → h.toNat < (s.ring r).size →
        Gives (.ringOpResync r h) s fun t => (t.ring r).head = h.toNat ∧ (t.ring r).state = 1
          ∧ (t.ring r).expHseq = s.f R.RING_CTX_C F.RING_CTX_C_INIT_HSEQ))
    ∧ ((s.ring r).typ = 1 → v.toNat % 65536 ≠ (s.ring r).tail → v.toNat % 65536 < (s.ring r).size →
      Gives (.sqDoorbell r v) s fun t => (t.ring r).tail = v.toNat % 65536 ∧ (t.ring r).dbHseq = v.toNat / 65536 % 65536
        ∧ (t.ring r).head = (s.ring r).head)
    ∧ ((s.ring r).typ = 1 → v.toNat % 65536 ≠ (s.ring r).tail → (s.ring r).size ≤ v.toNat % 65536 →
      Gives (.sqDoorbell r v) s fun t => (t.ring r).state = 2 ∧ (t.ring r).cause = 4 ∧ Posts s t Ev.RING_HALT r noLane false)
    ∧ (2 ≤ (s.ring r).typ → v.toNat % 65536 < (s.ring r).size → v.toNat % 65536 ≠ (s.ring r).head →
      (v.toNat % 65536 + (s.ring r).size - (s.ring r).head) % (s.ring r).size ≤ (s.ring r).held →
      Gives (.headDoorbell r v) s fun t => (t.ring r).head = v.toNat % 65536 ∧ (t.ring r).tail = (s.ring r).tail
        ∧ (t.ring r).signalled = false)
    ∧ ((s.ring r).typ = 0 →
      Gives (.headDoorbell r v) s fun t => t.host.rings = s.host.rings
        ∧ t.f R.RING_CNT F.RING_CNT_DB_IGNORED = satAdd F.RING_CNT_DB_IGNORED.w (s.f R.RING_CNT F.RING_CNT_DB_IGNORED) 1)

/-- Records leave for host memory (R370, R386 to R396, R403): each takes the ring's next DSEQ and its entries, and what cannot be written
is held, dropped with its DSEQ, or counted. -/
def Claims.RecordsAreWritten : Prop :=
  ∀ (s : State) (r : Fin 65536) (c : CompRec) (cs : List CompRec) (e : EvRec) (es : List EvRec) (x : RingRec)
    (xs : List RingRec),
    (s.host.compQ = c :: cs → s.canWrite = true → (s.ring c.ring).typ = 1 → (s.ring c.ring).cq = r.val → (s.ring r).typ = 2 →
      (s.ring r).state = 1 →
      Gives .completionWrite s fun t => t.host.compQ = cs ∧ (t.ring r).tail = ((s.ring r).tail + 1) % (s.ring r).size
        ∧ (t.ring r).resv = (s.ring r).resv - 1 ∧ (t.ring r).lastDseq = nextDseq (s.ring r).lastDseq
        ∧ ∃ b, t.host.dmaOut = s.host.dmaOut ++ [⟨(s.ring r).entryAddr (s.ring r).tail, b⟩]
          ∧ b.take 4 = leBytes 4 (nextDseq (s.ring r).lastDseq))
    ∧ (s.canWrite = false → (∀ y ∈ s.host.compQ, y.ring < 65536) → Gives .completionWrite s fun t => t = s)
    ∧ (s.host.evQ = e :: es → s.subscribers (e.code / 256) = [r.val] → s.canWrite = true → (s.ring r).state = 1 →
      (s.ring r).lost = none → 1 ≤ (s.ring r).free →
      Gives .eventWrite s fun t => t.host.evQ = es ∧ (t.ring r).tail = ((s.ring r).tail + 1) % (s.ring r).size
        ∧ ∃ b, t.host.dmaOut = s.host.dmaOut ++ [⟨(s.ring r).entryAddr (s.ring r).tail, b⟩]
          ∧ b.take 4 = leBytes 4 (nextDseq (s.ring r).lastDseq) ∧ (b.drop 16).take 2 = leBytes 2 e.code)
    ∧ (s.host.evQ = e :: es → s.subscribers (e.code / 256) = [] →
      Gives .eventWrite s fun t => t.host.evQ = es ∧ t.host.dmaOut = s.host.dmaOut
        ∧ t.f R.RING_CNT2 F.RING_CNT2_EVT_DROP = satAdd F.RING_CNT2_EVT_DROP.w (s.f R.RING_CNT2 F.RING_CNT2_EVT_DROP) 1)
    ∧ (s.host.evQ = e :: es → s.subscribers (e.code / 256) = [r.val] → (s.ring r).lost = none → (s.ring r).free = 0 →
      Gives .eventWrite s fun t => t.host.dmaOut = s.host.dmaOut
        ∧ (t.ring r).lost = some (1, nextDseq (s.ring r).lastDseq, nextDseq (s.ring r).lastDseq)
        ∧ (t.ring r).lastDseq = nextDseq (s.ring r).lastDseq)
    ∧ (s.host.recQ = x :: xs → x.ring = r.val → (s.ring r).typ = 4 → (s.ring r).state = 1 → s.canWrite = true →
      x.entries.length ≤ (s.ring r).free →
      Gives .telemetryWrite s fun t => t.host.recQ = xs
        ∧ (t.ring r).tail = ((s.ring r).tail + x.entries.length) % (s.ring r).size)
    ∧ (s.host.recQ = x :: xs → x.ring = r.val → (s.ring r).typ = 4 → (s.ring r).free < x.entries.length →
      Gives .telemetryWrite s fun t => t.host.recQ = xs ∧ Posts s t Ev.REC_DROP r noLane false
        ∧ t.host.dmaOut = s.host.dmaOut ∧ (t.ring r).lastDseq = nextDseq (s.ring r).lastDseq)
    ∧ (s.intReady r = true → s.canWrite = true →
      Gives (.msixSignal r) s fun t => t.host.msix = s.host.msix ++ [(s.ring r).vector] ∧ (t.ring r).signalled = true)

/-- Fetching (R382, R383, R385, R388, R397): a descriptor that passes the checks is staged for its tick; a failed read, check or sequence
number halts the ring; a bad EFFECTIVE_TICK is answered at once. -/
def Obligations.DescriptorsAreCheckedAndStaged : Prop :=
  ∀ (s : State) (k : Fin 65536) (b mem : List Byte) (i : Instr) (r : Fin 65538), r.val = k.val → s.fetching = true →
    s.nextRing = some r.val → b.length ≤ 128 →
    (Gives (.descriptorFetch r none mem) s fun t => (t.ring k).state = 2 ∧ (t.ring k).cause = 5
      ∧ Posts s t Ev.RING_HALT k noLane false)
    ∧ ((if dExt b then 2 else 1) ≤ (s.ring k).held → dCrcOk b = false →
      Gives (.descriptorFetch r (some b) mem) s fun t => (t.ring k).state = 2 ∧ (t.ring k).cause = 2
        ∧ (t.ring k).head = (s.ring k).head ∧ Posts s t Ev.RING_HALT k noLane false
        ∧ ∃ x, t.host.compQ = s.host.compQ ++ [x] ∧ x.status = St.CHECK_FAIL)
    ∧ ((if dExt b then 2 else 1) ≤ (s.ring k).held → dCrcOk b = true → dNum b 2 2 ≠ (s.ring k).expHseq →
      Gives (.descriptorFetch r (some b) mem) s fun t => (t.ring k).state = 2 ∧ (t.ring k).cause = 1
        ∧ Posts s t Ev.RING_HALT k noLane false ∧ ∃ x, t.host.compQ = s.host.compQ ++ [x] ∧ x.status = St.SEQ_GAP)
    ∧ ((if dExt b then 2 else 1) ≤ (s.ring k).held → dCrcOk b = true →
      seqOk (s.ring k) (if dExt b then 2 else 1) (dNum b 2 2) = true →
      dCommand k ⟨k, dNum b 2 2, dNum b 8 8, s.host.epoch⟩ b mem = some i → bitOf (dByte b 1) 1 = false →
      (s.tickCheck (dNum b 8 8) = none → s.acceptCheck i = none →
        Gives (.descriptorFetch r (some b) mem) s fun t =>
          ⟨i, k, s.dueTick (dNum b 8 8), decide (dNum b 8 8 = 0), false⟩ ∈ t.staged
            ∧ (t.ring k).head = ((s.ring k).head + (if dExt b then 2 else 1)) % (s.ring k).size
            ∧ (t.ring k).outst = (s.ring k).outst + 1 ∧ t.host.compQ = s.host.compQ)
      ∧ (∀ e, s.tickCheck (dNum b 8 8) = some e →
        Gives (.descriptorFetch r (some b) mem) s fun t => t.staged = s.staged
          ∧ (t.ring k).head = ((s.ring k).head + (if dExt b then 2 else 1)) % (s.ring k).size
          ∧ ∃ x, t.host.compQ = s.host.compQ ++ [x] ∧ x.status = e ∧ x.eff = 0))

/-- NOP, RING_RESYNC and AUDIT (R398, R399, R401). -/
def Claims.RingCommandsComplete : Prop :=
  ∀ (s : State) (c : Cmd) (r h q : BitVec 16) (n : BitVec 24) (z : BitVec 8) (addr : BitVec 64), c.epoch = s.host.epoch →
    (Gives (.nop c) s fun t => Answers s t c Op.NOP St.OK ∧ t.regs = s.regs ∧ t.staged = s.staged)
    ∧ (r.toNat ≠ 0 → (s.ring r.toNat).typ = 1 → h.toNat < (s.ring r.toNat).size →
      Gives (.ringResync c r h q) s fun t => Answers s t c Op.RING_RESYNC St.OK ∧ (t.ring r.toNat).head = h.toNat
        ∧ (t.ring r.toNat).expHseq = q.toNat ∧ (t.ring r.toNat).state = 1)
    ∧ (r.toNat = 0 → Gives (.ringResync c r h q) s fun t => Answers s t c Op.RING_RESYNC St.BAD_FIELD)
    ∧ (1 ≤ n.toNat → r.toNat + n.toNat ≤ 65536 → addr.toNat % 64 = 0 →
      (z.toNat = 0 → Gives (.audit c r n z addr) s fun t => Answers s t c Op.AUDIT St.OK
        ∧ t.host.dmaOut = s.host.dmaOut
          ++ [⟨addr.toNat, (List.range n.toNat).flatMap fun k => (s.ring (r.toNat + k)).auditBytes⟩])
      ∧ (z.toNat = 1 → Gives (.audit c r n z addr) s fun t => Answers s t c Op.AUDIT St.OK
        ∧ ∀ k, r.toNat ≤ k → k < r.toNat + n.toNat → k ≠ 0 → (s.ring k).typ = 1 → (s.ring k).state = 1 →
          (t.ring k).state = 3))

/-- The link and the endpoint (R371, R372, R552, R608): what a Function Level Reset destroys and keeps, and what happens while no record
can be written. -/
def Claims.LinkAndFunctionLevelReset : Prop :=
  ∀ s : State,
    (Gives .functionLevelReset s fun t => t.host.rings = [] ∧ t.host.evQ = [] ∧ t.host.compQ = [] ∧ t.host.recQ = []
      ∧ t.staged = s.staged ∧ t.regs = s.regs ∧ t.host.outstanding = s.host.outstanding ∧ t.host.epoch = s.host.epoch + 1)
    ∧ (Gives (.perstN true) s fun t => t.host.linkUp = false ∧ t.host.rings = [] ∧ t.staged = s.staged ∧ t.regs = s.regs)
    ∧ (Gives (.perstN false) s fun t => t = s)
    ∧ (Gives .linkDown s fun t => t.canWrite = false ∧ t.host.compQ = s.host.compQ ∧ t.host.rings = s.host.rings
      ∧ (s.canWrite = true → t.host.downTick = s.tick))
    ∧ (s.host.linkUp = false → s.host.everUp = true → s.host.d3 = false →
      Gives .linkUp s fun t => t.canWrite = true ∧ t.host.compQ = [] ∧ ∃ e, t.host.evQ.getLast? = some e ∧ e.code = Ev.LINK_DOWN
        ∧ e.args.take 1 = [s.tick - s.host.downTick])
    ∧ (s.host.linkUp = false → s.host.everUp = false →
      Gives .linkUp s fun t => t.host.linkUp = true ∧ t.host.evQ = s.host.evQ ∧ t.host.compQ = s.host.compQ)
    ∧ (Gives .d3hotEntry s fun t => t.canWrite = false ∧ t.host.compQ = s.host.compQ ∧ t.host.linkUp = s.host.linkUp)
    ∧ (s.host.d3 = true → s.host.linkUp = true →
      Gives .d0Return s fun t => t.canWrite = true ∧ t.host.compQ = [] ∧ ∃ e, t.host.evQ.getLast? = some e ∧ e.code = Ev.LINK_DOWN
        ∧ e.args.take 1 = [s.tick - s.host.downTick])

/-! ## The pair, the Shroud link and the check engine (chapter 12) -/

/-- PAIR_LOCK (R411 to R414, R432): who takes it, who waits, and how a holder gives it up. -/
def Claims.PairLockIsHeldByOne : Prop :=
  ∀ (s : State) (t0 : Nat),
    (s.holdsLock = false → s.pair.freeAt = none → s.pairState = 3 → s.pairAuto = true → s.pair.notice = none →
      Gives .pairLockFree s fun t => t.holdsLock = true ∧ t.pairState = 1 ∧ t.pair.mapNext = some (1, s.tick)
        ∧ Posts s t Ev.ROLE_CHANGE noObj noLane false)
    ∧ (s.holdsLock = false → s.pair.freeAt = none → s.pairState = 2 →
      Gives .pairLockFree s fun t => t.holdsLock = false ∧ t.pair.freeAt = some s.tick
        ∧ Posts s t Ev.PAIR_UNSAFE noObj noLane false)
    ∧ (s.pair.freeAt = some t0 → s.pairState = 0 → s.sec.held = false → s.b R.PAIR_STAT F.PAIR_STAT_PRESENT = false →
      t0 + 100 ≤ s.tick → Gives .pairInitTimer s fun t => t.holdsLock = true ∧ t.pairState = 1)
    ∧ (s.pair.freeAt = some t0 → s.pairState = 0 → s.sec.held = false → s.b R.PAIR_STAT F.PAIR_STAT_PRESENT = true →
      t0 + 10000 ≤ s.tick →
      (s.role = 0 → Gives .pairInitTimer s fun t => t.holdsLock = true ∧ t.pairState = 1)
      ∧ (s.role = 1 → s.pair.unsafePosted = false →
        Gives .pairInitTimer s fun t => t.pairState = 0 ∧ Posts s t Ev.PAIR_UNSAFE noObj noLane false))
    ∧ (s.holdsLock = false → s.pairState = 0 →
      Gives .pairLockTaken s fun t => t.pairState = 2 ∧ t.pair.freeAt = none ∧ t.b R.PAIR_STAT F.PAIR_STAT_LOCK_IN = true)
    ∧ (s.b R.PAIR_CTL F.PAIR_CTL_FENCE_EN = true → s.pairState = 1 →
      Gives .fence s fun t => t.pairState = 4 ∧ t.holdsLock = false ∧ t.pair.mapOn = false ∧ t.f R.WDT_STAT F.WDT_STAT_LAST_FAULT = 5
        ∧ Posts s t Ev.FENCED noObj noLane false)
    ∧ (s.b R.PAIR_CTL F.PAIR_CTL_FENCE_EN = false → Gives .fence s fun t => t = s)
    ∧ (s.b R.PAIR_STAT F.PAIR_STAT_HB_LOST = false → s.f R.PAIR_CTL F.PAIR_CTL_PAIR_MISS_TICKS ≤ s.pair.miss →
      Gives .hbLost s fun t => t.b R.PAIR_STAT F.PAIR_STAT_HB_LOST = true ∧ Posts s t Ev.HB_LOST noObj noLane false
        ∧ t.pairState = if s.pairState = 3 then 2 else s.pairState)

/-- The pair's commands (R412, R423, R432, R438). -/
def Claims.PairCommandsAct : Prop :=
  ∀ (s : State) (c : Cmd) (fb : BitVec 8) (first : BitVec 16) (n : BitVec 24) (addr : BitVec 64) (t0 : Nat), c.epoch = s.host.epoch →
    (fb.toNat = 1 → s.pairState ≠ 1 → s.pairState ≠ 4 → s.pair.freeAt = some t0 →
      Gives (.pairTakeover c fb) s fun t => Answers s t c Op.PAIR_TAKEOVER St.OK ∧ t.holdsLock = true ∧ t.pairState = 1)
    ∧ (fb.toNat = 0 → s.pairState = 3 → s.pair.freeAt = some t0 → s.tick < t0 + 5000 →
      Gives (.pairTakeover c fb) s fun t => Answers s t c Op.PAIR_TAKEOVER St.OK ∧ t.holdsLock = true ∧ t.pairState = 1)
    ∧ (fb.toNat < 2 → s.pairState ≠ 1 → s.pairState ≠ 4 → s.pair.freeAt = none →
      Gives (.pairTakeover c fb) s fun t => Answers s t c Op.PAIR_TAKEOVER St.LOCK_HELD ∧ t.regs = s.regs)
    ∧ (s.pairState = 1 → s.b R.PAIR_STAT F.PAIR_STAT_TWIN_SYNCED = true → s.pair.twinAuto = true →
      Gives (.pairRelease c) s fun t => t.pairState = 2 ∧ t.holdsLock = false ∧ t.pair.mapOn = false
        ∧ t.pair.released = some (c, s.tick) ∧ t.host.compQ = s.host.compQ)
    ∧ (s.pairState = 1 → s.pair.twinAuto = false →
      Gives (.pairRelease c) s fun t => Answers s t c Op.PAIR_RELEASE St.PAIR_UNSYNCED ∧ t.pair = s.pair)
    ∧ (s.pair.released = some (c, t0) → t0 + 10 ≤ s.tick → s.pair.freeAt ≠ none →
      Gives .releaseCheck s fun t => Answers s t c Op.PAIR_RELEASE St.TAKEOVER_FAIL ∧ t.pairState = 1 ∧ t.holdsLock = true
        ∧ t.pair.released = none)
    ∧ (1 ≤ n.toNat → first.toNat + n.toNat ≤ 65536 → addr.toNat % 64 = 0 → s.pair.haveImage = true →
      (s.pairState = 1 ∨ s.pairState = 2 ∨ s.pairState = 3) →
      Gives (.pairAudit c first n addr) s fun t => Answers s t c Op.PAIR_AUDIT St.OK
        ∧ ∃ b, t.host.dmaOut = s.host.dmaOut ++ [⟨addr.toNat, b⟩] ∧ b.length = 16 * n.toNat)
    ∧ (s.pairState = 1 → s.shrdUp = true →
      Gives (.pairResync c) s fun t => Answers s t c Op.PAIR_RESYNC St.OK ∧ t.pair.unacked = []
        ∧ ∃ im, t.pair.bulk = some (s.tick, im, 0))

/-- Messages of the pair (R415, R420, R422, R423): what is accepted, what is not, and what each end does with it. -/
def Obligations.PairMessagesAreTaken : Prop :=
  ∀ (s : State) (b : List Byte) (cyc : Fin 6250), s.shrdUp = true →
    (¬ (b.length = 68 + ofLeBytes ((b.drop 32).take 4)
        ∧ crc32c (b.take (b.length - 4)) = ofLeBytes ((b.drop (b.length - 4)).take 4)) →
      Gives (.mirrorRx b cyc) s fun t => t.pair = s.pair ∧ t.host = s.host ∧ t.f R.PAIR_CNT F.PAIR_CNT_LOOPED
        = s.f R.PAIR_CNT F.PAIR_CNT_LOOPED)
    ∧ (b.length = 68 + ofLeBytes ((b.drop 32).take 4) →
      crc32c (b.take (b.length - 4)) = ofLeBytes ((b.drop (b.length - 4)).take 4) → ofLeBytes (b.take 2) = 0xA55A →
      (ofLeBytes ((b.drop 2).take 1) = 1 → ofLeBytes ((b.drop 3).take 1) / 2 % 2 = s.role →
        Gives (.mirrorRx b cyc) s fun t => t.pair = s.pair
          ∧ t.f R.PAIR_CNT F.PAIR_CNT_LOOPED = satAdd F.PAIR_CNT_LOOPED.w (s.f R.PAIR_CNT F.PAIR_CNT_LOOPED) 1)
      ∧ (ofLeBytes ((b.drop 2).take 1) = 1 → ofLeBytes ((b.drop 3).take 1) / 2 % 2 ≠ s.role → s.holdsLock = false →
        Gives (.mirrorRx b cyc) s fun t => t.pair.miss = 0 ∧ t.pair.got = true ∧ t.pair.aliveS = (s.pair.aliveS + 1) % 65536
          ∧ t.pair.out.length = s.pair.out.length + 1)
      ∧ (ofLeBytes ((b.drop 2).take 1) = 2 → ofLeBytes ((b.drop 3).take 1) / 2 % 2 ≠ s.role → s.holdsLock = true →
        bitOf (ofLeBytes ((b.drop 3).take 1)) 0 = false →
        Gives (.statusRx b cyc) s fun t => t.pair.miss = 0
          ∧ t.b R.PAIR_STAT F.PAIR_STAT_TWIN_SYNCED = bitOf (ofLeBytes ((b.drop 3).take 1)) 2
          ∧ t.pair.twinAuto = bitOf (ofLeBytes ((b.drop 3).take 1)) 3))
    ∧ (s.holdsLock = false → s.pair.got = false →
      Gives .statusSend s fun t => t.pair.got = true ∧ t.pair.aliveS = (s.pair.aliveS + 1) % 65536
        ∧ t.pair.out.length = s.pair.out.length + 1)
    ∧ (s.holdsLock = true → Gives .statusSend s fun t => t = s)

/-- The Shroud link's states (R417 to R419). -/
def Claims.ShroudLanesAlign : Prop :=
  ∀ (s : State) (c : Cmd) (mb fb : BitVec 8) (n : Fin 8) (coarse : Bool) (errs : BitVec 16) (skews : List Int),
    (s.shrdRuns = true → s.shrdLink = 1 →
      Gives .shrdClockLock s fun t => t.shrdLink = 2 ∧ t.shrdLane 8 = 3 ∧ ∀ k, k < 8 → t.shrdLane k = 1)
    ∧ (s.shrdRuns = true → (s.shrdLane n = 1 ∨ s.shrdLane n = 2) →
      (Gives (.shrdLaneResult n coarse true errs) s fun t => t.shrdLane n = s.shrdLane n + 1)
      ∧ (Gives (.shrdLaneResult n true false errs) s fun t => t.shrdLane n = 1
        ∧ t.f (R.SHRD_LANE_STAT n) F.SHRD_LANE_STAT_FINE = (s.f (R.SHRD_LANE_STAT n) F.SHRD_LANE_STAT_FINE + 1) % 64))
    ∧ (s.shrdRuns = true → s.shrdLink = 3 → Gives (.shrdUp skews) s fun t => t.shrdLink = 4)
    ∧ (s.shrdLane n = 3 → 2 ≤ Tab.get (fun _ => 0) s.pair.badTicks n → s.shrdLink = 4 →
      Gives (.shrdLaneLoss n) s fun t => t.shrdLane n = 1 ∧ t.shrdLink = 0 ∧ Posts s t Ev.SHRD_DOWN noObj noLane false)
    ∧ ((s.shrdLane n = 1 ∨ s.shrdLane n = 2) → s.f (R.SHRD_LANE_STAT n) F.SHRD_LANE_STAT_SEARCH_TICKS = 255 →
      Gives (.shrdAlignFail n) s fun t => t.shrdLink = 1 ∧ Posts s t Ev.SHRD_ALIGN_FAIL noObj n false)
    ∧ (mb.toNat < 4 → fb.toNat = 1 → s.isOn domSHRD = true → c.epoch = s.host.epoch →
      Gives (.shrdLoop c mb fb) s fun t => Answers s t c Op.SHRD_LOOP St.OK ∧ t.f R.SHRD_CTL F.SHRD_CTL_LOOP = mb.toNat)

/-- Software channels of the check engine (R433 to R436, R445). -/
def Claims.CheckEngineFeedsFrames : Prop :=
  ∀ (s : State) (ch : Fin 32) (v : BitVec 64), s.isOn domMAP = true →
    (8 ≤ ch.val → F.CHK_CTL_EN.of v = 1 →
      Gives (.chkStart ch v) s fun t => t.reg (R.CHK_VAL ch) = BitVec.ofNat 64 (chkInit (F.CHK_CTL_POLY.of v))
        ∧ t.b (R.CHK_CTL ch) F.CHK_CTL_RES_VALID = false ∧ t.b (R.CHK_CTL ch) F.CHK_CTL_EN = true
        ∧ t.f (R.CHK_CTL ch) F.CHK_CTL_POLY = F.CHK_CTL_POLY.of v)
    ∧ (ch.val < 8 → Gives (.chkStart ch v) s fun t => t = s)
    ∧ (8 ≤ ch.val → s.b (R.CHK_CTL ch) F.CHK_CTL_EN = true →
      Gives (.chkDataWrite ch v) s fun t => t.reg (R.CHK_VAL ch) = BitVec.ofNat 64 ((leBytes 8 v.toNat).foldl
        (fun r b => chkByte (s.f (R.CHK_CTL ch) F.CHK_CTL_POLY) r b.toNat)
        ((s.reg (R.CHK_VAL ch)).toNat % 2 ^ chkWidth (s.f (R.CHK_CTL ch) F.CHK_CTL_POLY))))
    ∧ ((ch.val < 8 ∨ s.b (R.CHK_CTL ch) F.CHK_CTL_EN = false) →
      Gives (.chkDataWrite ch v) s fun t => Logs s t (R.CHK_DATA ch) logREFUSED ∧ t.regs = s.regs)
    ∧ (8 ≤ ch.val → s.b (R.CHK_CTL ch) F.CHK_CTL_EN = true →
      Gives (.chkTailWrite ch v) s fun t => t.b (R.CHK_CTL ch) F.CHK_CTL_RES_VALID = true
        ∧ t.reg (R.CHK_RES ch) = BitVec.ofNat 64 ((t.reg (R.CHK_VAL ch)).toNat ^^^ chkFinal (s.f (R.CHK_CTL ch) F.CHK_CTL_POLY))
        ∧ t.f (R.CHK_CNT ch) F.CHK_CNT_FRAMES = satAdd F.CHK_CNT_FRAMES.w (s.f (R.CHK_CNT ch) F.CHK_CNT_FRAMES) 1)
    ∧ (8 ≤ ch.val → s.b (R.CHK_CTL ch) F.CHK_CTL_MODE = true →
      Gives (.chkValWrite ch v) s fun t => t.reg (R.CHK_VAL ch) = v)
    ∧ ((ch.val < 8 ∨ s.b (R.CHK_CTL ch) F.CHK_CTL_MODE = false) →
      Gives (.chkValWrite ch v) s fun t => Logs s t (R.CHK_VAL ch) logREFUSED ∧ t.regs = s.regs)

/-! ## Faults, memory integrity and inputs (chapters 13 and 14) -/

/-- The classification of a fault (R446 to R448): an armed manager retries up to three times in its window and up to RATE_MAX times in an
hour; the next fault is permanent. -/
def Claims.FaultsAreClassified : Prop :=
  ∀ (s : State) (k : Fin 3) (u l : Fin 16) (kind lim : Nat), (k.val = 0 → l.val < 9) → (k.val = 2 → l.val = 0) →
    ((s.fltUnit k u l).armed = false → s.fltFault k u l kind lim = (s, 0))
    ∧ ((s.fltUnit k u l).armed = true → s.fltState k u l ≠ 2 → s.fltState k u l ≠ 3 →
      ((fltWindow s.tick (s.fltUnit k u l)).length < 3 →
        fltHourCount s.tick (s.fltUnit k u l) + 1 ≤ s.f (fltCtl k u) F.FLT_CTL_O_RATE_MAX →
        (s.fltFault k u l kind lim).2 = 1 ∧ Posts s (s.fltFault k u l kind lim).1 Ev.FLT_TRANSIENT u (fltLane k l) false
          ∧ (s.fltFault k u l kind lim).1.fltState k u l = (if lim = 0 then 0 else 1)
          ∧ ((s.fltFault k u l kind lim).1.fltUnit k u l).limit = if lim = 0 then none else some (s.tick + lim))
      ∧ (3 ≤ (fltWindow s.tick (s.fltUnit k u l)).length
          ∨ s.f (fltCtl k u) F.FLT_CTL_O_RATE_MAX < fltHourCount s.tick (s.fltUnit k u l) + 1 →
        (s.fltFault k u l kind lim).2 = 2 ∧ Posts s (s.fltFault k u l kind lim).1 Ev.FLT_PERMANENT u (fltLane k l) false
          ∧ (s.fltFault k u l kind lim).1.fltState k u l = 3
          ∧ ((s.fltFault k u l kind lim).1.fltUnit k u l).limit = none))

/-- Timed faults and FLT_CLEAR (R447, R449, R450, R476): RAW_LOS held too long and a retry that misses its limit are faults of their own,
and FLT_CLEAR empties the windows and ends PERMANENT on a slot PHY and on an octet's transmitters. -/
def Claims.TimedFaultsAndClear : Prop :=
  ∀ (s : State) (c : Cmd) (k : Fin 3) (u l : Fin 16) (kb ub lb : BitVec 8), (k.val = 0 → l.val < 9) → (k.val = 2 → l.val = 0) →
    (k.val = 1 → s.phyHead u l = l.val) →
    (k.val < 2 → s.fltLosLong k u l = true → s.fltState k u l ≠ 2 → s.fltState k u l ≠ 3 → (s.fltUnit k u l).armed = false →
      Gives (.losLong (decide (k.val = 1)) u l) s fun t => (t.fltUnit k u l).los = some s.tick ∧ (t.fltUnit k u l).long = true)
    ∧ (k.val < 2 → s.fltLosLong k u l = true → s.fltState k u l ≠ 2 → s.fltState k u l ≠ 3 → (s.fltUnit k u l).armed = true →
      (fltWindow s.tick (s.fltUnit k u l)).length < 3 →
      fltHourCount s.tick (s.fltUnit k u l) + 1 ≤ s.f (fltCtl k u) F.FLT_CTL_O_RATE_MAX →
      Gives (.losLong (decide (k.val = 1)) u l) s fun t => Posts s t Ev.FLT_TRANSIENT u (fltLane k l) false)
    ∧ (s.fltLate k u l = true → s.fltState k u l ≠ 2 → s.fltState k u l ≠ 3 → (s.fltUnit k u l).armed = true →
      (fltWindow s.tick (s.fltUnit k u l)).length < 3 →
      fltHourCount s.tick (s.fltUnit k u l) + 1 ≤ s.f (fltCtl k u) F.FLT_CTL_O_RATE_MAX →
      Gives (.retryTimeout k u l) s fun t => Posts s t Ev.FLT_TRANSIENT u (fltLane k l) false)
    ∧ (s.fltLate k u l = false → Gives (.retryTimeout k u l) s fun t => t = s)
    ∧ (kb.toNat = k.val → ub.toNat = u.val → lb.toNat = l.val → s.isOn (if k.val = 1 then domSG u else domOct u) = true →
      c.epoch = s.host.epoch →
      Gives (.fltClear c kb ub lb) s fun t => Answers s t c Op.FLT_CLEAR St.OK ∧ (t.fltUnit k u l).retries = []
        ∧ (t.fltUnit k u l).hours = []
        ∧ t.fltState k u l = if s.fltState k u l = 3 ∧ k.val ≠ 0 then 0 else s.fltState k u l)

/-- The Hsiao code (R452): no error gives syndrome 0, one error in any of the 72 bits is found and placed, and two errors in data bits are
never taken for one. -/
def Obligations.HsiaoCorrectsOneAndFindsTwo : Prop :=
  ∀ (d : BitVec 64) (i j : Fin 64) (k : Fin 8),
    hsiaoSynd d.toNat (hsiaoCheck d.toNat) = 0
    ∧ hsiaoPos (hsiaoSynd (d.toNat ^^^ 2 ^ i.val) (hsiaoCheck d.toNat)) = some i.val
    ∧ hsiaoPos (hsiaoSynd d.toNat (hsiaoCheck d.toNat ^^^ 2 ^ k.val)) = some (64 + k.val)
    ∧ (i ≠ j → hsiaoSynd (d.toNat ^^^ 2 ^ i.val ^^^ 2 ^ j.val) (hsiaoCheck d.toNat) ≠ 0
      ∧ hsiaoPos (hsiaoSynd (d.toNat ^^^ 2 ^ i.val ^^^ 2 ^ j.val) (hsiaoCheck d.toNat)) = none)

/-- Errors in stored words (R452 to R459): counted and posted, a machine check stops firmware that cannot recover, and refresh rewrites a
poisoned table word or reports it lost. -/
def Claims.MemoryErrorsAreHandled : Prop :=
  ∀ (s : State) (space : Fin 8) (ix chk : BitVec 8) (addr data : BitVec 64) (core : Fin 4) (a : Nat) (w : Word),
    (∀ p, space.val < 5 → memNamed space ix.toNat = true → hsiaoPos (hsiaoSynd data.toNat chk.toNat) = some p →
      Gives (.eccError space ix addr data chk 0 0) s fun t =>
        t.f (R.MEM_CNT space) F.MEM_CNT_CORR = satAdd F.MEM_CNT_CORR.w (s.f (R.MEM_CNT space) F.MEM_CNT_CORR) 1
        ∧ t.f (R.MEM_CNT space) F.MEM_CNT_UNC = s.f (R.MEM_CNT space) F.MEM_CNT_UNC)
    ∧ (space.val < 5 → memNamed space ix.toNat = true → hsiaoSynd data.toNat chk.toNat ≠ 0 →
      hsiaoPos (hsiaoSynd data.toNat chk.toNat) = none → s.mem.posted.contains (memId space ix.toNat) = false →
      Gives (.eccError space ix addr data chk 0 0) s fun t => Posts s t Ev.ECC_UNCORR noObj noLane false
        ∧ t.f (R.MEM_CNT space) F.MEM_CNT_UNC = satAdd F.MEM_CNT_UNC.w (s.f (R.MEM_CNT space) F.MEM_CNT_UNC) 1
        ∧ t.reg R.MEM_UNC_ADDR = addr)
    ∧ (hsiaoSynd data.toNat chk.toNat = 0 → Gives (.eccError space ix addr data chk 0 0) s fun t => t = s)
    ∧ (Gives (.mcheck core addr true) s fun t => Posts s t Ev.MCHECK noObj noLane false ∧ t.regs = s.regs ∧ t.pwr = s.pwr)
    ∧ (Gives (.mcheck core addr false) s fun t => Posts s t Ev.MCHECK noObj noLane false ∧ t.pwr.fwStopped = true
      ∧ t.f R.WDT_STAT F.WDT_STAT_LAST_FAULT = 4)
    ∧ (longLived a = true → s.b R.MEM_ECC_CTL F.MEM_ECC_CTL_REFRESH_EN = true → s.blockedBy a = none →
      Tab.get (fun _ => none) s.mem.bad a = some w → a ≠ R.REFRESH_STAT →
      (Gives (.tableRefresh a true) s fun t => Tab.get (fun _ => none) t.mem.bad a = none
        ∧ t.reg a = (s.reg a &&& ~~~tableMask a) ||| (w &&& tableMask a))
      ∧ (Gives (.tableRefresh a false) s fun t => Tab.get (fun _ => none) t.mem.bad a = none ∧ t.reg a = s.reg a
        ∧ Posts s t Ev.TABLE_LOST (a / 0x10000) noLane false))

/-- The memory test (R460, R463, R476): a split write is stored, read back with its syndrome, and gone at the end, by command and by
register; GLB_LOCK closes the registers. -/
def Claims.MemoryTestWritesAndReads : Prop :=
  ∀ (s : State) (c : Cmd) (die op k : BitVec 8) (mac word : BitVec 16) (d v : BitVec 64) (w : Nat × Nat), 
    (wordNamed die.toNat mac.toNat word.toNat = true → s.testAllowed die.toNat = true → c.epoch = s.host.epoch →
      (op.toNat = 0 → Gives (.memTest c op die mac word d k) s fun t => Answers s t c Op.MEM_TEST St.OK
        ∧ Tab.get (fun _ => none) t.mem.test (wordKey die.toNat mac.toNat word.toNat) = some (d.toNat, k.toNat))
      ∧ (op.toNat = 1 → Tab.get (fun _ => none) s.mem.test (wordKey die.toNat mac.toNat word.toNat) = some w →
        Gives (.memTest c op die mac word d k) s fun t => t.mem = s.mem ∧ ∃ x, t.host.compQ = s.host.compQ ++ [x]
          ∧ x.status = St.OK ∧ x.res = [(32, 8, w.1), (40, 1, w.2), (41, 1, hsiaoSynd w.1 w.2)])
      ∧ (op.toNat = 2 → Gives (.memTest c op die mac word d k) s fun t => Answers s t c Op.MEM_TEST St.OK ∧ t.mem.test = []))
    ∧ (s.b R.GLB_LOCK F.GLB_LOCK_LOCK = false →
      wordNamed (F.MEM_TEST_CTL_DIE.of v) (F.MEM_TEST_CTL_MACRO.of v) (F.MEM_TEST_CTL_WORD.of v) = true →
      (Gives (.memTestWrite v) s fun t => Tab.get (fun _ => none) t.mem.test
          (wordKey (F.MEM_TEST_CTL_DIE.of v) (F.MEM_TEST_CTL_MACRO.of v) (F.MEM_TEST_CTL_WORD.of v))
        = some (s.f R.MEM_TEST_DATA F.MEM_TEST_DATA_DATA, s.f R.MEM_TEST_CHK F.MEM_TEST_CHK_CHK))
      ∧ (Tab.get (fun _ => none) s.mem.test
          (wordKey (F.MEM_TEST_CTL_DIE.of v) (F.MEM_TEST_CTL_MACRO.of v) (F.MEM_TEST_CTL_WORD.of v)) = some w →
        Gives (.memTestRead v) s fun t => t.reg R.MEM_TEST_DATA = BitVec.ofNat 64 w.1
          ∧ t.f R.MEM_TEST_CHK F.MEM_TEST_CHK_CHK = w.2 % 256)
      ∧ (Gives (.memTestExit v) s fun t => t.mem.test = []))
    ∧ (s.b R.GLB_LOCK F.GLB_LOCK_LOCK = true →
      Gives (.memTestWrite v) s fun t => Logs s t R.MEM_TEST_CTL logLOCKED ∧ t.mem = s.mem ∧ t.regs = s.regs)

/-- Conditioned inputs and the status page (R468, R469, R475). -/
def Obligations.InputsAreConditioned : Prop :=
  ∀ (s : State) (x : Fin 21) (v : Bool),
    (bitOf s.pwr.inRaw x ≠ v → s.stormed x = false →
      Gives (.inputEdge x v) s fun t => bitOf (t.f R.IN_LEVEL F.IN_LEVEL_LEVEL) x = v ∧ bitOf t.pwr.inRaw x = v
        ∧ t.f (R.IN_CTL x) F.IN_CTL_EDGE_CNT = satAdd F.IN_CTL_EDGE_CNT.w (s.f (R.IN_CTL x) F.IN_CTL_EDGE_CNT) 1
        ∧ (s.b (R.IN_CTL x) F.IN_CTL_EV_EN = true → Posts s t Ev.INPUT_EDGE x noLane (!v)))
    ∧ (bitOf s.pwr.inRaw x ≠ v → s.stormed x = true → stormHolds x = true →
      Gives (.inputEdge x v) s fun t => t.reg R.IN_LEVEL = s.reg R.IN_LEVEL ∧ bitOf t.pwr.inRaw x = v ∧ t.host = s.host)
    ∧ (bitOf s.pwr.inRaw x = v → Gives (.inputEdge x v) s fun t => t = s)
    ∧ (s.pwr.stormDue.contains x.val = true → s.stormed x = false →
      Gives (.inputStorm x) s fun t => t.stormed x = true ∧ Posts s t Ev.INPUT_STORM x noLane false)
    ∧ (s.pwr.page ≠ [] → Gives .smbusStatusRead s fun t => t.pwr.smbus = s.pwr.page ∧ t.regs = s.regs)

/-! ## Optical engine control (chapter 14) -/

/-- Engine DAC queues, spans and clears (R486 to R488, R493, R494). -/
def Claims.EngineChannelsQueueAndClear : Prop :=
  ∀ (s : State) (c : Cmd) (ch : BitVec 16) (n fl : BitVec 8) (codes : BitVec 128) (x : Fin 432) (v : Nat) (q : List Nat) (g : Fin 4)
    (w : BitVec 64),
    (c.epoch = s.host.epoch → ch.toNat < 432 → 1 ≤ n.toNat → n.toNat ≤ 8 → fl.toNat < 2 → codes.toNat / 2 ^ (16 * n.toNat) = 0 →
      s.owner ch.toNat = 0 → (if fl.toNat = 1 then 0 else (s.ch ch.toNat).queue.length) + n.toNat ≤ 8 →
      Gives (.edacQueue c ch n fl codes) s fun t => Answers s t c Op.EDAC_QUEUE St.OK
        ∧ (t.ch ch.toNat).queue = (if fl.toNat = 1 then [] else (s.ch ch.toNat).queue) ++ queueCodes n.toNat codes.toNat
        ∧ (t.ch ch.toNat).code = (s.ch ch.toNat).code ∧ ∀ k, k ≠ ch.toNat → t.ch k = s.ch k)
    ∧ (c.epoch = s.host.epoch → ch.toNat < 432 → 1 ≤ n.toNat → n.toNat ≤ 8 → fl.toNat < 2 → codes.toNat / 2 ^ (16 * n.toNat) = 0 →
      s.owner ch.toNat = 3 → Gives (.edacQueue c ch n fl codes) s fun t => Answers s t c Op.EDAC_QUEUE St.ENG_CLEARED ∧ t.eng = s.eng)
    ∧ ((s.ch x).spanPend = true → (s.ch x).spanLeft = 0 → s.chClear x = false → (s.ch x).queue = v :: q →
      Gives (.spanSettle x) s fun t => (t.ch x).span = s.f (R.EDAC_CH_CFG x) F.EDAC_CH_CFG_SPAN ∧ (t.ch x).code = v
        ∧ (t.ch x).queue = q ∧ (t.ch x).spanPend = false)
    ∧ ((s.ch x).spanPend = true → (s.ch x).spanLeft = 0 → s.chClear x = true →
      Gives (.spanSettle x) s fun t => (t.ch x).span = s.f (R.EDAC_CH_CFG x) F.EDAC_CH_CFG_SPAN ∧ (t.ch x).code = s.clearCode x)
    ∧ (s.groupClear g = false →
      Gives (.engClrNEdge g true) s fun t => Posts s t Ev.EDAC_CLEAR g noLane false ∧ t.groupClear g = true
        ∧ (chGroup x = g.val → s.chClear x = false →
          (t.ch x).code = s.clearCode x ∧ (t.ch x).queue = [] ∧ (t.ch x).held = true))
    ∧ Gives (.spanWrite x w) s fun t => t.eng = s.eng

/-- Preloaded ramps and the last ramp (R490, R491, R497, R498). -/
def Claims.EngineRampsRun : Prop :=
  ∀ (s : State) (c : Cmd) (sl : BitVec 8) (k : Fin 16) (q : RampRun) (y : Nat × Nat × Nat),
    (sl.toNat < 16 → s.f (R.EDAC_RAMP_CTL sl.toNat) F.EDAC_RAMP_CTL_COUNT = 1 → s.rampRefusal sl.toNat = none →
      Gives (.edacRamp c sl) s fun t => t.host = s.host
        ∧ (∃ r, t.ramp sl.toNat = some r ∧ r.start = s.tick ∧ r.step = 1 ∧ r.cmd = some { c with eff := s.tick }
          ∧ r.ticks = s.f (R.EDAC_RAMP_CTL sl.toNat) F.EDAC_RAMP_CTL_TICKS)
        ∧ ∀ x, x = s.f (R.EDAC_RAMP_ENT sl.toNat 0) F.EDAC_RAMP_ENT_CH → (t.ch x).queue = []
          ∧ (t.ch x).code = rampCode (s.ch x).span (s.ch x).prev (s.f (R.EDAC_RAMP_ENT sl.toNat 0) F.EDAC_RAMP_ENT_TARGET) 1
              (s.f (R.EDAC_RAMP_CTL sl.toNat) F.EDAC_RAMP_CTL_TICKS))
    ∧ (s.ramp k = some q → q.ticks ≤ q.step → q.cmd = some c → c.epoch = s.host.epoch →
      Gives (.edacRampDone k) s fun t => t.ramp k = none ∧ Posts s t Ev.EDAC_RAMP_DONE k noLane false
        ∧ Answers s t c Op.EDAC_RAMP St.OK)
    ∧ (s.lrState = 0 →
      Gives (.lastRamp c) s fun t => t.lrState = 1 ∧ Posts s t Ev.LAST_RAMP_START noObj noLane false
        ∧ t.eng.lrWait = s.eng.lrWait ++ [{ c with eff := s.tick }])
    ∧ (s.lrState = 2 → c.epoch = s.host.epoch → Gives (.lastRamp c) s fun t => Answers s t c Op.LAST_RAMP St.OK ∧ t.eng = s.eng)
    ∧ (s.lrState = 1 → s.eng.lrStep < s.eng.lrN → (s.eng.lrFrom.map (·.1)).Nodup → y ∈ s.eng.lrFrom →
      Gives .lastRampStep s fun t => t.eng.lrStep = s.eng.lrStep + 1
        ∧ (t.ch y.1).code = rampCode (s.ch y.1).span y.2.1 y.2.2 (s.eng.lrStep + 1) s.eng.lrN)
    ∧ (s.lrState = 1 → s.eng.lrStep = s.eng.lrN → s.eng.lrReset = false → c ∈ s.eng.lrWait → c.epoch = s.host.epoch →
      Gives .lastRampDone s fun t => t.lrState = 2 ∧ t.eng.lrWait = [] ∧ Posts s t Ev.LAST_RAMP_DONE noObj noLane false
        ∧ Answers s t c Op.LAST_RAMP St.OK)
    ∧ (s.lrState = 2 → c.epoch = s.host.epoch →
      Gives (.lastRampRelease c) s fun t => t.lrState = 0 ∧ Answers s t c Op.LAST_RAMP_RELEASE St.OK
        ∧ ∀ x, t.owner x = 3)
    ∧ (s.lrState ≠ 2 → c.epoch = s.host.epoch →
      Gives (.lastRampRelease c) s fun t => t.eng = s.eng ∧ Answers s t c Op.LAST_RAMP_RELEASE St.WRONG_STATE)

/-- The buses of the engines and of the regulators (R508, R509, R529). -/
def Obligations.BusTransactionsRunOneAtATime : Prop :=
  ∀ (s : State) (c : Cmd) (b ad wn rn rs : BitVec 8) (wd : BitVec 512) (wp : BitVec 256) (k : Fin 4) (x : BusXfer) (i : BitVec 8)
    (data : List Byte) (stuck : Bool) (j : Fin 32) (res : List (Option (BitVec 64))) (v : BitVec 64),
    (b.toNat < 4 → ad.toNat < 128 → wn.toNat ≤ 64 → rn.toNat ≤ 16 → rs.toNat < 2 → s.i2cNow b.toNat = none →
      s.b (R.ENG_I2C_CTL b.toNat) F.ENG_I2C_CTL_EN = true → (∀ z ∈ s.eng.i2cHost, z.bus ≠ b.toNat) →
      (∀ y ∈ s.eng.i2cFw, y.2.2.bus ≠ b.toNat) →
      Gives (.engI2c c b ad wn rn rs wd) s fun t => t.b (R.ENG_I2C_STAT b.toNat) F.ENG_I2C_STAT_BUSY = true ∧ t.host = s.host
        ∧ t.i2cNow b.toNat = some ⟨some { c with eff := s.tick }, b.toNat, ad.toNat, leBytes wn.toNat wd.toNat, rn.toNat,
            decide (rs.toNat = 1)⟩)
    ∧ (s.i2cNow k = some x → x.cmd = some c → c.epoch = s.host.epoch →
      Gives (.i2cTransactionEnd k none data) s fun t => Answers s t c Op.ENG_I2C St.OK)
    ∧ (s.i2cNow k = some x → x.cmd = some c → c.epoch = s.host.epoch →
      Gives (.i2cTransactionEnd k (some i) data) s fun t => Answers s t c Op.ENG_I2C St.I2C_NAK
        ∧ t.f (R.ENG_I2C_STAT k) F.ENG_I2C_STAT_NAK_CNT = satAdd 16 (s.f (R.ENG_I2C_STAT k) F.ENG_I2C_STAT_NAK_CNT) 1)
    ∧ (s.i2cNow k = some x → x.cmd = some c → c.epoch = s.host.epoch →
      Gives (.i2cRecover k stuck) s fun t => Answers s t c Op.ENG_I2C (if stuck then St.I2C_STUCK else St.I2C_TIMEOUT)
        ∧ Posts s t Ev.I2C_RECOVER k noLane false)
    ∧ (b.toNat < 32 → wn.toNat ≤ 32 → rn.toNat ≤ 24 → rs.toNat < 2 → s.pwr.pmbRun = none → s.pwr.pmbHost = [] →
      Gives (.pmbXfer c b ad wn rn rs wp) s fun t => t.host = s.host ∧ t.pwr.pmbHost = []
        ∧ t.pwr.pmbRun = some ⟨some { c with eff := s.tick }, b.toNat, ad.toNat, leBytes wn.toNat wp.toNat, rn.toNat,
            decide (rs.toNat = 1)⟩)
    ∧ (s.pwr.pmbRun = some x → x.cmd = some c → c.epoch = s.host.epoch →
      Gives (.pmbTransactionEnd 0 data) s fun t => Answers s t c Op.PMB_XFER St.OK)
    ∧ (s.pwr.pmbRun = some x → x.cmd = some c → c.epoch = s.host.epoch →
      Gives (.pmbTransactionEnd 1 data) s fun t => Answers s t c Op.PMB_XFER St.PMB_NAK)
    ∧ (s.pwr.pmbRun = some x → x.cmd = some c → c.epoch = s.host.epoch →
      Gives (.pmbTransactionEnd 2 data) s fun t => Answers s t c Op.PMB_XFER St.PMB_TIMEOUT)
    ∧ (s.isOn domCTRL = true → s.pwr.pmbRun = none → s.b (R.PMB_DEV j) F.PMB_DEV_POLL = true → res.getD j none = some v →
      Gives (.pmbPoll res) s fun t => t.reg (R.PMB_STAT j) = v)
    ∧ (s.isOn domCTRL = true → s.pwr.pmbRun = none → s.b (R.PMB_DEV j) F.PMB_DEV_POLL = true → res.getD j none = none →
      Gives (.pmbPoll res) s fun t => t.reg (R.PMB_STAT j) = s.reg (R.PMB_STAT j) ∧ Posts s t Ev.PMB_FAULT j noLane false)

/-- Housekeeping conversions, engine temperatures, the core voltage and the control clock (R505, R517, R528, R531, R532, R534).  The
factory scaling and the regulator's first setting are free (log entries 1 and 2). -/
def Obligations.MeasurementsAndCoreVoltage : Prop :=
  ∀ (s : State) (h : Fin 2) (raw raw2 : List (BitVec 16)) (cyc : Fin 6250) (o : Fin 16) (v : BitVec 16) (pll : Bool) (e ch w : Nat),
    ((s.b (R.HK_SEQ_CTL h) F.HK_SEQ_CTL_EN = true ∨ (s.hk h).trig.isSome = true) → e = (s.hk h).entry → e < 256 →
      ch = s.hkEntry h e F.HK_SEQ_CH → ch < 640 → s.hkEntry h e F.HK_SEQ_CHECK = 0 →
      Gives (.hkConversion h 1 raw raw2 cyc) s fun t =>
        t.f (R.HK_RES ch) F.HK_RES_VALUE = patternOf 16 (s.hkValue ch (s.hkCorrect h ch (raw.map (·.toNat))))
        ∧ t.f (R.HK_RES ch) F.HK_RES_CONV = h
        ∧ ((s.hk h).trig = none → (s.hk h).pend = none → (s.hk h).restart = false →
          (t.hk h).entry = if s.hkLast h e then 0 else e + 1))
    ∧ Gives (.hkConversion h 2 raw raw2 cyc) s (fun t => t = s)
    ∧ Gives (.hkSeqRestart h) s (fun t => (t.hk h).restart = true)
    ∧ (s.b (R.ENG_THERM o) F.ENG_THERM_EN = true → s.i2cNow (o / 4) = none → s.b (R.ENG_I2C_CTL (o / 4)) F.ENG_I2C_CTL_EN = true →
      s.isOn domCTRL = true →
      Gives (.engThermRead o (some v)) s fun t =>
        t.f (R.ENG_THERM o) F.ENG_THERM_TEMP = patternOf 16 (roundDiv (v.toInt * 100) 256)
        ∧ (s.i R.ENG_THERM_LVL F.ENG_THERM_LVL_ENG_CRIT ≤ roundDiv (v.toInt * 100) 256 → bitOf t.pwr.engCrit o = true))
    ∧ (s.b R.PWR_STAT F.PWR_STAT_CORE_CLK ≠ pll →
      Gives (.coreClk pll) s fun t => t.b R.PWR_STAT F.PWR_STAT_CORE_CLK = pll ∧ Posts s t Ev.CORE_CLK noObj noLane false
        ∧ t.f R.TICK_BUDGET F.TICK_BUDGET_CMD_NS = Config.tickBudget 0 / (if pll then 1 else 4) % 65536)
    ∧ (s.b R.PWR_STAT F.PWR_STAT_CORE_CLK = pll → Gives (.coreClk pll) s fun t => t = s)
    ∧ (s.b R.AVS_CTL F.AVS_CTL_EN = true → s.isOn domCTRL = true → s.avsDue = true → s.pwr.avsSet = some w →
      Gives .avsStep s fun t => t.f R.AVS_STAT F.AVS_STAT_TARGET = max 6500 (min 8000 s.avsWant)
        ∧ (s.avsWant < 6500 ∨ 8000 < s.avsWant → Posts s t Ev.AVS_LIMIT noObj noLane false)
        ∧ (w ≤ max 6500 (min 8000 s.avsWant) → t.pwr.avsSet
            = some (min (max 6500 (min 8000 s.avsWant)) (w + 10 * s.f R.AVS_CTL F.AVS_CTL_STEP_MV)))
        ∧ (max 6500 (min 8000 s.avsWant) < w → t.pwr.avsSet
            = some (max (max 6500 (min 8000 s.avsWant)) (w - 10 * s.f R.AVS_CTL F.AVS_CTL_STEP_MV))))

/-! ## Power domains (chapter 15) -/

/-- A request for a domain meets it outside a transition (R522, R523, R525). -/
def Claims.PowerRequestsAreEvaluated : Prop :=
  ∀ (s : State) (c : Cmd) (dom tg : BitVec 8) (d v : Nat),
    c.epoch = s.host.epoch → d = dom.toNat → 3 ≤ d → d ≤ 42 → tg.toNat < 3 → s.domTrans d = 0 → (s.dom d).held = none →
    (tg.toNat = s.domState d →
      Gives (.pwrReq c dom tg) s fun t => Answers s t c Op.PWR_REQ St.OK ∧ t.regs = s.regs ∧ t.pwr = s.pwr)
    ∧ (tg.toNat = 0 → s.domState d ≠ 0 → s.onCause d = 0 →
      Gives (.pwrReq c dom tg) s fun t => t.domTrans d = 4 ∧ t.domState d = s.domState d ∧ t.host = s.host
        ∧ (t.dom d).req = some ⟨some { c with eff := s.tick }, 0, 0⟩)
    ∧ (tg.toNat = 0 → s.domState d ≠ 0 → s.onCause d ≠ 0 →
      Gives (.pwrReq c dom tg) s fun t => Answers s t c Op.PWR_REQ St.REFUSED ∧ Posts s t Ev.PWR_REFUSED d noLane false
        ∧ t.f (R.PWR_DOM_STAT d) F.PWR_DOM_STAT_CAUSE = s.onCause d ∧ t.domState d = s.domState d ∧ t.domTrans d = 0)
    ∧ (tg.toNat = 1 → s.domState d = 2 →
      Gives (.pwrReq c dom tg) s fun t => Answers s t c Op.PWR_REQ St.REFUSED ∧ t.domState d = 2 ∧ t.domTrans d = 0
        ∧ t.f (R.PWR_DOM_STAT d) F.PWR_DOM_STAT_CAUSE = causeSTATE)
    ∧ (1 ≤ tg.toNat → s.domState d < tg.toNat → s.wakePending d = true →
      Gives (.pwrReq c dom tg) s fun t => Answers s t c Op.PWR_REQ St.REFUSED_WAKE ∧ t.domState d = s.domState d
        ∧ t.f (R.PWR_DOM_STAT d) F.PWR_DOM_STAT_CAUSE = causeWAKE)
    ∧ (1 ≤ tg.toNat → s.domState d < tg.toNat → s.wakePending d = false → s.agent d = (1, v) → v < 16 →
      Gives (.pwrReq c dom tg) s fun t => Answers s t c Op.PWR_REQ St.REFUSED ∧ t.domState d = s.domState d
        ∧ t.f (R.PWR_DOM_STAT d) F.PWR_DOM_STAT_CAUSE = v ∧ t.f (R.PWR_DOM_STAT d) F.PWR_DOM_STAT_LAST_ANS = 1)
    ∧ (1 ≤ tg.toNat → s.domState d < tg.toNat → s.wakePending d = false → s.agent d = (2, v) → v < 128 →
      (v ≤ s.f R.PWR_CTL F.PWR_CTL_DELAY_MAX →
        Gives (.pwrReq c dom tg) s fun t => t.domTrans d = 2 ∧ t.host = s.host ∧ t.domState d = s.domState d
          ∧ t.f (R.PWR_DOM_STAT d) F.PWR_DOM_STAT_DELAY_LEFT = v ∧ (t.dom d).due = s.tick + v)
      ∧ (s.f R.PWR_CTL F.PWR_CTL_DELAY_MAX < v →
        Gives (.pwrReq c dom tg) s fun t => Answers s t c Op.PWR_REQ St.DELAY_LIMIT ∧ t.domState d = s.domState d))
    ∧ (1 ≤ tg.toNat → s.domState d < tg.toNat → s.wakePending d = false → s.agent d = (0, v) →
      Gives (.pwrReq c dom tg) s fun t => t.domTrans d = 3 ∧ t.domState d = s.domState d)

/-- Requests during a transition, delays, and the ends of transitions (R518, R520, R523, R526, R527, R530). -/
def Claims.PowerTransitionsEnd : Prop :=
  ∀ (s : State) (c c' : Cmd) (dom tg : BitVec 8) (d : Fin 43) (q p : DomReq) (o : Fin 16) (v : Nat), 3 ≤ d.val →
    (c'.epoch = s.host.epoch → dom.toNat = d.val → tg.toNat < 3 → (s.domTrans d = 3 ∨ s.domTrans d = 4) →
      (s.dom d).held = some p → p.cmd = some c' →
      Gives (.pwrReq c dom tg) s fun t => Answers s t c' Op.PWR_REQ St.SUPERSEDED ∧ t.domTrans d = s.domTrans d
        ∧ (t.dom d).held = some ⟨some { c with eff := s.tick }, tg.toNat, 0⟩
        ∧ t.b (R.PWR_DOM_STAT d) F.PWR_DOM_STAT_PENDING = true)
    ∧ (s.domTrans d = 2 → (s.dom d).req = some q → (s.dom d).due ≤ s.tick → (s.undelay d).wakePending d = false →
      (s.undelay d).agent d = (0, v) →
      Gives (.pwrDelayExpiry d) s fun t => t.domTrans d = 3 ∧ t.domState d = s.domState d)
    ∧ (s.domTrans d = 2 → (s.dom d).req = some q → s.tick < (s.dom d).due →
      Gives (.pwrDelayExpiry d) s fun t => t = s)
    ∧ (s.domTrans d = 3 → (s.dom d).req = some q → q.cmd = some c → c.epoch = s.host.epoch → s.entryIdle d = true →
      (q.target = 1 ∨ q.target = 2) → s.domState d ≠ q.target →
      Gives (.domainEntryComplete d) s fun t => t.domState d = q.target ∧ t.domTrans d = 0
        ∧ Posts s t Ev.PWR_STATE d noLane false ∧ Answers s t c Op.PWR_REQ St.OK)
    ∧ (s.domTrans d = 3 → s.entryIdle d = false → Gives (.domainEntryComplete d) s fun t => t = s)
    ∧ (s.domTrans d = 4 → (s.dom d).supply = false → (s.dom d).due ≤ s.tick → (s.dom d).req = some q → q.cmd = some c →
      c.epoch = s.host.epoch → s.domState d ≠ 0 →
      Gives (.domainExitComplete d) s fun t => t.isOn d = true ∧ t.domTrans d = 0 ∧ Posts s t Ev.PWR_STATE d noLane false
        ∧ Answers s t c Op.PWR_REQ St.OK)
    ∧ (s.domTrans (domOct o) = 4 → (s.dom (domOct o)).supply = true →
      Gives (.engSupplyWaitEnd o true) s fun t => (t.dom (domOct o)).supply = false ∧ t.regs = s.regs ∧ t.host = s.host)
    ∧ (s.domTrans (domOct o) = 4 → (s.dom (domOct o)).supply = true → (s.dom (domOct o)).due ≤ s.tick →
      (s.dom (domOct o)).req = some q → q.cmd = some c → c.epoch = s.host.epoch →
      Gives (.engSupplyWaitEnd o false) s fun t => Answers s t c Op.PWR_REQ St.REFUSED ∧ t.domTrans (domOct o) = 0
        ∧ t.f (R.PWR_DOM_STAT (domOct o)) F.PWR_DOM_STAT_CAUSE = causeSUPPLY)
    ∧ (sigSource d = true → s.b (R.PWR_DOM_WAKE d) F.PWR_DOM_WAKE_SIG_EN = true →
      Gives (.wakeSig d) s fun t => (t.dom d).wake = 1 ∧ t.regs = s.regs)
    ∧ (s.b (R.PWR_DOM_WAKE d) F.PWR_DOM_WAKE_TICK_EN = true →
      s.f (R.PWR_DOM_WAKE d) F.PWR_DOM_WAKE_WAKE_TICK = s.tick % 2 ^ 48 → s.domTrans d = 0 → s.isOn d = false → s.onCause d = 0 →
      Gives (.wakeTick d) s fun t => t.domTrans d = 4 ∧ Posts s t Ev.WAKE d noLane false
        ∧ t.b (R.PWR_DOM_WAKE d) F.PWR_DOM_WAKE_TICK_EN = false)

/-- Orderly stops and Reef (R536, R537, R541, R544). -/
def Obligations.StopsAndReefStages : Prop :=
  ∀ (s : State) (c : Cmd) (n d : Nat) (rest : List Nat) (m : BitVec 8),
    (s.pwr.critPend = some n → s.pwr.stop = .none →
      Gives .orderlyStop s fun t => t.pwr.stop = .orderly stopOrder ∧ t.pwr.critPend = none
        ∧ t.b R.PWR_STAT F.PWR_STAT_STOPPING = true ∧ t.f R.WDT_STAT F.WDT_STAT_LAST_FAULT = 3
        ∧ Posts s t Ev.PWR_STOP noObj noLane false ∧ (s.lrState = 0 → t.lrState = 1))
    ∧ (s.pwr.stop = .none → c.epoch = s.host.epoch →
      Gives (.pwrStop c) s fun t => t.pwr.stop = .orderly stopOrder ∧ t.f R.WDT_STAT F.WDT_STAT_LAST_FAULT = 3
        ∧ Posts s t Ev.PWR_STOP noObj noLane false ∧ Answers s t c Op.PWR_STOP St.OK)
    ∧ (s.pwr.stop = .orderly (d :: rest) → s.lrState = 2 → 1 ≤ d → d ≤ 42 →
      Gives .orderlyStopDomainOff s fun t => t.domState d = 2
        ∧ t.pwr.stop = if rest.isEmpty then .stopped else .orderly rest)
    ∧ (s.pwr.stop = .orderly (d :: rest) → s.lrState ≠ 2 → Gives .orderlyStopDomainOff s fun t => t = s)
    ∧ (s.reefStage = 1 → s.reefEn = true → s.reefTimer F.REEF_CTL_GRACE = true →
      Gives .reefGrace s fun t => t.reefStage = 2 ∧ Posts s t Ev.REEF_STAGE noObj noLane false)
    ∧ (s.reefStage = 2 → s.reefEn = true → s.reefTimer F.REEF_CTL_GRACE2 = true →
      Gives .reefGrace2 s fun t => t.reefStage = 3 ∧ Posts s t Ev.REEF_STAGE noObj noLane false)
    ∧ (s.reefStage ≠ 0 → s.f R.REEF_CTL F.REEF_CTL_HOLD ≤ s.pwr.holdCnt →
      Gives .reefHold s fun t => t.reefStage = s.reefStage - 1 ∧ Posts s t Ev.REEF_STAGE noObj noLane false)
    ∧ (m.toNat < 2 → c.epoch = s.host.epoch →
      Gives (.reefReq c m) s fun t => t.f R.REEF_CTL F.REEF_CTL_MANUAL = m.toNat ∧ Answers s t c Op.REEF_REQ St.OK
        ∧ (m.toNat = 1 → s.reefEn = true → s.reefStage = 0 → t.reefStage = 1))

/-! ## Resets and start-up (chapters 13 and 16) -/

/-- What resets leave (R471, R472, R473, R496, R552, R554, R565): the values that the fuses hold stay, the rest of the registers go
back to their reset values at power-on. -/
def Obligations.ResetsAndStartUp : Prop :=
  ∀ (s : State) (role fuseOk flashOk certOk hang : Bool) (sup : BitVec 4) (rows : List (Nat × Nat × Nat × Bool))
    (chk : List (Nat × Nat)) (a d : Nat),
    Gives .powerOnReset s (fun t => t.tick = 0 ∧ t.staged = [] ∧ t.pending = s.pending ∧ t.sec.held = true ∧ t.sec.flash = s.sec.flash
      ∧ t.eng.hiZ = false ∧ (a ∉ fusedRegs → t.reg a = resetWord a)
      ∧ ((s.regs.map (·.1)).Nodup → a ∈ fusedRegs → t.reg a = s.reg a))
    ∧ Gives .vddAonLoss s (fun t => t.eng.hiZ = true ∧ t.holdsLock = false ∧ (a ∉ fusedRegs → t.reg a = resetWord a))
    ∧ Gives (.resetN true) s (fun t => t.f R.WDT_STAT F.WDT_STAT_LAST_FAULT = 8 ∧ t.tick = s.tick ∧ t.holdsLock = false
      ∧ t.sec.held = true ∧ t.staged = [] ∧ t.jrn.flash = s.jrn.flash ∧ t.sec.flash = s.sec.flash)
    ∧ Gives (.resetN false) s (fun t => t = s)
    ∧ Gives .vddCoreLoss s (fun t => t.f R.WDT_STAT F.WDT_STAT_LAST_FAULT = 6 ∧ t.staged = [] ∧ t.host.linkUp = false
      ∧ (1 ≤ d → d ≤ 42 → t.domState d = 2))
    ∧ (s.b R.WDT_CTL F.WDT_CTL_EN = true → 3 ≤ s.bootStage → s.bootStage ≤ 5 → s.sec.held = false → s.pwr.stop = .none →
      s.eng.lrReset = false → s.isOn domPCIE = true →
      Gives .wdtExpire s fun t => (s.b R.WDT_CTL F.WDT_CTL_ACTION = false →
          t.f R.WDT_STAT F.WDT_STAT_LAST_FAULT = 1 ∧ Posts s t Ev.WDT_EXPIRE noObj noLane false
          ∧ t.f R.WDT_STAT F.WDT_STAT_EXPIRE_CNT = satAdd 16 (s.f R.WDT_STAT F.WDT_STAT_EXPIRE_CNT) 1)
        ∧ (s.b R.WDT_CTL F.WDT_CTL_ACTION = true → s.lrState = 0 → t.eng.lrReset = true ∧ t.lrState = 1)
        ∧ (s.b R.WDT_CTL F.WDT_CTL_ACTION = true → s.lrState = 2 →
          t.sec.held = true ∧ t.f R.WDT_STAT F.WDT_STAT_LAST_FAULT = 1))
    ∧ (s.sec.held = true →
      Gives (.resetRelease role false flashOk certOk hang sup rows chk) s fun t => t.sec.held = false
        ∧ t.f R.WDT_STAT F.WDT_STAT_LAST_FAULT = 17 ∧ t.f R.PAIR_STAT F.PAIR_STAT_ROLE = bit role)
    ∧ (s.sec.held = true →
      Gives (.resetRelease role true false certOk hang sup rows chk) s fun t => t.sec.held = false ∧ t.bootStage = 6
        ∧ t.f R.WDT_STAT F.WDT_STAT_LAST_FAULT = 18)
    ∧ (s.sec.held = true → s.time.holdover = false →
      Gives (.resetRelease role true true certOk false sup rows chk) s fun t => t.sec.held = false
        ∧ ((t.bootStage = 5 ∧ t.b R.SEC_BOOT_STAT F.SEC_BOOT_STAT_FW_READY = true)
          ∨ (t.bootStage = 6 ∧ t.f R.WDT_STAT F.WDT_STAT_LAST_FAULT = 16) ∨ t.f R.WDT_STAT F.WDT_STAT_LAST_FAULT = 7))
    ∧ (s.sec.held = false → Gives (.resetRelease role fuseOk flashOk certOk hang sup rows chk) s fun t => t = s)
    ∧ (s.sec.held = true →
      Gives (.bootTimeout role) s fun t => t.sec.held = false ∧ t.bootStage = 6 ∧ t.f R.WDT_STAT F.WDT_STAT_LAST_FAULT = 19)
    ∧ (s.time.holdover = true →
      Gives .aonPeriod s fun t => t.pwr.scanPhase = s.pwr.scanPhase + 1 ∧ t.tick = s.tick)
    ∧ (s.time.holdover = false → Gives .aonPeriod s fun t => t = s)

/-! ## Identity, images, keys and tasks (chapter 16) -/

/-- Attestation, the certificate, images and the rollback count (R563, R568, R573).  The nonce of a signature and whether a
fuse sequence fails are free (log entry 1). -/
def Obligations.ImagesAndIdentity : Prop :=
  ∀ (s : State) (c : Cmd) (nonce : BitVec 256) (a : BitVec 64) (mx : BitVec 16) (sl fc : BitVec 8) (off len : BitVec 32)
    (m : List Byte), c.epoch = s.host.epoch →
    (a.toNat % 64 = 0 → s.b R.SEC_BOOT_STAT F.SEC_BOOT_STAT_CERT_OK = true →
      Gives (.attest c nonce a) s fun t => Answers s t c Op.ATTEST St.OK ∧ t.sec.reports = s.sec.reports + 1
        ∧ ∃ n body, body = t.reportBody (leBytes 32 nonce.toNat) ∧ 0 < n ∧ n < bpN
          ∧ t.host.dmaOut = s.host.dmaOut ++ [⟨a.toNat, body ++ ecdsaSign deviceKey n body⟩] ∧ (ecdsaSign deviceKey n body).length = 96)
    ∧ (a.toNat % 64 = 0 → s.b R.SEC_BOOT_STAT F.SEC_BOOT_STAT_CERT_OK = false →
      Gives (.attest c nonce a) s fun t => Answers s t c Op.ATTEST St.SIG_FAIL ∧ t.host.dmaOut = s.host.dmaOut)
    ∧ Gives (.certRead c a mx) s (fun t => Answers s t c Op.CERT_READ St.OK ∧ t.sec = s.sec
      ∧ (s.certBytes.take mx.toNat ≠ [] → t.host.dmaOut = s.host.dmaOut ++ [⟨a.toNat, s.certBytes.take mx.toNat⟩]))
    ∧ (sl.toNat < 2 → off.toNat % 0x10000 = 0 → len.toNat % 0x10000 = 0 → len.toNat ≤ 0x100000 → off.toNat + len.toNat ≤ 0xC00000 →
      (sl.toNat ≠ s.runSlot →
        Gives (.imageWrite c sl off len a m) s fun t => Answers s t c Op.IMAGE_WRITE St.OK
          ∧ ∀ k, k < len.toNat → k < m.length →
            Tab.get flashBlank t.sec.flash (imageAddr sl.toNat 1 + off.toNat + k) = m.getD k 0)
      ∧ (sl.toNat = s.runSlot →
        Gives (.imageWrite c sl off len a m) s fun t => Answers s t c Op.IMAGE_WRITE St.SLOT_RUNNING ∧ t.sec = s.sec))
    ∧ (sl.toNat < 2 →
      Gives (.imageCommit c sl) s fun t => Answers s t c Op.IMAGE_COMMIT
        (if s.imageOk sl.toNat 1 = true ∧ s.imageOk sl.toNat 2 = true
            ∧ fieldOf (s.imageHeader sl.toNat 2) 8 2 = s.slotVersion sl.toNat then
          (if s.slotVersion sl.toNat < s.rollback then St.VERSION_OLD else St.OK) else St.SIG_FAIL))
    ∧ (fc.toNat = 1 → s.runVersion ≤ s.rollback →
      Gives (.rollbackAdvance c fc) s fun t => Answers s t c Op.ROLLBACK_ADVANCE St.OK ∧ t.rollback = s.rollback)
    ∧ (fc.toNat = 1 → s.rollback < s.runVersion →
      Gives (.rollbackAdvance c fc) s fun t => (Answers s t c Op.ROLLBACK_ADVANCE St.OK ∧ t.rollback = s.runVersion)
        ∨ (Answers s t c Op.ROLLBACK_ADVANCE St.FUSE_FAIL ∧ s.rollback ≤ t.rollback ∧ t.rollback < s.runVersion))

/-- Customer keys, tick tasks and the boot-flash window (R564, R569 to R572, R615). -/
def Obligations.KeysTasksAndFlash : Prop :=
  ∀ (s : State) (c : Cmd) (a v : BitVec 64) (m : List Byte) (tk ac md : BitVec 8) (len : BitVec 32) (bg : BitVec 16) (k w x : Nat),
    c.epoch = s.host.epoch →
    (s.b R.GLB_LOCK F.GLB_LOCK_LOCK = true →
      Gives (.keyUpdate c a m) s fun t => Answers s t c Op.KEY_UPDATE St.LOCKED ∧ t.sec = s.sec ∧ t.regs = s.regs)
    ∧ (s.b R.GLB_LOCK F.GLB_LOCK_LOCK = false → fieldOf m 0 2 = 0x6B3E → fieldOf m 2 1 = 1 → k = fieldOf m 3 1 → k < 4 →
      fieldOf m 12 1 = 0xFF → fieldOf m 4 8 = (s.reg R.GLB_SERIAL).toNat → s.f R.SEC_KEY_STAT F.SEC_KEY_STAT_SLOTS = 0 →
      Gives (.keyUpdate c a m) s fun t => t.keyHash k = shaOf ((m.drop 16).take 96) ∧ Posts s t Ev.KEY_CHANGE noObj noLane false
        ∧ ((Answers s t c Op.KEY_UPDATE St.OK ∧ t.keyState k = 1) ∨ Answers s t c Op.KEY_UPDATE St.FUSE_FAIL))
    ∧ (tk.toNat < 2 → 512 ≤ len.toNat → len.toNat ≤ 512 + 262144 → len.toNat = 512 + fieldOf m 16 4 →
      s.taskState tk.toNat ≠ 2 → s.taskState tk.toNat ≠ 3 →
      Gives (.taskLoad c tk len a m) s fun t => Answers s t c Op.TASK_LOAD (s.taskImage (m.take len.toNat))
        ∧ (s.taskImage (m.take len.toNat) = St.OK → t.taskState tk.toNat = 1
          ∧ t.meas (2 + tk.toNat) = shaOf (m.take len.toNat)
          ∧ t.f (R.TASK_CFG tk.toNat) F.TASK_CFG_VERSION = fieldOf m 8 2)
        ∧ (s.taskImage (m.take len.toNat) ≠ St.OK → t.sec = s.sec ∧ t.regs = s.regs))
    ∧ (tk.toNat < 2 → ac.toNat < 3 → md.toNat < 2 → 500 ≤ bg.toNat → bg.toNat ≤ 2000 →
      taskNext ac.toNat (s.taskState tk.toNat) = some w →
      Gives (.taskSet c tk ac md bg) s fun t => Answers s t c Op.TASK_SET St.OK ∧ t.taskState tk.toNat = w
        ∧ t.f (R.TASK_CFG tk.toNat) F.TASK_CFG_MODE = md.toNat
        ∧ t.f (R.TASK_CFG tk.toNat) F.TASK_CFG_BUDGET_NS = bg.toNat ∧ Posts s t Ev.TASK_STATE tk.toNat noLane false)
    ∧ (tk.toNat < 2 → ac.toNat < 3 → md.toNat < 2 → 500 ≤ bg.toNat → bg.toNat ≤ 2000 →
      taskNext ac.toNat (s.taskState tk.toNat) = none →
      Gives (.taskSet c tk ac md bg) s fun t => Answers s t c Op.TASK_SET St.WRONG_STATE ∧ t.regs = s.regs)
    ∧ (w = s.f R.SEC_FLASH_ADDR F.SEC_FLASH_ADDR_ADDR → w % 8 = 0 → s.sec.op = none → s.bootStage = 6 → flashWindow w = true →
      x = s.f R.SEC_FLASH_DATA F.SEC_FLASH_DATA_DATA →
      Gives (.flashRead v) s (fun t => t.sec.op = some (0, w, x) ∧ t.b R.SEC_FLASH_ADDR F.SEC_FLASH_ADDR_BUSY = true)
      ∧ Gives (.flashProgram v) s (fun t => t.sec.op = some (1, w, x) ∧ t.b R.SEC_FLASH_ADDR F.SEC_FLASH_ADDR_BUSY = true)
      ∧ Gives (.flashErase v) s (fun t => t.sec.op = some (2, w, x) ∧ t.b R.SEC_FLASH_ADDR F.SEC_FLASH_ADDR_BUSY = true))
    ∧ (s.f R.SEC_FLASH_ADDR F.SEC_FLASH_ADDR_ADDR % 8 = 0 → s.bootStage ≠ 6 →
      Gives (.flashErase v) s fun t => Logs s t R.SEC_FLASH_CTL logREFUSED ∧ t.sec = s.sec)
    ∧ (s.sec.op = some (0, w, x) →
      Gives .flashOpEnd s fun t => t.sec.op = none ∧ t.sec.flash = s.sec.flash
        ∧ t.reg R.SEC_FLASH_DATA = BitVec.ofNat 64 (ofLeBytes (s.flashBytes w 8)))
    ∧ (s.sec.op = some (1, w, x) → k < 8 → Tab.get flashBlank s.sec.flash (w + k) = 0xFF →
      Gives .flashOpEnd s fun t => t.sec.op = none ∧ Tab.get flashBlank t.sec.flash (w + k) = (leBytes 8 x).getD k 0)
    ∧ (s.sec.op = some (2, w, x) →
      Gives .flashOpEnd s fun t => t.sec.op = none
        ∧ (k / 0x10000 = w / 0x10000 → Tab.get flashBlank t.sec.flash k = 0xFF)
        ∧ (k / 0x10000 ≠ w / 0x10000 → Tab.get flashBlank t.sec.flash k = Tab.get flashBlank s.sec.flash k))

/-! ## Patterns, histograms, samples and captures (chapter 17) -/

/-- Generators, checkers and loops (R579 to R585). -/
def Obligations.PatternsAndLoops : Prop :=
  ∀ (s : State) (c : Cmd) (ty ix ln gen chk sq fc lp : BitVec 8) (p : Fin 4) (i l : Fin 16),
    (c.epoch = s.host.epoch → patNamed ty.toNat ix.toNat ln.toNat = true → fc.toNat < 2 → 0 < sq.toNat → sq.toNat < 64 →
      s.patAccepts ty.toNat ix.toNat ln.toNat gen.toNat = true → s.patAccepts ty.toNat ix.toNat ln.toNat chk.toNat = true →
      s.patOnDomain ty.toNat ix.toNat = true →
      ((gen.toNat = 0 ∨ fc.toNat = 1) →
        Gives (.patSet c ty ix ln gen chk sq fc) s fun t => Answers s t c Op.PAT_SET St.OK
          ∧ t.f (patBase ty.toNat ix.toNat ln.toNat) F.PAT_CTL_GEN = gen.toNat
          ∧ t.f (patBase ty.toNat ix.toNat ln.toNat) F.PAT_CTL_CHK = chk.toNat)
      ∧ (gen.toNat ≠ 0 → fc.toNat = 0 → ty.toNat ≠ 2 → s.patInUse ty.toNat ix.toNat ln.toNat false = true →
        Gives (.patSet c ty ix ln gen chk sq fc) s fun t => Answers s t c Op.PAT_SET St.LANE_IN_USE ∧ t.regs = s.regs))
    ∧ (c.epoch = s.host.epoch → patNamed ty.toNat ix.toNat ln.toNat = true → ty.toNat ≠ 2 → lp.toNat < 4 → fc.toNat < 2 →
      s.patOnDomain ty.toNat ix.toNat = true → (lp.toNat = 0 ∨ fc.toNat = 1) →
      Gives (.loopSet c ty ix ln lp fc) s fun t => Answers s t c Op.LOOP_SET St.OK
        ∧ t.f (patBase ty.toNat ix.toNat ln.toNat) F.PAT_CTL_LOOP = lp.toNat)
    ∧ (c.epoch = s.host.epoch → ty.toNat = 2 →
      Gives (.loopSet c ty ix ln lp fc) s fun t => Answers s t c Op.LOOP_SET St.BAD_FIELD ∧ t.regs = s.regs)
    ∧ (patNamed p i l = true → s.patOnDomain p i = true → s.f (patBase p i l) F.PAT_CTL_CHK ≠ 0 →
      s.b (patStat p i l) F.PAT_STAT_LOCK = false →
      Gives (.patLock p i l) s fun t => t.b (patStat p i l) F.PAT_STAT_LOCK = true ∧ Posts s t Ev.PAT_LOCK i l false)
    ∧ (patNamed p i l = true → s.b (patStat p i l) F.PAT_STAT_LOCK = true →
      Gives (.patLockLoss p i l) s fun t => t.b (patStat p i l) F.PAT_STAT_LOCK = false ∧ Posts s t Ev.PAT_LOCK i l true
        ∧ t.f (patStat p i l) F.PAT_STAT_LOCK_LOSS = satAdd 16 (s.f (patStat p i l) F.PAT_STAT_LOCK_LOSS) 1)
    ∧ (patNamed p i l = true → s.f (patBase p i l) F.PAT_CTL_LOOP = 3 →
      Gives (.loopSlip p i l) s fun t =>
        t.f (patStat p i l) F.PAT_STAT_SLIP_CNT = satAdd 16 (s.f (patStat p i l) F.PAT_STAT_SLIP_CNT) 1
        ∧ (256 * p.val + 16 * i.val + l.val ∉ s.obs.slipPosted → Posts s t Ev.LOOP_SLIP i l false)
        ∧ (256 * p.val + 16 * i.val + l.val ∈ s.obs.slipPosted → t.host = s.host))

/-- Histograms, control-core samples and converter captures (R589, R590, R592 to R597). -/
def Obligations.HistogramsSamplesAndCaptures : Prop :=
  ∀ (s : State) (c : Cmd) (u : Fin 16) (co y : Fin 4) (pc ad a : BitVec 64) (wd lt x : BitVec 32) (fl : BitVec 2)
    (ll src bf : BitVec 8) (ln : BitVec 16) (off len : BitVec 32) (data : List Byte) (q : CapRun),
    (s.blockedBy (R.HIST_CTL u) = none → Gives (.histClear u) s fun t => Stages s t (R.HIST_CTL u) 4 4 false)
    ∧ (0 < Tab.get (fun _ => 0) s.obs.marks u → s.b (R.HIST_CTL u) F.HIST_CTL_EN = true →
      s.b (R.HIST_CTL u) F.HIST_CTL_FREEZE = false →
      Gives (.histSample u (some x)) s fun t =>
        Tab.get (fun _ => 0) t.obs.marks u + 1 = Tab.get (fun _ => 0) s.obs.marks u
        ∧ ∀ b, b = histBin (s.f (R.HIST_CFG u) F.HIST_CFG_BASE) (s.f (R.HIST_CFG u) F.HIST_CFG_BIN_W) x.toNat →
          t.f (R.HIST_BIN u b) F.HIST_BIN_CNT = satAdd 64 (s.f (R.HIST_BIN u b) F.HIST_BIN_CNT) 1)
    ∧ (0 < Tab.get (fun _ => 0) s.obs.marks u →
      Gives (.histSample u none) s fun t =>
        t.f (R.HIST_STAT u) F.HIST_STAT_LOST = satAdd F.HIST_STAT_LOST.w (s.f (R.HIST_STAT u) F.HIST_STAT_LOST) 1)
    ∧ (s.b R.SAMP_CTL F.SAMP_CTL_EN = true → bitOf (s.f R.SAMP_CTL F.SAMP_CTL_CORES) co = true →
      s.f R.SAMP_CTL F.SAMP_CTL_EVENT ≠ 0 → s.isOn domCTRL = true →
      (s.obs.samples.length < 4096 →
        Gives (.pmuSample co pc ad wd lt fl) s fun t => (∃ e, t.obs.samples = s.obs.samples ++ [e] ∧ e.length = 32)
          ∧ t.f R.SAMP_STAT F.SAMP_STAT_FILL = s.obs.samples.length + 1)
      ∧ (4096 ≤ s.obs.samples.length →
        Gives (.pmuSample co pc ad wd lt fl) s fun t => t.obs.samples = s.obs.samples
          ∧ t.f R.SAMP_STAT F.SAMP_STAT_LOST = satAdd 32 (s.f R.SAMP_STAT F.SAMP_STAT_LOST) 1))
    ∧ (s.obs.sampDue = true →
      Gives .sampleRecord s fun t => t.obs.sampDue = false
        ∧ t.obs.samples = s.obs.samples.drop (2 * s.f R.SAMP_CTL F.SAMP_CTL_BATCH)
        ∧ ((s.ring (s.f R.SAMP_CTL F.SAMP_CTL_RING)).typ ≠ 4 → t.f R.SAMP_STAT F.SAMP_STAT_LOST
          = satAdd 32 (s.f R.SAMP_STAT F.SAMP_STAT_LOST) (2 * s.f R.SAMP_CTL F.SAMP_CTL_BATCH)))
    ∧ (s.capCause ll.toNat src.toNat ln.toNat bf.toNat = none →
      Gives (.capStart c ll src ln bf) s fun t => t.host = s.host
        ∧ (∃ z, t.cap (ll.toNat / 36) = some z ∧ z.buf = bf.toNat ∧ z.cmd = some { c with eff := s.tick } ∧ z.draining = false)
        ∧ t.b (R.CAP_BUF_A bf.toNat) F.CAP_BUF_A_BUSY = true ∧ t.b (R.CAP_BUF_A bf.toNat) F.CAP_BUF_A_VALID = false)
    ∧ (∀ e, c.epoch = s.host.epoch → s.capCause ll.toNat src.toNat ln.toNat bf.toNat = some e →
      Gives (.capStart c ll src ln bf) s fun t => t.obs = s.obs ∧ t.regs = s.regs
        ∧ Answers s t c Op.CAP_START (if e = 1 then St.CAP_BUSY else if e = 2 then St.DOMAIN_OFF else St.BAD_FIELD))
    ∧ (s.cap y = some q → q.draining = false → q.cmd = some c → c.epoch = s.host.epoch →
      Gives (.capStagingEnd y data) s fun t => Answers s t c Op.CAP_START St.OK
        ∧ ∃ z, t.cap y = some z ∧ z.draining = true ∧ z.data = data ∧ z.buf = q.buf)
    ∧ (s.cap y = some q → q.draining = true → s.isOn domGDDR = true → q.buf < 16 →
      Gives (.capDone y) s fun t => t.cap y = none ∧ t.b (R.CAP_BUF_A q.buf) F.CAP_BUF_A_BUSY = false
        ∧ t.b (R.CAP_BUF_A q.buf) F.CAP_BUF_A_VALID = true ∧ Tab.get (fun _ => []) t.obs.buf q.buf = q.data
        ∧ Posts s t Ev.CAP_DONE q.buf noLane false)
    ∧ (c.epoch = s.host.epoch → bf.toNat < 16 → off.toNat % 64 = 0 → len.toNat % 64 = 0 → off.toNat + len.toNat ≤ 2 ^ 20 →
      a.toNat % 64 = 0 → s.isOn domGDDR = true → s.b (R.CAP_BUF_A bf.toNat) F.CAP_BUF_A_BUSY = false →
      (s.b (R.CAP_BUF_A bf.toNat) F.CAP_BUF_A_VALID = true →
        Gives (.capRead c bf off len a) s fun t => Answers s t c Op.CAP_READ St.OK
          ∧ t.obs.buf = s.obs.buf ∧ (s.f R.GD_STAT F.GD_STAT_CH_FAIL = 0 → t.obs = s.obs)
          ∧ (0 < len.toNat → t.host.dmaOut
            = s.host.dmaOut ++ [⟨a.toNat, t.capBytes bf.toNat off.toNat len.toNat⟩]))
      ∧ (s.b (R.CAP_BUF_A bf.toNat) F.CAP_BUF_A_VALID = false →
        Gives (.capRead c bf off len a) s fun t => Answers s t c Op.CAP_READ St.CAP_EMPTY ∧ t.host.dmaOut = s.host.dmaOut))

/-! ## Register access (chapters 1, 13 and 18) -/

/-- Writes to BAR0 (R12, R187, R465, R488, R489, R605, R606, R611, R612): a write waits for its tick edge, or is discarded and enters
the error log; a set-up word of a span, a locked register, an absent one, a domain that is not On. -/
def Obligations.WritesAreStagedOrLogged : Prop :=
  ∀ (s : State) (x : Fin 432) (o : Fin 16) (v : BitVec 64) (fw : Bool) (a k : Nat) (b : List Byte) (r : RegDef) (is : List Nat),
    (s.isOn domAON = true → F.EDAC_CH_CFG_SPAN.of v < 3 → (s.owner x = 0 ∨ s.owner x = 3) →
      Gives (.spanWrite x v) s (fun t => t.regs = s.regs ∧ t.eng = s.eng ∧ ∃ w, t.host.regQ = s.host.regQ ++ [w]
        ∧ w.addr = R.EDAC_CH_CFG x ∧ F.EDAC_CH_CFG_SPAN.of w.val = F.EDAC_CH_CFG_SPAN.of v)
      ∧ Gives (.registerWrite (R.EDAC_CH_CFG x) (leBytes 8 v.toNat) fw) s fun t => t.regs = s.regs
        ∧ ∃ w, t.host.regQ = s.host.regQ ++ [w] ∧ w.addr = R.EDAC_CH_CFG x ∧ w.fw = fw
          ∧ F.EDAC_CH_CFG_SPAN.of w.val = F.EDAC_CH_CFG_SPAN.of v)
    ∧ (s.isOn domAON = true → F.EDAC_CH_CFG_SPAN.of v = 3 →
      Gives (.spanWrite x v) s fun t => Logs s t (R.EDAC_CH_CFG x) logRESERVED ∧ t.regs = s.regs ∧ t.host.regQ = s.host.regQ)
    ∧ (s.isOn domAON = true → F.EDAC_CH_CFG_SPAN.of v < 3 → s.host.regQ = [] → s.owner x = 2 →
      F.EDAC_CH_CFG_SPAN.of v ≠ s.f (R.EDAC_CH_CFG x) F.EDAC_CH_CFG_SPAN →
      Gives (.spanWrite x v) s fun t => Logs s t (R.EDAC_CH_CFG x) logREFUSED ∧ t.regs = s.regs ∧ t.host.regQ = s.host.regQ)
    ∧ (s.blockedBy (R.FEC_CAP_CTL o) = none → s.b (R.FEC_CAP_CTL o) F.FEC_CAP_CTL_ARM = false →
      F.FEC_CAP_CTL_LANE.of v ≤ 8 → 1 ≤ F.FEC_CAP_CTL_TRIG_LOAD.of v → F.FEC_CAP_CTL_TRIG_LOAD.of v ≤ 41 →
      Gives (.fecCapArm o v) s fun t => t.b (R.FEC_CAP_CTL o) F.FEC_CAP_CTL_ARM = true
        ∧ ∃ w, t.host.regQ = s.host.regQ ++ [w] ∧ w.addr = R.FEC_CAP_CTL o)
    ∧ (s.isOn domAON = true → s.b R.GLB_LOCK F.GLB_LOCK_LOCK = false →
      Gives .glbLockSet s fun t => t.b R.GLB_LOCK F.GLB_LOCK_LOCK = true
        ∧ t.f R.GLB_LOCK F.GLB_LOCK_TICK = s.tick % 2 ^ 48 ∧ t.host = s.host)
    ∧ (a % 8 = 0 → b.length = 8 → s.blockedBy a = none → regAt a = some (r, is) → s.b R.GLB_LOCK F.GLB_LOCK_LOCK = true →
      r.stagedMask = r.maskOf (· == Acc.rwl) → r.stagedMask ≠ 0 →
      r.reservedIn (BitVec.ofNat 64 (ofLeBytes b)) (maskW 64) = false →
      Gives (.registerWrite a b fw) s fun t => Logs s t a logLOCKED ∧ t.regs = s.regs ∧ t.host.regQ = s.host.regQ)
    ∧ (b ≠ [] → b.length ≤ 8 → sizeOk a b.length = false →
      Gives (.registerWrite a b fw) s fun t => Logs s t a logSIZE ∧ t.regs = s.regs ∧ t.host.regQ = s.host.regQ)
    ∧ (sizeOk a b.length = true → s.blockedBy a = some k →
      Gives (.registerWrite a b fw) s fun t => Logs s t a logDOMAIN_OFF ∧ t.regs = s.regs ∧ t.host.regQ = s.host.regQ)
    ∧ (sizeOk a b.length = true → s.blockedBy a = none → regAt (a / 8 * 8) = none →
      Gives (.registerWrite a b fw) s fun t => Logs s t a logUNMAPPED ∧ t.regs = s.regs ∧ t.host.regQ = s.host.regQ)

/-- Reads of BAR0 (R11, R14, R465, R466, R605 to R607, R613). -/
def Obligations.ReadsCaptureAndLatch : Prop :=
  ∀ (s : State) (a k n : Nat) (r : RegDef) (is : List Nat) (d : Fin 2) (cyc : Fin 6250) (x : Shadow) (e : LogEntry)
    (l : List LogEntry),
    (a % 8 = 0 → s.blockedBy a = none → regAt a = some (r, is) → r.id ≠ .GLB_ERR_A →
      Gives (.lowHalfRead a 4) s (fun t =>
        t.host.rdData = .data (BitVec.ofNat 64 ((s.regView r is a 0).toNat % 2 ^ 32)) 4
        ∧ t.host.shadow = some ⟨a, (s.regView r is a 0).toNat / 2 ^ 32⟩)
      ∧ Gives (.capturingRead a) s (fun t => t.host.rdData = .data (s.regView r is a 0) 8 ∧ t.host.shadow = none
        ∧ (r.id ≠ .GLB_ERR_STAT → Tab.get (fun _ => none) s.host.latch a = none →
          ∀ f ∈ r.fields, f.acc = Acc.rc → t.f a f.fld = f.fld.of (resetWord a)))
      ∧ (s.host.shadow = some x → x.addr = a →
        Gives (.highHalfRead (a + 4) 4) s fun t => t.host.rdData = .data (BitVec.ofNat 64 (x.high % 2 ^ 32)) 4
          ∧ t.host.shadow = none ∧ t.regs = s.regs ∧ t.host.log = s.host.log)
      ∧ (s.host.shadow = none →
        Gives (.highHalfRead (a + 4) 4) s fun t => Logs s t (a + 4) logHALF_READ ∧ t.regs = s.regs
          ∧ t.host.rdData = .data (BitVec.ofNat 64 ((s.regView r is a 0).toNat / 2 ^ 32)) 4))
    ∧ (a % 8 = 0 → s.blockedBy a = none → regAt a = none →
      Gives (.capturingRead a) s fun t => t.host.rdData = .data 0 8 ∧ t.regs = s.regs ∧ t.host.log = s.host.log)
    ∧ (a % 8 = 0 → s.blockedBy a = some k →
      Gives (.capturingRead a) s fun t => t.host.rdData = .data 0x0FF00FF00FF00FF0 8 ∧ Logs s t a logDOMAIN_OFF
        ∧ t.regs = s.regs)
    ∧ (s.isOn domAON = true → Tab.get (fun _ => none) s.host.latch (R.DOM_TIME_NS d) = none →
      Gives (.latchingRead (R.DOM_TIME_NS d) false cyc) s fun t =>
        t.host.rdData = .data (nsWord (s.cntAt d cyc)) 8
        ∧ Tab.get (fun _ => none) t.host.latch (R.DOM_TIME_SEC d) = some (secWord (s.cntAt d cyc)))
    ∧ (s.isOn domAON = true → s.host.log = e :: l →
      Gives (.errLogRead false) s fun t => t.host.rdData = .data e.word 8 ∧ t.host.log = l
        ∧ t.host.logB = BitVec.ofNat 64 (e.tick % 2 ^ 48) ∧ t.host.logC = e.data)
    ∧ (s.isOn domAON = true → s.host.log = [] →
      Gives (.errLogRead false) s fun t => t.host.rdData = .data 0 8 ∧ t.host.log = [])
    ∧ (sizeOk a n = false →
      Gives (.unsupportedRead a n) s fun t => t.host.rdData = .unsupported ∧ Logs s t a logSIZE ∧ t.regs = s.regs)

/-! ## Frames: what commands leave unchanged -/

/-- Commands that write no register: the state after differs from the state before in the named parts only, so every register and
the queue of commands stay. -/
def Obligations.CommandsWithoutRegisterEffects : Prop :=
  ∀ (s t : State) (i : Instr), exec i s = Host.Outcome.next t →
    match i with
    | .domSetSecWrite .. | .domAdjWrite .. | .msixSignal .. | .audit .. | .ringResync .. | .nop .. | .linkDown ..
    | .functionLevelReset .. | .perstN .. | .d3hotEntry .. | .certRead .. | .histClear .. => t = { s with host := t.host }
    | .synRelock .. | .handover .. => t = { s with tx := t.tx }
    | .smbusStatusRead .. | .wakeSig .. => t = { s with pwr := t.pwr }
    | .spanSettle .. => t = { s with eng := t.eng }
    | .timeSwitch .. | .slewDone .. | .trigTimeWrite .. => t = { s with time := t.time, host := t.host }
    | .synTempCheck .. => t = { s with host := t.host, tx := t.tx }
    | .halySend .. => t = { s with host := t.host, haly := t.haly }
    | .pairAudit .. => t = { s with freeCtr := t.freeCtr, host := t.host }
    | .edacQueue .. | .edacRamp .. | .edacRampDone .. => t = { s with host := t.host, eng := t.eng }
    | .pmbXfer .. | .pmbTransactionEnd .. => t = { s with host := t.host, pwr := t.pwr }
    | .imageWrite .. | .imageCommit .. => t = { s with host := t.host, sec := t.sec }
    | .capStagingEnd .. => t = { s with host := t.host, obs := t.obs }
    | .memTest .. => t = { s with freeCtr := t.freeCtr, host := t.host, mem := t.mem }
    | .attest .. => t = { s with freeCtr := t.freeCtr, host := t.host, sec := t.sec }
    | _ => True

/-- Commands that write registers and little else: every part of the state that is not named stays. -/
def Obligations.CommandsWithNarrowEffects : Prop :=
  ∀ (s t : State) (i : Instr), exec i s = Host.Outcome.next t →
    match i with
    | .gdRetrain .. => t = { s with regs := t.regs }
    | .ppsInEdge .. => t = { s with regs := t.regs, time := t.time }
    | .synCalComplete .. | .synRelockTimeout .. => t = { s with regs := t.regs, tx := t.tx }
    | .monThreshold .. | .halyHearingLoss .. | .jrnRead .. | .ringOpRead .. | .ringOpCreate .. | .ringOpDestroy ..
    | .ringOpResync .. | .sqDoorbell .. | .headDoorbell .. | .telemetryWrite .. | .chkStart .. | .chkDataWrite ..
    | .chkTailWrite .. | .chkValWrite .. | .coreClk .. | .pmbPoll .. | .taskSet .. | .patLock .. =>
      t = { s with regs := t.regs, host := t.host }
    | .anComplete .. | .tagLossTimeout .. | .gdTrainingDone .. => t = { s with regs := t.regs, map := t.map }
    | .halyRampDownEnd .. | .halyDetect .. | .halyHeader .. | .halyBeaconDue .. | .halyDetectLoss .. =>
      t = { s with regs := t.regs, haly := t.haly }
    | .shrdClockLock .. | .shrdLaneResult .. => t = { s with regs := t.regs, pair := t.pair }
    | .lastRampStep .. | .hkSeqRestart .. => t = { s with regs := t.regs, eng := t.eng }
    | .pmuSample .. => t = { s with regs := t.regs, obs := t.obs }
    | .tickStorm .. | .taskOverrun .. => t = { s with regs := t.regs, time := t.time, host := t.host }
    | .synCal .. | .synCalTimeout .. | .synAlignFail .. | .synUnlock .. | .lockTimeout .. =>
      t = { s with regs := t.regs, host := t.host, tx := t.tx }
    | .ffeSwap .. | .ffeMode .. => t = { s with regs := t.regs, host := t.host, rx := t.rx }
    | .eqSettled .. | .clkModeLand .. | .lcToneEnd .. => t = { s with regs := t.regs, frame := t.frame, acq := t.acq }
    | .slip .. => t = { s with regs := t.regs, host := t.host, acq := t.acq }
    | .anFail .. => t = { s with regs := t.regs, host := t.host, map := t.map }
    | .trainComplete .. => t = { s with regs := t.regs, freeCtr := t.freeCtr, map := t.map }
    | .halyTtlExpiry .. => t = { s with regs := t.regs, host := t.host, haly := t.haly }
    | .trimRun .. | .trimTempCheck .. | .trimStart .. => t = { s with regs := t.regs, host := t.host, trim := t.trim }
    | .jrnFlashWrite .. => t = { s with regs := t.regs, host := t.host, jrn := t.jrn }
    | .pairInitTimer .. | .pairLockTaken .. | .hbLost .. | .fence .. | .pairTakeover .. | .pairRelease .. | .releaseCheck ..
    | .pairResync .. | .shrdLoop .. | .shrdUp .. | .shrdLaneLoss .. | .shrdAlignFail .. =>
      t = { s with regs := t.regs, host := t.host, pair := t.pair }
    | .statusSend .. => t = { s with regs := t.regs, tx := t.tx, pair := t.pair }
    | .fltClear .. => t = { s with regs := t.regs, host := t.host, flt := t.flt }
    | .tableRefresh .. => t = { s with regs := t.regs, host := t.host, mem := t.mem }
    | .mcheck .. | .inputStorm .. | .wakeTick .. | .engThermRead .. | .engSupplyWaitEnd .. =>
      t = { s with regs := t.regs, host := t.host, pwr := t.pwr }
    | .lastRampRelease .. | .engI2c .. | .i2cRecover .. => t = { s with regs := t.regs, host := t.host, eng := t.eng }
    | .bootTimeout .. => t = { s with regs := t.regs, pair := t.pair, sec := t.sec }
    | .rollbackAdvance .. => t = { s with regs := t.regs, freeCtr := t.freeCtr, host := t.host }
    | .flashRead .. | .flashProgram .. | .flashErase .. => t = { s with regs := t.regs, host := t.host, sec := t.sec }
    | .flashOpEnd .. => t = { s with regs := t.regs, freeCtr := t.freeCtr, sec := t.sec }
    | .patLockLoss .. | .loopSlip .. | .histSample .. | .capDone .. | .capRead .. =>
      t = { s with regs := t.regs, host := t.host, obs := t.obs }
    | .convDoneRepeat .. => t = { s with regs := t.regs, acq := t.acq, haly := t.haly }
    | .refclkLoss .. => t = { s with regs := t.regs, time := t.time, host := t.host, pwr := t.pwr }
    | .refclkReturn .. => t = { s with regs := t.regs, time := t.time, host := t.host, tx := t.tx }
    | .octAligned .. => t = { s with regs := t.regs, host := t.host, acq := t.acq, trim := t.trim }
    | .bridgeStart .. => t = { s with regs := t.regs, host := t.host, acq := t.acq, haly := t.haly }
    | .recentre .. | .holdOffExpiry .. | .wtrExpiry .. | .delayExcess .. | .delayReturn .. | .dSignReverse ..
    | .singleTimeout .. | .gdChannelFail .. => t = { s with regs := t.regs, freeCtr := t.freeCtr, host := t.host, map := t.map }
    | .memTestWrite .. | .memTestRead .. | .memTestExit .. =>
      t = { s with regs := t.regs, freeCtr := t.freeCtr, host := t.host, mem := t.mem }
    | .avsStep .. => t = { s with regs := t.regs, freeCtr := t.freeCtr, host := t.host, pwr := t.pwr }
    | .capStart .. => t = { s with regs := t.regs, freeCtr := t.freeCtr, host := t.host, obs := t.obs }
    | .stagingDeadline .. => t = { s with regs := t.regs, staged := t.staged, time := t.time, host := t.host, acq := t.acq }
    | .trimDone .. => t = { s with regs := t.regs, freeCtr := t.freeCtr, host := t.host, trim := t.trim, jrn := t.jrn }
    | .jrnHourly .. => t = { s with regs := t.regs, host := t.host, trim := t.trim, jrn := t.jrn, pair := t.pair }
    | .i2cTransactionEnd .. =>
      t = { s with
        regs := t.regs, freeCtr := t.freeCtr, host := t.host, eng := t.eng, trim := t.trim, jrn := t.jrn, pair := t.pair }
    | _ => True

/-- Commands whose consequences reach further: every part of the state that is not named stays. -/
def Obligations.CommandsWithWideEffects : Prop :=
  ∀ (s t : State) (i : Instr), exec i s = Host.Outcome.next t →
    match i with
    | .eventWrite .. | .lowHalfRead .. | .highHalfRead .. | .capturingRead .. | .latchingRead .. | .errLogRead ..
    | .unsupportedRead .. => t = { s with regs := t.regs, host := t.host }
    | .tpMessageRx .. => t = { s with regs := t.regs, time := t.time, host := t.host }
    | .ffeAdaptUpdate .. => t = { s with regs := t.regs, host := t.host, rx := t.rx }
    | .halyTxBurst .. => t = { s with regs := t.regs, host := t.host, haly := t.haly }
    | .taskLoad .. => t = { s with regs := t.regs, host := t.host, sec := t.sec }
    | .sampleRecord .. => t = { s with regs := t.regs, host := t.host, obs := t.obs }
    | .pageAdopt .. => t = { s with regs := t.regs, host := t.host, frame := t.frame, map := t.map }
    | .subframeSelect .. => t = { s with regs := t.regs, freeCtr := t.freeCtr, host := t.host, map := t.map }
    | .completionWrite .. | .linkUp .. | .d0Return .. | .keyUpdate .. =>
      t = { s with regs := t.regs, freeCtr := t.freeCtr, host := t.host, sec := t.sec }
    | .txEnable .. | .txStep .. | .txDisable .. | .engClrNEdge .. | .lastRamp .. =>
      t = { s with regs := t.regs, host := t.host, eng := t.eng, tx := t.tx, haly := t.haly }
    | .rampEnd .. => t = { s with regs := t.regs, host := t.host, tx := t.tx, acq := t.acq, jrn := t.jrn }
    | .rxChangeLand .. => t = { s with regs := t.regs, freeCtr := t.freeCtr, host := t.host, rx := t.rx, trim := t.trim }
    | .calSwitch .. => t = { s with regs := t.regs, host := t.host, frame := t.frame, map := t.map, mem := t.mem }
    | .toneLock .. => t = { s with regs := t.regs, host := t.host, flt := t.flt, frame := t.frame, acq := t.acq }
    | .phaseSweepEnd .. | .cdrLock .. =>
      t = { s with regs := t.regs, host := t.host, frame := t.frame, acq := t.acq, rx := t.rx }
    | .ltFail .. | .slUp .. | .slDown .. | .slRetrain .. | .loopSet .. | .slotRawLos .. =>
      t = { s with regs := t.regs, host := t.host, flt := t.flt, trim := t.trim, map := t.map }
    | .pairLockFree .. => t = { s with regs := t.regs, host := t.host, frame := t.frame, map := t.map, pair := t.pair }
    | .trigFire .. =>
      t = { s with regs := t.regs, freeCtr := t.freeCtr, time := t.time, host := t.host, eng := t.eng, obs := t.obs }
    | .synNone .. => t = { s with regs := t.regs, host := t.host, eng := t.eng, tx := t.tx, flt := t.flt, haly := t.haly }
    | .acqRestart .. | .stdAmLock .. =>
      t = { s with regs := t.regs, host := t.host, flt := t.flt, frame := t.frame, acq := t.acq, trim := t.trim }
    | .convStart .. => t = { s with regs := t.regs, host := t.host, acq := t.acq, rx := t.rx, trim := t.trim, haly := t.haly }
    | .inputEdge .. => t = { s with regs := t.regs, host := t.host, eng := t.eng, tx := t.tx, haly := t.haly, pwr := t.pwr }
    | .patSet .. => t = { s with regs := t.regs, host := t.host, flt := t.flt, trim := t.trim, map := t.map, obs := t.obs }
    | .pwrReq .. | .pwrDelayExpiry .. =>
      t = { s with regs := t.regs, host := t.host, eng := t.eng, tx := t.tx, trim := t.trim, haly := t.haly, pwr := t.pwr }
    | .orderlyStop .. | .pwrStop .. | .aonPeriod .. =>
      t = { s with regs := t.regs, host := t.host, eng := t.eng, tx := t.tx, haly := t.haly, pwr := t.pwr, pair := t.pair }
    | .reefGrace .. | .reefGrace2 .. | .reefHold .. | .reefReq .. =>
      t = { s with
        regs := t.regs, staged := t.staged, host := t.host, eng := t.eng, tx := t.tx, jrn := t.jrn, haly := t.haly, pwr := t.pwr }
    | .rawLos .. | .fecUncorr .. | .cdrAcqTimeout .. | .markerResult .. | .searchTimeout .. | .acqLost .. | .skewRange ..
    | .convTimeout .. | .convSelect .. | .convLcFail .. | .toneLoss .. =>
      t = { s with
        regs := t.regs, host := t.host, flt := t.flt, frame := t.frame, acq := t.acq, trim := t.trim, jrn := t.jrn, haly := t.haly, pair := t.pair }
    | .frameStart .. =>
      t = { s with
        regs := t.regs, freeCtr := t.freeCtr, time := t.time, host := t.host, frame := t.frame, map := t.map, haly := t.haly, mem := t.mem, obs := t.obs }
    | .laneRestore .. =>
      t = { s with
        regs := t.regs, host := t.host, tx := t.tx, frame := t.frame, acq := t.acq, rx := t.rx, trim := t.trim, jrn := t.jrn, pair := t.pair }
    | .eccError .. =>
      t = { s with
        regs := t.regs, freeCtr := t.freeCtr, host := t.host, jrn := t.jrn, map := t.map, mem := t.mem, pair := t.pair, sec := t.sec, obs := t.obs }
    | .plannerRun .. =>
      t = { s with
        regs := t.regs, freeCtr := t.freeCtr, host := t.host, eng := t.eng, flt := t.flt, frame := t.frame, acq := t.acq, trim := t.trim, jrn := t.jrn, haly := t.haly, pair := t.pair }
    | .losLong .. | .retryTimeout .. =>
      t = { s with
        regs := t.regs, host := t.host, tx := t.tx, flt := t.flt, frame := t.frame, acq := t.acq, trim := t.trim, jrn := t.jrn, map := t.map, haly := t.haly, pair := t.pair }
    | .halySyncFound .. | .halySlotStart .. =>
      t = { s with
        regs := t.regs, time := t.time, host := t.host, eng := t.eng, tx := t.tx, flt := t.flt, frame := t.frame, acq := t.acq, rx := t.rx, trim := t.trim, map := t.map, haly := t.haly, pwr := t.pwr, pair := t.pair }
    | _ => True


/-- Registers outside the one that a command is about stay (the rest of the state: the statements above). -/
def Obligations.RegistersOutsideTheTargetStay : Prop :=
  ∀ (s t : State) (i : Instr) (a : Nat), exec i s = Host.Outcome.next t →
    match i with
    | .taskOverrun k => a ≠ R.TASK_STAT k → t.reg a = s.reg a
    | .taskSet _ k .. | .taskLoad _ k .. => a ≠ R.TASK_CFG k.toNat → t.reg a = s.reg a
    | .ppsInEdge x _ => (∀ d, d < 2 → a ≠ R.PPS_IN_NS x d ∧ a ≠ R.PPS_IN_SEC x d) → a ≠ R.PPS_IN_STAT x → t.reg a = s.reg a
    | .halyDetect o | .halyDetectLoss o => a ≠ R.HALY_STAT o → t.reg a = s.reg a
    | .jrnFlashWrite _ => a ≠ R.JRN_CNT → t.reg a = s.reg a
    | .ringOpCreate .. | .ringOpDestroy .. | .ringOpResync .. => a ≠ R.RING_OP_STAT → t.reg a = s.reg a
    | .pairLockTaken | .hbLost => a ≠ R.PAIR_STAT → t.reg a = s.reg a
    | .pairTakeover .. | .pairRelease .. | .pairInitTimer | .releaseCheck =>
      a ≠ R.PAIR_STAT → a ≠ R.PAIR_LAST → a ≠ R.PAIR_CNT → t.reg a = s.reg a
    | .fence => a ≠ R.PAIR_STAT → a ≠ R.PAIR_LAST → a ≠ R.WDT_STAT → t.reg a = s.reg a
    | .mcheck .. => a ≠ R.WDT_STAT → t.reg a = s.reg a
    | .inputStorm _ => a ≠ R.IN_STORM → t.reg a = s.reg a
    | .lastRampStep | .lastRampRelease _ => a ≠ R.LR_STAT → t.reg a = s.reg a
    | .hkSeqRestart h => a ≠ R.HK_SEQ_CTL h → t.reg a = s.reg a
    | .engI2c _ b .. => a ≠ R.ENG_I2C_STAT b.toNat → t.reg a = s.reg a
    | .i2cTransactionEnd k .. | .i2cRecover k _ => a ≠ R.ENG_I2C_STAT k → t.reg a = s.reg a
    | .coreClk _ => a ≠ R.PWR_STAT → a ≠ R.TICK_BUDGET → t.reg a = s.reg a
    | .pmbPoll _ => (∀ k, k < 32 → a ≠ R.PMB_STAT k) → t.reg a = s.reg a
    | .avsStep => a ≠ R.AVS_STAT → t.reg a = s.reg a
    | .engThermRead o _ => a ≠ R.ENG_THERM o → t.reg a = s.reg a
    | .engSupplyWaitEnd o _ => a ≠ R.PWR_DOM_STAT (domOct o) → t.reg a = s.reg a
    | .wakeTick d => a ≠ R.PWR_DOM_STAT d → a ≠ R.PWR_DOM_WAKE d → t.reg a = s.reg a
    | .rollbackAdvance .. => a ≠ R.SEC_FUSE_STAT → t.reg a = s.reg a
    | .keyUpdate .. => a ≠ R.SEC_KEY_STAT → t.reg a = s.reg a
    | .flashRead _ | .flashProgram _ | .flashErase _ => a ≠ R.SEC_FLASH_ADDR → t.reg a = s.reg a
    | .flashOpEnd => a ≠ R.SEC_FLASH_ADDR → a ≠ R.SEC_FLASH_DATA → t.reg a = s.reg a
    | .bootTimeout _ => a ≠ R.PAIR_STAT → a ≠ R.SEC_BOOT_STAT → a ≠ R.WDT_STAT → t.reg a = s.reg a
    | .patLock p k l | .patLockLoss p k l | .loopSlip p k l => a ≠ patStat p k l → t.reg a = s.reg a
    | .pmuSample .. => a ≠ R.SAMP_STAT → t.reg a = s.reg a
    | .capStart _ _ _ _ b => a ≠ R.CAP_BUF_A b.toNat → a ≠ R.CAP_BUF_B b.toNat → t.reg a = s.reg a
    | _ => True

/-- The boot flash keeps every byte that a command does not store to (R560, R564, R573): outside the slot's range, outside the
directory, outside the word programmed or the sector erased. -/
def Obligations.FlashKeepsOtherBytes : Prop :=
  ∀ (s t : State) (a k w x : Nat),
    (∀ c sl off len ad m, exec (.imageWrite c sl off len ad m) s = Host.Outcome.next t →
      (a < imageAddr sl.toNat 1 + off.toNat ∨ imageAddr sl.toNat 1 + off.toNat + len.toNat ≤ a) →
      Tab.get flashBlank t.sec.flash a = Tab.get flashBlank s.sec.flash a)
    ∧ (∀ c sl, exec (.imageCommit c sl) s = Host.Outcome.next t → 0x20000 ≤ a →
      Tab.get flashBlank t.sec.flash a = Tab.get flashBlank s.sec.flash a)
    ∧ (s.sec.op = some (k, w, x) → exec .flashOpEnd s = Host.Outcome.next t →
      (k = 0 ∨ (k = 1 ∧ (a < w ∨ w + 8 ≤ a)) ∨ (2 ≤ k ∧ a / 0x10000 ≠ w / 0x10000)) →
      Tab.get flashBlank t.sec.flash a = Tab.get flashBlank s.sec.flash a)

/-! ## Reserved encodings (chapters 0 and 15) -/

/-- R16 whole: a register write that carries an encoding marked reserved in any field is discarded whole, the register keeps its value,
and the address is recorded in the global error log. -/
def Obligations.ReservedEncodingsAreDiscarded : Prop :=
  ∀ (s : State) (a : Nat) (b : List Byte) (fw : Bool) (r : RegDef) (is : List Nat) (cur d m : Word),
    sizeOk a b.length = true → s.blockedBy a = none → regAt (a / 8 * 8) = some (r, is) →
    cur = s.regLive r is (a / 8 * 8) 0 &&& ~~~(r.maskOf (· == Acc.wo)) → d = BitVec.ofNat 64 (ofLeBytes b) <<< (8 * (a % 8)) →
    m = maskW (8 * b.length) <<< (8 * (a % 8)) → r.reservedIn ((cur &&& ~~~m) ||| (d &&& m)) m = true →
    Gives (.registerWrite a b fw) s fun t => t = { s with host := t.host } ∧ t.host.regQ = s.host.regQ
      ∧ ∃ cause, Logs s t a cause

/-- R535 whole: a THERM_LVL write is a reserved encoding unless WARN < CRIT < TRIP, and one with TRIP below 105.00 degrees too; an
ENG_THERM_LVL write is one with ENG_WARN not below ENG_CRIT. -/
def Obligations.ThermalLevelsKeepTheirOrder : Prop :=
  ∀ (s : State) (v : BitVec 64) (fw : Bool) (warn crit trip ew ec : Int), s.isOn domAON = true →
    s.b R.GLB_LOCK F.GLB_LOCK_LOCK = false →
    warn = signedOf 16 (F.THERM_LVL_WARN.of v) → crit = signedOf 16 (F.THERM_LVL_CRIT.of v) →
    trip = signedOf 16 (F.THERM_LVL_TRIP.of v) → ew = signedOf 16 (F.ENG_THERM_LVL_ENG_WARN.of v) →
    ec = signedOf 16 (F.ENG_THERM_LVL_ENG_CRIT.of v) →
    ((¬ (warn < crit ∧ crit < trip) ∨ trip < 10500) →
      Gives (.registerWrite R.THERM_LVL (leBytes 8 v.toNat) fw) s fun t => Logs s t R.THERM_LVL logRESERVED
        ∧ t = { s with host := t.host } ∧ t.host.regQ = s.host.regQ)
    ∧ (warn < crit → crit < trip → 10500 ≤ trip →
      Gives (.registerWrite R.THERM_LVL (leBytes 8 v.toNat) fw) s fun t => t.host.logTotal = s.host.logTotal
        ∧ ∃ w, t.host.regQ = s.host.regQ ++ [w] ∧ w.addr = R.THERM_LVL ∧ F.THERM_LVL_WARN.of w.val = F.THERM_LVL_WARN.of v
          ∧ F.THERM_LVL_CRIT.of w.val = F.THERM_LVL_CRIT.of v ∧ F.THERM_LVL_TRIP.of w.val = F.THERM_LVL_TRIP.of v)
    ∧ (ec ≤ ew →
      Gives (.registerWrite R.ENG_THERM_LVL (leBytes 8 v.toNat) fw) s fun t => Logs s t R.ENG_THERM_LVL logRESERVED
        ∧ t = { s with host := t.host } ∧ t.host.regQ = s.host.regQ)
    ∧ (ew < ec →
      Gives (.registerWrite R.ENG_THERM_LVL (leBytes 8 v.toNat) fw) s fun t => t.host.logTotal = s.host.logTotal
        ∧ ∃ w, t.host.regQ = s.host.regQ ++ [w] ∧ w.addr = R.ENG_THERM_LVL)

/-! ## The whole machine -/

/-- No command touches the queue of commands: only a step takes the one at its front. -/
def Obligations.CommandsKeepTheQueue : Prop :=
  ∀ (s t : State) (i : Instr), exec i s = Host.Outcome.next t → t.pending = s.pending

/-- Every step keeps the register store in canonical form, so that equal register contents are equal data. -/
def Obligations.StepsKeepTheRegistersCanonical : Prop :=
  ∀ s t : State, s.regsCanon → step s = Host.Outcome.next t → t.regsCanon

/-- The state after reset (R42, R46, R48, R518, R552): nothing queued or staged, every register at its reset value, tick 0, only AON,
CTRL and PCIE On. -/
def Obligations.ResetState : Prop :=
  State.reset.regsCanon ∧ State.reset.pending = [] ∧ State.reset.staged = [] ∧ State.reset.tick = 0
    ∧ (∀ a, State.reset.reg a = resetWord a) ∧ (∀ d, d < 43 → State.reset.isOn d = decide (d < 3))
    ∧ (∀ o l, o < 16 → l < 9 → State.reset.txState o l = 0) ∧ State.reset.holdsLock = false
    ∧ ∀ c, c < 432 → State.reset.owner c = 3

/-- Decoding a descriptor that spells a host command gives the command back, with every argument at every value: no bit of an argument
is dropped or shared (R381, R401 and the command tables of the later chapters). -/
def Obligations.DescriptorsSpellTheirCommands : Prop :=
  ∀ (i : Instr) (op : Nat) (c : Cmd), opcodeOf i = some op → originOf i = some c →
    (descBytes i).length = 124 ∧ fieldOf (descBytes i) 0 1 = op ∧ fieldOf (descBytes i) 2 2 = c.hseq % 65536
      ∧ fieldOf (descBytes i) 8 8 = c.eff % 2 ^ 64 ∧ ∃ mem, cmdOf c (descBytes i) mem op = some i

/-! ## Client data (chapters 5, 7 and 8) -/

/-- R174: of the positions 1 to P exactly C carry client data, and those carry the words of the sub-frame, each once and in order. -/
def Obligations.JustificationPlacesEveryWord : Prop :=
  ∀ (p : Nat) (d : SubWords), d.c ≤ p →
    ((List.range p).filter fun j => gmpData p d.c (j + 1)).length = d.c
    ∧ gmpTake p d.c ((List.range p).map fun j => d.at p (j + 1)) = (List.range d.c).map d.word
    ∧ ∀ j, gmpData p d.c j = false → d.at p j = 0

/-- R188, R248: four 66-bit blocks, each data or control with a defined block type, come back from their 257-bit form as they were, and as four
error blocks where a bit of it is errored.  The layout of the forms is log entry 129. -/
def Obligations.BlocksSurviveTheirTranscoding : Prop :=
  ∀ bs : List Nat, bs.length = 4 → (∀ b ∈ bs, b < 2 ^ 66 ∧ (isData b = true ∨ (isCtl b = true ∧ b / 4 % 256 ∈ blockTypes))) →
    transcode bs < 2 ^ 257 ∧ untranscode (transcode bs) = some bs ∧ sinkBlocks (transcode bs) false = bs
    ∧ sinkBlocks (transcode bs) true = List.replicate 4 errorBlk

/-- R283, R285: the words that a sub-frame takes in the store give it back: its stamp, sub-frame and lost mark, the value of every word,
every flag that was set, and the sub-frame itself where no word is flagged. -/
def Obligations.StoreKeepsASubFrame : Prop :=
  ∀ x : SubCopy, x.stamp < 2 ^ 40 → x.k < 8 → x.words.length < 2 ^ 18 → (∀ w ∈ x.words, w.1 < 1024) →
    ∃ h ws, storeWords x = h :: ws ∧ ws.length = storeLen x.words.length
      ∧ slice h.1 0 40 = x.stamp ∧ slice h.1 40 3 = x.k ∧ slice h.1 43 18 = x.words.length ∧ slice h.1 61 3 = 0
      ∧ (storeRead h ws).stamp = x.stamp ∧ (storeRead h ws).k = x.k ∧ (storeRead h ws).lost = x.lost
      ∧ (storeRead h ws).words.map (·.1) = x.words.map (·.1)
      ∧ (∀ i, (x.words.getD i (0, false)).2 = true → ((storeRead h ws).words.getD i (0, false)).2 = true)
      ∧ ((∀ w ∈ x.words, w.2 = false) → storeRead h ws = x)

/-! ## The statements made of several parts -/

/-- A step runs the command at the front of the queue, and idles on an empty one.  The rules are named at the parts. -/
def Obligations.StepTakesTheFrontCommand : Prop := Claims.StepRunsFrontCommand ∧ Claims.EmptyQueueIdles

/-- Tick edges, the staging deadline, overruns and customer tasks.  The rules are named at the parts. -/
def Obligations.TicksAndDeadlines : Prop := Claims.TickCarriesTheNextNumber ∧ Claims.DeadlinesAndOverruns

/-- Writes to the time base and what they leave.  The rules are named at the parts. -/
def Obligations.TimeBaseWrites : Prop := Claims.TimeWritesAreStagedOrLogged ∧ Claims.AdjustmentsKeepTheTimescale

/-- Transmit synthesisers calibrate, hand over and fail.  The rules are named at the parts. -/
def Obligations.SynthesiserRows : Prop := Claims.SynthesisersCalibrate ∧ Claims.SynthesisersFail

/-- Launch requests, ramps and waits.  The rules are named at the parts. -/
def Obligations.LaunchRows : Prop := Claims.LaunchRequestsAct ∧ Claims.LaunchRequestsRefused ∧ Claims.RampsAndWaitsEnd

/-- Equaliser commands and receive monitors.  The rules are named at the parts. -/
def Obligations.ReceiveRows : Prop := Claims.ReceiveChangesAreStagedAndLand ∧ Claims.ThresholdsAssertAndClear

/-- The symbols of a codeword and the limit of its decoder.  The rules are named at the parts. -/
def Obligations.CodewordLayout : Prop := Claims.CodewordsAre2880Symbols ∧ Claims.DecoderLimit

/-- Frames and calendar pages.  The rules are named at the parts. -/
def Obligations.FramesAndCalendars : Prop := Claims.FramesCount ∧ Claims.CalendarPagesTakeForce

/-- Acquisition of a lane, by itself and by command.  The rules are named at the parts. -/
def Obligations.AcquisitionRows : Prop := Claims.AcquisitionAdvances ∧ Claims.AcquisitionCommands

/-- Alignment of an octet and conversion of its LC lane.  The rules are named at the parts. -/
def Obligations.AlignmentAndConversion : Prop := Claims.OctetsAlign ∧ Claims.ConversionAtTheReceiver

/-- Slot PHYs train, go up and go down.  The rules are named at the parts. -/
def Obligations.SlotPhyRows : Prop := Claims.SlotPhysTrain ∧ Claims.SlotPhysGoUpAndDown

/-- Route protection.  The rules are named at the parts. -/
def Obligations.ProtectionRows : Prop := Claims.ProtectionSelectsRoutes ∧ Claims.ProtectionStatesFollowTheDelay

/-- The Halyard channel.  The rules are named at the parts. -/
def Obligations.HalyardRows : Prop := Claims.HalyardMessagesAreSent ∧ Claims.HalyardMessagesAreReceived

/-- Trim runs, the margin planner and its journal.  The rules are named at the parts. -/
def Obligations.TrimAndPlanning : Prop := Claims.TrimRunsFollowTheirRows ∧ Claims.PlannerAndJournalRun

/-- Rings, the link and function level reset.  The rules are named at the parts. -/
def Obligations.RingRows : Prop := Claims.RingsAreManaged ∧ Claims.LinkAndFunctionLevelReset

/-- Records and the commands of the rings.  The rules are named at the parts. -/
def Obligations.RecordRows : Prop := Claims.RecordsAreWritten ∧ Claims.RingCommandsComplete

/-- The pair lock and the commands of twin operation.  The rules are named at the parts. -/
def Obligations.PairRows : Prop := Claims.PairLockIsHeldByOne ∧ Claims.PairCommandsAct

/-- The Shroud link and the check engine.  The rules are named at the parts. -/
def Obligations.ShroudAndCheckRows : Prop := Claims.ShroudLanesAlign ∧ Claims.CheckEngineFeedsFrames

/-- Fault managers.  The rules are named at the parts. -/
def Obligations.FaultRows : Prop := Claims.FaultsAreClassified ∧ Claims.TimedFaultsAndClear

/-- Memory errors, refresh and test.  The rules are named at the parts. -/
def Obligations.MemoryRows : Prop := Claims.MemoryErrorsAreHandled ∧ Claims.MemoryTestWritesAndReads

/-- Engine DAC channels, ramps and clears.  The rules are named at the parts. -/
def Obligations.EngineControlRows : Prop := Claims.EngineChannelsQueueAndClear ∧ Claims.EngineRampsRun

/-- Power domains.  The rules are named at the parts. -/
def Obligations.PowerRows : Prop := Claims.PowerRequestsAreEvaluated ∧ Claims.PowerTransitionsEnd
end

