-- ==== Sys2Proof/Laws/State.lean ====
section
/-!
SUPPORT. What each named update of the state leaves as it was, one lemma for each field of the state: all true by unfolding the
update once, so that no later proof unfolds a record update.
-/

namespace Sys2Proof.Machine

@[simp] theorem State.setReg_pending (s : State) (a : Nat) (w : Word) : (s.setReg a w).pending = s.pending := rfl
@[simp] theorem State.setReg_freeCtr (s : State) (a : Nat) (w : Word) : (s.setReg a w).freeCtr = s.freeCtr := rfl
@[simp] theorem State.setReg_staged (s : State) (a : Nat) (w : Word) : (s.setReg a w).staged = s.staged := rfl
@[simp] theorem State.setReg_time (s : State) (a : Nat) (w : Word) : (s.setReg a w).time = s.time := rfl
@[simp] theorem State.setReg_host (s : State) (a : Nat) (w : Word) : (s.setReg a w).host = s.host := rfl
@[simp] theorem State.setReg_eng (s : State) (a : Nat) (w : Word) : (s.setReg a w).eng = s.eng := rfl
@[simp] theorem State.setReg_tx (s : State) (a : Nat) (w : Word) : (s.setReg a w).tx = s.tx := rfl
@[simp] theorem State.setReg_flt (s : State) (a : Nat) (w : Word) : (s.setReg a w).flt = s.flt := rfl
@[simp] theorem State.setReg_frame (s : State) (a : Nat) (w : Word) : (s.setReg a w).frame = s.frame := rfl
@[simp] theorem State.setReg_acq (s : State) (a : Nat) (w : Word) : (s.setReg a w).acq = s.acq := rfl
@[simp] theorem State.setReg_rx (s : State) (a : Nat) (w : Word) : (s.setReg a w).rx = s.rx := rfl
@[simp] theorem State.setReg_trim (s : State) (a : Nat) (w : Word) : (s.setReg a w).trim = s.trim := rfl
@[simp] theorem State.setReg_jrn (s : State) (a : Nat) (w : Word) : (s.setReg a w).jrn = s.jrn := rfl
@[simp] theorem State.setReg_map (s : State) (a : Nat) (w : Word) : (s.setReg a w).map = s.map := rfl
@[simp] theorem State.setReg_haly (s : State) (a : Nat) (w : Word) : (s.setReg a w).haly = s.haly := rfl
@[simp] theorem State.setReg_pwr (s : State) (a : Nat) (w : Word) : (s.setReg a w).pwr = s.pwr := rfl
@[simp] theorem State.setReg_mem (s : State) (a : Nat) (w : Word) : (s.setReg a w).mem = s.mem := rfl
@[simp] theorem State.setReg_pair (s : State) (a : Nat) (w : Word) : (s.setReg a w).pair = s.pair := rfl
@[simp] theorem State.setReg_sec (s : State) (a : Nat) (w : Word) : (s.setReg a w).sec = s.sec := rfl
@[simp] theorem State.setReg_obs (s : State) (a : Nat) (w : Word) : (s.setReg a w).obs = s.obs := rfl

@[simp] theorem State.setF_pending (s : State) (a : Nat) (x : Fld) (v : Nat) : (s.setF a x v).pending = s.pending := rfl
@[simp] theorem State.setF_freeCtr (s : State) (a : Nat) (x : Fld) (v : Nat) : (s.setF a x v).freeCtr = s.freeCtr := rfl
@[simp] theorem State.setF_staged (s : State) (a : Nat) (x : Fld) (v : Nat) : (s.setF a x v).staged = s.staged := rfl
@[simp] theorem State.setF_time (s : State) (a : Nat) (x : Fld) (v : Nat) : (s.setF a x v).time = s.time := rfl
@[simp] theorem State.setF_host (s : State) (a : Nat) (x : Fld) (v : Nat) : (s.setF a x v).host = s.host := rfl
@[simp] theorem State.setF_eng (s : State) (a : Nat) (x : Fld) (v : Nat) : (s.setF a x v).eng = s.eng := rfl
@[simp] theorem State.setF_tx (s : State) (a : Nat) (x : Fld) (v : Nat) : (s.setF a x v).tx = s.tx := rfl
@[simp] theorem State.setF_flt (s : State) (a : Nat) (x : Fld) (v : Nat) : (s.setF a x v).flt = s.flt := rfl
@[simp] theorem State.setF_frame (s : State) (a : Nat) (x : Fld) (v : Nat) : (s.setF a x v).frame = s.frame := rfl
@[simp] theorem State.setF_acq (s : State) (a : Nat) (x : Fld) (v : Nat) : (s.setF a x v).acq = s.acq := rfl
@[simp] theorem State.setF_rx (s : State) (a : Nat) (x : Fld) (v : Nat) : (s.setF a x v).rx = s.rx := rfl
@[simp] theorem State.setF_trim (s : State) (a : Nat) (x : Fld) (v : Nat) : (s.setF a x v).trim = s.trim := rfl
@[simp] theorem State.setF_jrn (s : State) (a : Nat) (x : Fld) (v : Nat) : (s.setF a x v).jrn = s.jrn := rfl
@[simp] theorem State.setF_map (s : State) (a : Nat) (x : Fld) (v : Nat) : (s.setF a x v).map = s.map := rfl
@[simp] theorem State.setF_haly (s : State) (a : Nat) (x : Fld) (v : Nat) : (s.setF a x v).haly = s.haly := rfl
@[simp] theorem State.setF_pwr (s : State) (a : Nat) (x : Fld) (v : Nat) : (s.setF a x v).pwr = s.pwr := rfl
@[simp] theorem State.setF_mem (s : State) (a : Nat) (x : Fld) (v : Nat) : (s.setF a x v).mem = s.mem := rfl
@[simp] theorem State.setF_pair (s : State) (a : Nat) (x : Fld) (v : Nat) : (s.setF a x v).pair = s.pair := rfl
@[simp] theorem State.setF_sec (s : State) (a : Nat) (x : Fld) (v : Nat) : (s.setF a x v).sec = s.sec := rfl
@[simp] theorem State.setF_obs (s : State) (a : Nat) (x : Fld) (v : Nat) : (s.setF a x v).obs = s.obs := rfl

@[simp] theorem State.setB_pending (s : State) (a : Nat) (x : Fld) (v : Bool) : (s.setB a x v).pending = s.pending := rfl
@[simp] theorem State.setB_freeCtr (s : State) (a : Nat) (x : Fld) (v : Bool) : (s.setB a x v).freeCtr = s.freeCtr := rfl
@[simp] theorem State.setB_staged (s : State) (a : Nat) (x : Fld) (v : Bool) : (s.setB a x v).staged = s.staged := rfl
@[simp] theorem State.setB_time (s : State) (a : Nat) (x : Fld) (v : Bool) : (s.setB a x v).time = s.time := rfl
@[simp] theorem State.setB_host (s : State) (a : Nat) (x : Fld) (v : Bool) : (s.setB a x v).host = s.host := rfl
@[simp] theorem State.setB_eng (s : State) (a : Nat) (x : Fld) (v : Bool) : (s.setB a x v).eng = s.eng := rfl
@[simp] theorem State.setB_tx (s : State) (a : Nat) (x : Fld) (v : Bool) : (s.setB a x v).tx = s.tx := rfl
@[simp] theorem State.setB_flt (s : State) (a : Nat) (x : Fld) (v : Bool) : (s.setB a x v).flt = s.flt := rfl
@[simp] theorem State.setB_frame (s : State) (a : Nat) (x : Fld) (v : Bool) : (s.setB a x v).frame = s.frame := rfl
@[simp] theorem State.setB_acq (s : State) (a : Nat) (x : Fld) (v : Bool) : (s.setB a x v).acq = s.acq := rfl
@[simp] theorem State.setB_rx (s : State) (a : Nat) (x : Fld) (v : Bool) : (s.setB a x v).rx = s.rx := rfl
@[simp] theorem State.setB_trim (s : State) (a : Nat) (x : Fld) (v : Bool) : (s.setB a x v).trim = s.trim := rfl
@[simp] theorem State.setB_jrn (s : State) (a : Nat) (x : Fld) (v : Bool) : (s.setB a x v).jrn = s.jrn := rfl
@[simp] theorem State.setB_map (s : State) (a : Nat) (x : Fld) (v : Bool) : (s.setB a x v).map = s.map := rfl
@[simp] theorem State.setB_haly (s : State) (a : Nat) (x : Fld) (v : Bool) : (s.setB a x v).haly = s.haly := rfl
@[simp] theorem State.setB_pwr (s : State) (a : Nat) (x : Fld) (v : Bool) : (s.setB a x v).pwr = s.pwr := rfl
@[simp] theorem State.setB_mem (s : State) (a : Nat) (x : Fld) (v : Bool) : (s.setB a x v).mem = s.mem := rfl
@[simp] theorem State.setB_pair (s : State) (a : Nat) (x : Fld) (v : Bool) : (s.setB a x v).pair = s.pair := rfl
@[simp] theorem State.setB_sec (s : State) (a : Nat) (x : Fld) (v : Bool) : (s.setB a x v).sec = s.sec := rfl
@[simp] theorem State.setB_obs (s : State) (a : Nat) (x : Fld) (v : Bool) : (s.setB a x v).obs = s.obs := rfl

@[simp] theorem State.setI_pending (s : State) (a : Nat) (x : Fld) (v : Int) : (s.setI a x v).pending = s.pending := rfl
@[simp] theorem State.setI_freeCtr (s : State) (a : Nat) (x : Fld) (v : Int) : (s.setI a x v).freeCtr = s.freeCtr := rfl
@[simp] theorem State.setI_staged (s : State) (a : Nat) (x : Fld) (v : Int) : (s.setI a x v).staged = s.staged := rfl
@[simp] theorem State.setI_time (s : State) (a : Nat) (x : Fld) (v : Int) : (s.setI a x v).time = s.time := rfl
@[simp] theorem State.setI_host (s : State) (a : Nat) (x : Fld) (v : Int) : (s.setI a x v).host = s.host := rfl
@[simp] theorem State.setI_eng (s : State) (a : Nat) (x : Fld) (v : Int) : (s.setI a x v).eng = s.eng := rfl
@[simp] theorem State.setI_tx (s : State) (a : Nat) (x : Fld) (v : Int) : (s.setI a x v).tx = s.tx := rfl
@[simp] theorem State.setI_flt (s : State) (a : Nat) (x : Fld) (v : Int) : (s.setI a x v).flt = s.flt := rfl
@[simp] theorem State.setI_frame (s : State) (a : Nat) (x : Fld) (v : Int) : (s.setI a x v).frame = s.frame := rfl
@[simp] theorem State.setI_acq (s : State) (a : Nat) (x : Fld) (v : Int) : (s.setI a x v).acq = s.acq := rfl
@[simp] theorem State.setI_rx (s : State) (a : Nat) (x : Fld) (v : Int) : (s.setI a x v).rx = s.rx := rfl
@[simp] theorem State.setI_trim (s : State) (a : Nat) (x : Fld) (v : Int) : (s.setI a x v).trim = s.trim := rfl
@[simp] theorem State.setI_jrn (s : State) (a : Nat) (x : Fld) (v : Int) : (s.setI a x v).jrn = s.jrn := rfl
@[simp] theorem State.setI_map (s : State) (a : Nat) (x : Fld) (v : Int) : (s.setI a x v).map = s.map := rfl
@[simp] theorem State.setI_haly (s : State) (a : Nat) (x : Fld) (v : Int) : (s.setI a x v).haly = s.haly := rfl
@[simp] theorem State.setI_pwr (s : State) (a : Nat) (x : Fld) (v : Int) : (s.setI a x v).pwr = s.pwr := rfl
@[simp] theorem State.setI_mem (s : State) (a : Nat) (x : Fld) (v : Int) : (s.setI a x v).mem = s.mem := rfl
@[simp] theorem State.setI_pair (s : State) (a : Nat) (x : Fld) (v : Int) : (s.setI a x v).pair = s.pair := rfl
@[simp] theorem State.setI_sec (s : State) (a : Nat) (x : Fld) (v : Int) : (s.setI a x v).sec = s.sec := rfl
@[simp] theorem State.setI_obs (s : State) (a : Nat) (x : Fld) (v : Int) : (s.setI a x v).obs = s.obs := rfl

@[simp] theorem State.incF_pending (s : State) (a : Nat) (x : Fld) (n : Nat) : (s.incF a x n).pending = s.pending := rfl
@[simp] theorem State.incF_freeCtr (s : State) (a : Nat) (x : Fld) (n : Nat) : (s.incF a x n).freeCtr = s.freeCtr := rfl
@[simp] theorem State.incF_staged (s : State) (a : Nat) (x : Fld) (n : Nat) : (s.incF a x n).staged = s.staged := rfl
@[simp] theorem State.incF_time (s : State) (a : Nat) (x : Fld) (n : Nat) : (s.incF a x n).time = s.time := rfl
@[simp] theorem State.incF_host (s : State) (a : Nat) (x : Fld) (n : Nat) : (s.incF a x n).host = s.host := rfl
@[simp] theorem State.incF_eng (s : State) (a : Nat) (x : Fld) (n : Nat) : (s.incF a x n).eng = s.eng := rfl
@[simp] theorem State.incF_tx (s : State) (a : Nat) (x : Fld) (n : Nat) : (s.incF a x n).tx = s.tx := rfl
@[simp] theorem State.incF_flt (s : State) (a : Nat) (x : Fld) (n : Nat) : (s.incF a x n).flt = s.flt := rfl
@[simp] theorem State.incF_frame (s : State) (a : Nat) (x : Fld) (n : Nat) : (s.incF a x n).frame = s.frame := rfl
@[simp] theorem State.incF_acq (s : State) (a : Nat) (x : Fld) (n : Nat) : (s.incF a x n).acq = s.acq := rfl
@[simp] theorem State.incF_rx (s : State) (a : Nat) (x : Fld) (n : Nat) : (s.incF a x n).rx = s.rx := rfl
@[simp] theorem State.incF_trim (s : State) (a : Nat) (x : Fld) (n : Nat) : (s.incF a x n).trim = s.trim := rfl
@[simp] theorem State.incF_jrn (s : State) (a : Nat) (x : Fld) (n : Nat) : (s.incF a x n).jrn = s.jrn := rfl
@[simp] theorem State.incF_map (s : State) (a : Nat) (x : Fld) (n : Nat) : (s.incF a x n).map = s.map := rfl
@[simp] theorem State.incF_haly (s : State) (a : Nat) (x : Fld) (n : Nat) : (s.incF a x n).haly = s.haly := rfl
@[simp] theorem State.incF_pwr (s : State) (a : Nat) (x : Fld) (n : Nat) : (s.incF a x n).pwr = s.pwr := rfl
@[simp] theorem State.incF_mem (s : State) (a : Nat) (x : Fld) (n : Nat) : (s.incF a x n).mem = s.mem := rfl
@[simp] theorem State.incF_pair (s : State) (a : Nat) (x : Fld) (n : Nat) : (s.incF a x n).pair = s.pair := rfl
@[simp] theorem State.incF_sec (s : State) (a : Nat) (x : Fld) (n : Nat) : (s.incF a x n).sec = s.sec := rfl
@[simp] theorem State.incF_obs (s : State) (a : Nat) (x : Fld) (n : Nat) : (s.incF a x n).obs = s.obs := rfl

@[simp] theorem State.setFs_pending (s : State) (a : Nat) (l : List (Fld × Nat)) : (s.setFs a l).pending = s.pending := rfl
@[simp] theorem State.setFs_freeCtr (s : State) (a : Nat) (l : List (Fld × Nat)) : (s.setFs a l).freeCtr = s.freeCtr := rfl
@[simp] theorem State.setFs_staged (s : State) (a : Nat) (l : List (Fld × Nat)) : (s.setFs a l).staged = s.staged := rfl
@[simp] theorem State.setFs_time (s : State) (a : Nat) (l : List (Fld × Nat)) : (s.setFs a l).time = s.time := rfl
@[simp] theorem State.setFs_host (s : State) (a : Nat) (l : List (Fld × Nat)) : (s.setFs a l).host = s.host := rfl
@[simp] theorem State.setFs_eng (s : State) (a : Nat) (l : List (Fld × Nat)) : (s.setFs a l).eng = s.eng := rfl
@[simp] theorem State.setFs_tx (s : State) (a : Nat) (l : List (Fld × Nat)) : (s.setFs a l).tx = s.tx := rfl
@[simp] theorem State.setFs_flt (s : State) (a : Nat) (l : List (Fld × Nat)) : (s.setFs a l).flt = s.flt := rfl
@[simp] theorem State.setFs_frame (s : State) (a : Nat) (l : List (Fld × Nat)) : (s.setFs a l).frame = s.frame := rfl
@[simp] theorem State.setFs_acq (s : State) (a : Nat) (l : List (Fld × Nat)) : (s.setFs a l).acq = s.acq := rfl
@[simp] theorem State.setFs_rx (s : State) (a : Nat) (l : List (Fld × Nat)) : (s.setFs a l).rx = s.rx := rfl
@[simp] theorem State.setFs_trim (s : State) (a : Nat) (l : List (Fld × Nat)) : (s.setFs a l).trim = s.trim := rfl
@[simp] theorem State.setFs_jrn (s : State) (a : Nat) (l : List (Fld × Nat)) : (s.setFs a l).jrn = s.jrn := rfl
@[simp] theorem State.setFs_map (s : State) (a : Nat) (l : List (Fld × Nat)) : (s.setFs a l).map = s.map := rfl
@[simp] theorem State.setFs_haly (s : State) (a : Nat) (l : List (Fld × Nat)) : (s.setFs a l).haly = s.haly := rfl
@[simp] theorem State.setFs_pwr (s : State) (a : Nat) (l : List (Fld × Nat)) : (s.setFs a l).pwr = s.pwr := rfl
@[simp] theorem State.setFs_mem (s : State) (a : Nat) (l : List (Fld × Nat)) : (s.setFs a l).mem = s.mem := rfl
@[simp] theorem State.setFs_pair (s : State) (a : Nat) (l : List (Fld × Nat)) : (s.setFs a l).pair = s.pair := rfl
@[simp] theorem State.setFs_sec (s : State) (a : Nat) (l : List (Fld × Nat)) : (s.setFs a l).sec = s.sec := rfl
@[simp] theorem State.setFs_obs (s : State) (a : Nat) (l : List (Fld × Nat)) : (s.setFs a l).obs = s.obs := rfl

@[simp] theorem State.eventAt_pending (s : State) (cause code obj lane : Nat) (clear : Bool) (args : List Nat) : (s.eventAt cause code obj lane clear args).pending = s.pending := rfl
@[simp] theorem State.eventAt_regs (s : State) (cause code obj lane : Nat) (clear : Bool) (args : List Nat) : (s.eventAt cause code obj lane clear args).regs = s.regs := rfl
@[simp] theorem State.eventAt_freeCtr (s : State) (cause code obj lane : Nat) (clear : Bool) (args : List Nat) : (s.eventAt cause code obj lane clear args).freeCtr = s.freeCtr := rfl
@[simp] theorem State.eventAt_staged (s : State) (cause code obj lane : Nat) (clear : Bool) (args : List Nat) : (s.eventAt cause code obj lane clear args).staged = s.staged := rfl
@[simp] theorem State.eventAt_time (s : State) (cause code obj lane : Nat) (clear : Bool) (args : List Nat) : (s.eventAt cause code obj lane clear args).time = s.time := rfl
@[simp] theorem State.eventAt_eng (s : State) (cause code obj lane : Nat) (clear : Bool) (args : List Nat) : (s.eventAt cause code obj lane clear args).eng = s.eng := rfl
@[simp] theorem State.eventAt_tx (s : State) (cause code obj lane : Nat) (clear : Bool) (args : List Nat) : (s.eventAt cause code obj lane clear args).tx = s.tx := rfl
@[simp] theorem State.eventAt_flt (s : State) (cause code obj lane : Nat) (clear : Bool) (args : List Nat) : (s.eventAt cause code obj lane clear args).flt = s.flt := rfl
@[simp] theorem State.eventAt_frame (s : State) (cause code obj lane : Nat) (clear : Bool) (args : List Nat) : (s.eventAt cause code obj lane clear args).frame = s.frame := rfl
@[simp] theorem State.eventAt_acq (s : State) (cause code obj lane : Nat) (clear : Bool) (args : List Nat) : (s.eventAt cause code obj lane clear args).acq = s.acq := rfl
@[simp] theorem State.eventAt_rx (s : State) (cause code obj lane : Nat) (clear : Bool) (args : List Nat) : (s.eventAt cause code obj lane clear args).rx = s.rx := rfl
@[simp] theorem State.eventAt_trim (s : State) (cause code obj lane : Nat) (clear : Bool) (args : List Nat) : (s.eventAt cause code obj lane clear args).trim = s.trim := rfl
@[simp] theorem State.eventAt_jrn (s : State) (cause code obj lane : Nat) (clear : Bool) (args : List Nat) : (s.eventAt cause code obj lane clear args).jrn = s.jrn := rfl
@[simp] theorem State.eventAt_map (s : State) (cause code obj lane : Nat) (clear : Bool) (args : List Nat) : (s.eventAt cause code obj lane clear args).map = s.map := rfl
@[simp] theorem State.eventAt_haly (s : State) (cause code obj lane : Nat) (clear : Bool) (args : List Nat) : (s.eventAt cause code obj lane clear args).haly = s.haly := rfl
@[simp] theorem State.eventAt_pwr (s : State) (cause code obj lane : Nat) (clear : Bool) (args : List Nat) : (s.eventAt cause code obj lane clear args).pwr = s.pwr := rfl
@[simp] theorem State.eventAt_mem (s : State) (cause code obj lane : Nat) (clear : Bool) (args : List Nat) : (s.eventAt cause code obj lane clear args).mem = s.mem := rfl
@[simp] theorem State.eventAt_pair (s : State) (cause code obj lane : Nat) (clear : Bool) (args : List Nat) : (s.eventAt cause code obj lane clear args).pair = s.pair := rfl
@[simp] theorem State.eventAt_sec (s : State) (cause code obj lane : Nat) (clear : Bool) (args : List Nat) : (s.eventAt cause code obj lane clear args).sec = s.sec := rfl
@[simp] theorem State.eventAt_obs (s : State) (cause code obj lane : Nat) (clear : Bool) (args : List Nat) : (s.eventAt cause code obj lane clear args).obs = s.obs := rfl

@[simp] theorem State.event_pending (s : State) (code obj lane : Nat) (args : List Nat) : (s.event code obj lane args).pending = s.pending := rfl
@[simp] theorem State.event_regs (s : State) (code obj lane : Nat) (args : List Nat) : (s.event code obj lane args).regs = s.regs := rfl
@[simp] theorem State.event_freeCtr (s : State) (code obj lane : Nat) (args : List Nat) : (s.event code obj lane args).freeCtr = s.freeCtr := rfl
@[simp] theorem State.event_staged (s : State) (code obj lane : Nat) (args : List Nat) : (s.event code obj lane args).staged = s.staged := rfl
@[simp] theorem State.event_time (s : State) (code obj lane : Nat) (args : List Nat) : (s.event code obj lane args).time = s.time := rfl
@[simp] theorem State.event_eng (s : State) (code obj lane : Nat) (args : List Nat) : (s.event code obj lane args).eng = s.eng := rfl
@[simp] theorem State.event_tx (s : State) (code obj lane : Nat) (args : List Nat) : (s.event code obj lane args).tx = s.tx := rfl
@[simp] theorem State.event_flt (s : State) (code obj lane : Nat) (args : List Nat) : (s.event code obj lane args).flt = s.flt := rfl
@[simp] theorem State.event_frame (s : State) (code obj lane : Nat) (args : List Nat) : (s.event code obj lane args).frame = s.frame := rfl
@[simp] theorem State.event_acq (s : State) (code obj lane : Nat) (args : List Nat) : (s.event code obj lane args).acq = s.acq := rfl
@[simp] theorem State.event_rx (s : State) (code obj lane : Nat) (args : List Nat) : (s.event code obj lane args).rx = s.rx := rfl
@[simp] theorem State.event_trim (s : State) (code obj lane : Nat) (args : List Nat) : (s.event code obj lane args).trim = s.trim := rfl
@[simp] theorem State.event_jrn (s : State) (code obj lane : Nat) (args : List Nat) : (s.event code obj lane args).jrn = s.jrn := rfl
@[simp] theorem State.event_map (s : State) (code obj lane : Nat) (args : List Nat) : (s.event code obj lane args).map = s.map := rfl
@[simp] theorem State.event_haly (s : State) (code obj lane : Nat) (args : List Nat) : (s.event code obj lane args).haly = s.haly := rfl
@[simp] theorem State.event_pwr (s : State) (code obj lane : Nat) (args : List Nat) : (s.event code obj lane args).pwr = s.pwr := rfl
@[simp] theorem State.event_mem (s : State) (code obj lane : Nat) (args : List Nat) : (s.event code obj lane args).mem = s.mem := rfl
@[simp] theorem State.event_pair (s : State) (code obj lane : Nat) (args : List Nat) : (s.event code obj lane args).pair = s.pair := rfl
@[simp] theorem State.event_sec (s : State) (code obj lane : Nat) (args : List Nat) : (s.event code obj lane args).sec = s.sec := rfl
@[simp] theorem State.event_obs (s : State) (code obj lane : Nat) (args : List Nat) : (s.event code obj lane args).obs = s.obs := rfl

@[simp] theorem State.eventC_pending (s : State) (code obj lane : Nat) (clear : Bool) (args : List Nat) : (s.eventC code obj lane clear args).pending = s.pending := rfl
@[simp] theorem State.eventC_regs (s : State) (code obj lane : Nat) (clear : Bool) (args : List Nat) : (s.eventC code obj lane clear args).regs = s.regs := rfl
@[simp] theorem State.eventC_freeCtr (s : State) (code obj lane : Nat) (clear : Bool) (args : List Nat) : (s.eventC code obj lane clear args).freeCtr = s.freeCtr := rfl
@[simp] theorem State.eventC_staged (s : State) (code obj lane : Nat) (clear : Bool) (args : List Nat) : (s.eventC code obj lane clear args).staged = s.staged := rfl
@[simp] theorem State.eventC_time (s : State) (code obj lane : Nat) (clear : Bool) (args : List Nat) : (s.eventC code obj lane clear args).time = s.time := rfl
@[simp] theorem State.eventC_eng (s : State) (code obj lane : Nat) (clear : Bool) (args : List Nat) : (s.eventC code obj lane clear args).eng = s.eng := rfl
@[simp] theorem State.eventC_tx (s : State) (code obj lane : Nat) (clear : Bool) (args : List Nat) : (s.eventC code obj lane clear args).tx = s.tx := rfl
@[simp] theorem State.eventC_flt (s : State) (code obj lane : Nat) (clear : Bool) (args : List Nat) : (s.eventC code obj lane clear args).flt = s.flt := rfl
@[simp] theorem State.eventC_frame (s : State) (code obj lane : Nat) (clear : Bool) (args : List Nat) : (s.eventC code obj lane clear args).frame = s.frame := rfl
@[simp] theorem State.eventC_acq (s : State) (code obj lane : Nat) (clear : Bool) (args : List Nat) : (s.eventC code obj lane clear args).acq = s.acq := rfl
@[simp] theorem State.eventC_rx (s : State) (code obj lane : Nat) (clear : Bool) (args : List Nat) : (s.eventC code obj lane clear args).rx = s.rx := rfl
@[simp] theorem State.eventC_trim (s : State) (code obj lane : Nat) (clear : Bool) (args : List Nat) : (s.eventC code obj lane clear args).trim = s.trim := rfl
@[simp] theorem State.eventC_jrn (s : State) (code obj lane : Nat) (clear : Bool) (args : List Nat) : (s.eventC code obj lane clear args).jrn = s.jrn := rfl
@[simp] theorem State.eventC_map (s : State) (code obj lane : Nat) (clear : Bool) (args : List Nat) : (s.eventC code obj lane clear args).map = s.map := rfl
@[simp] theorem State.eventC_haly (s : State) (code obj lane : Nat) (clear : Bool) (args : List Nat) : (s.eventC code obj lane clear args).haly = s.haly := rfl
@[simp] theorem State.eventC_pwr (s : State) (code obj lane : Nat) (clear : Bool) (args : List Nat) : (s.eventC code obj lane clear args).pwr = s.pwr := rfl
@[simp] theorem State.eventC_mem (s : State) (code obj lane : Nat) (clear : Bool) (args : List Nat) : (s.eventC code obj lane clear args).mem = s.mem := rfl
@[simp] theorem State.eventC_pair (s : State) (code obj lane : Nat) (clear : Bool) (args : List Nat) : (s.eventC code obj lane clear args).pair = s.pair := rfl
@[simp] theorem State.eventC_sec (s : State) (code obj lane : Nat) (clear : Bool) (args : List Nat) : (s.eventC code obj lane clear args).sec = s.sec := rfl
@[simp] theorem State.eventC_obs (s : State) (code obj lane : Nat) (clear : Bool) (args : List Nat) : (s.eventC code obj lane clear args).obs = s.obs := rfl

@[simp] theorem State.setRing_pending (s : State) (r : Nat) (x : Ring) : (s.setRing r x).pending = s.pending := rfl
@[simp] theorem State.setRing_regs (s : State) (r : Nat) (x : Ring) : (s.setRing r x).regs = s.regs := rfl
@[simp] theorem State.setRing_freeCtr (s : State) (r : Nat) (x : Ring) : (s.setRing r x).freeCtr = s.freeCtr := rfl
@[simp] theorem State.setRing_staged (s : State) (r : Nat) (x : Ring) : (s.setRing r x).staged = s.staged := rfl
@[simp] theorem State.setRing_time (s : State) (r : Nat) (x : Ring) : (s.setRing r x).time = s.time := rfl
@[simp] theorem State.setRing_eng (s : State) (r : Nat) (x : Ring) : (s.setRing r x).eng = s.eng := rfl
@[simp] theorem State.setRing_tx (s : State) (r : Nat) (x : Ring) : (s.setRing r x).tx = s.tx := rfl
@[simp] theorem State.setRing_flt (s : State) (r : Nat) (x : Ring) : (s.setRing r x).flt = s.flt := rfl
@[simp] theorem State.setRing_frame (s : State) (r : Nat) (x : Ring) : (s.setRing r x).frame = s.frame := rfl
@[simp] theorem State.setRing_acq (s : State) (r : Nat) (x : Ring) : (s.setRing r x).acq = s.acq := rfl
@[simp] theorem State.setRing_rx (s : State) (r : Nat) (x : Ring) : (s.setRing r x).rx = s.rx := rfl
@[simp] theorem State.setRing_trim (s : State) (r : Nat) (x : Ring) : (s.setRing r x).trim = s.trim := rfl
@[simp] theorem State.setRing_jrn (s : State) (r : Nat) (x : Ring) : (s.setRing r x).jrn = s.jrn := rfl
@[simp] theorem State.setRing_map (s : State) (r : Nat) (x : Ring) : (s.setRing r x).map = s.map := rfl
@[simp] theorem State.setRing_haly (s : State) (r : Nat) (x : Ring) : (s.setRing r x).haly = s.haly := rfl
@[simp] theorem State.setRing_pwr (s : State) (r : Nat) (x : Ring) : (s.setRing r x).pwr = s.pwr := rfl
@[simp] theorem State.setRing_mem (s : State) (r : Nat) (x : Ring) : (s.setRing r x).mem = s.mem := rfl
@[simp] theorem State.setRing_pair (s : State) (r : Nat) (x : Ring) : (s.setRing r x).pair = s.pair := rfl
@[simp] theorem State.setRing_sec (s : State) (r : Nat) (x : Ring) : (s.setRing r x).sec = s.sec := rfl
@[simp] theorem State.setRing_obs (s : State) (r : Nat) (x : Ring) : (s.setRing r x).obs = s.obs := rfl

@[simp] theorem State.dma_pending (s : State) (addr : Nat) (data : List Byte) : (s.dma addr data).pending = s.pending := rfl
@[simp] theorem State.dma_regs (s : State) (addr : Nat) (data : List Byte) : (s.dma addr data).regs = s.regs := rfl
@[simp] theorem State.dma_freeCtr (s : State) (addr : Nat) (data : List Byte) : (s.dma addr data).freeCtr = s.freeCtr := rfl
@[simp] theorem State.dma_staged (s : State) (addr : Nat) (data : List Byte) : (s.dma addr data).staged = s.staged := rfl
@[simp] theorem State.dma_time (s : State) (addr : Nat) (data : List Byte) : (s.dma addr data).time = s.time := rfl
@[simp] theorem State.dma_eng (s : State) (addr : Nat) (data : List Byte) : (s.dma addr data).eng = s.eng := rfl
@[simp] theorem State.dma_tx (s : State) (addr : Nat) (data : List Byte) : (s.dma addr data).tx = s.tx := rfl
@[simp] theorem State.dma_flt (s : State) (addr : Nat) (data : List Byte) : (s.dma addr data).flt = s.flt := rfl
@[simp] theorem State.dma_frame (s : State) (addr : Nat) (data : List Byte) : (s.dma addr data).frame = s.frame := rfl
@[simp] theorem State.dma_acq (s : State) (addr : Nat) (data : List Byte) : (s.dma addr data).acq = s.acq := rfl
@[simp] theorem State.dma_rx (s : State) (addr : Nat) (data : List Byte) : (s.dma addr data).rx = s.rx := rfl
@[simp] theorem State.dma_trim (s : State) (addr : Nat) (data : List Byte) : (s.dma addr data).trim = s.trim := rfl
@[simp] theorem State.dma_jrn (s : State) (addr : Nat) (data : List Byte) : (s.dma addr data).jrn = s.jrn := rfl
@[simp] theorem State.dma_map (s : State) (addr : Nat) (data : List Byte) : (s.dma addr data).map = s.map := rfl
@[simp] theorem State.dma_haly (s : State) (addr : Nat) (data : List Byte) : (s.dma addr data).haly = s.haly := rfl
@[simp] theorem State.dma_pwr (s : State) (addr : Nat) (data : List Byte) : (s.dma addr data).pwr = s.pwr := rfl
@[simp] theorem State.dma_mem (s : State) (addr : Nat) (data : List Byte) : (s.dma addr data).mem = s.mem := rfl
@[simp] theorem State.dma_pair (s : State) (addr : Nat) (data : List Byte) : (s.dma addr data).pair = s.pair := rfl
@[simp] theorem State.dma_sec (s : State) (addr : Nat) (data : List Byte) : (s.dma addr data).sec = s.sec := rfl
@[simp] theorem State.dma_obs (s : State) (addr : Nat) (data : List Byte) : (s.dma addr data).obs = s.obs := rfl

@[simp] theorem State.readData_pending (s : State) (v : Word) (n : Nat) : (s.readData v n).pending = s.pending := rfl
@[simp] theorem State.readData_regs (s : State) (v : Word) (n : Nat) : (s.readData v n).regs = s.regs := rfl
@[simp] theorem State.readData_freeCtr (s : State) (v : Word) (n : Nat) : (s.readData v n).freeCtr = s.freeCtr := rfl
@[simp] theorem State.readData_staged (s : State) (v : Word) (n : Nat) : (s.readData v n).staged = s.staged := rfl
@[simp] theorem State.readData_time (s : State) (v : Word) (n : Nat) : (s.readData v n).time = s.time := rfl
@[simp] theorem State.readData_eng (s : State) (v : Word) (n : Nat) : (s.readData v n).eng = s.eng := rfl
@[simp] theorem State.readData_tx (s : State) (v : Word) (n : Nat) : (s.readData v n).tx = s.tx := rfl
@[simp] theorem State.readData_flt (s : State) (v : Word) (n : Nat) : (s.readData v n).flt = s.flt := rfl
@[simp] theorem State.readData_frame (s : State) (v : Word) (n : Nat) : (s.readData v n).frame = s.frame := rfl
@[simp] theorem State.readData_acq (s : State) (v : Word) (n : Nat) : (s.readData v n).acq = s.acq := rfl
@[simp] theorem State.readData_rx (s : State) (v : Word) (n : Nat) : (s.readData v n).rx = s.rx := rfl
@[simp] theorem State.readData_trim (s : State) (v : Word) (n : Nat) : (s.readData v n).trim = s.trim := rfl
@[simp] theorem State.readData_jrn (s : State) (v : Word) (n : Nat) : (s.readData v n).jrn = s.jrn := rfl
@[simp] theorem State.readData_map (s : State) (v : Word) (n : Nat) : (s.readData v n).map = s.map := rfl
@[simp] theorem State.readData_haly (s : State) (v : Word) (n : Nat) : (s.readData v n).haly = s.haly := rfl
@[simp] theorem State.readData_pwr (s : State) (v : Word) (n : Nat) : (s.readData v n).pwr = s.pwr := rfl
@[simp] theorem State.readData_mem (s : State) (v : Word) (n : Nat) : (s.readData v n).mem = s.mem := rfl
@[simp] theorem State.readData_pair (s : State) (v : Word) (n : Nat) : (s.readData v n).pair = s.pair := rfl
@[simp] theorem State.readData_sec (s : State) (v : Word) (n : Nat) : (s.readData v n).sec = s.sec := rfl
@[simp] theorem State.readData_obs (s : State) (v : Word) (n : Nat) : (s.readData v n).obs = s.obs := rfl

@[simp] theorem State.setShadow_pending (s : State) (x : Option Shadow) : (s.setShadow x).pending = s.pending := rfl
@[simp] theorem State.setShadow_regs (s : State) (x : Option Shadow) : (s.setShadow x).regs = s.regs := rfl
@[simp] theorem State.setShadow_freeCtr (s : State) (x : Option Shadow) : (s.setShadow x).freeCtr = s.freeCtr := rfl
@[simp] theorem State.setShadow_staged (s : State) (x : Option Shadow) : (s.setShadow x).staged = s.staged := rfl
@[simp] theorem State.setShadow_time (s : State) (x : Option Shadow) : (s.setShadow x).time = s.time := rfl
@[simp] theorem State.setShadow_eng (s : State) (x : Option Shadow) : (s.setShadow x).eng = s.eng := rfl
@[simp] theorem State.setShadow_tx (s : State) (x : Option Shadow) : (s.setShadow x).tx = s.tx := rfl
@[simp] theorem State.setShadow_flt (s : State) (x : Option Shadow) : (s.setShadow x).flt = s.flt := rfl
@[simp] theorem State.setShadow_frame (s : State) (x : Option Shadow) : (s.setShadow x).frame = s.frame := rfl
@[simp] theorem State.setShadow_acq (s : State) (x : Option Shadow) : (s.setShadow x).acq = s.acq := rfl
@[simp] theorem State.setShadow_rx (s : State) (x : Option Shadow) : (s.setShadow x).rx = s.rx := rfl
@[simp] theorem State.setShadow_trim (s : State) (x : Option Shadow) : (s.setShadow x).trim = s.trim := rfl
@[simp] theorem State.setShadow_jrn (s : State) (x : Option Shadow) : (s.setShadow x).jrn = s.jrn := rfl
@[simp] theorem State.setShadow_map (s : State) (x : Option Shadow) : (s.setShadow x).map = s.map := rfl
@[simp] theorem State.setShadow_haly (s : State) (x : Option Shadow) : (s.setShadow x).haly = s.haly := rfl
@[simp] theorem State.setShadow_pwr (s : State) (x : Option Shadow) : (s.setShadow x).pwr = s.pwr := rfl
@[simp] theorem State.setShadow_mem (s : State) (x : Option Shadow) : (s.setShadow x).mem = s.mem := rfl
@[simp] theorem State.setShadow_pair (s : State) (x : Option Shadow) : (s.setShadow x).pair = s.pair := rfl
@[simp] theorem State.setShadow_sec (s : State) (x : Option Shadow) : (s.setShadow x).sec = s.sec := rfl
@[simp] theorem State.setShadow_obs (s : State) (x : Option Shadow) : (s.setShadow x).obs = s.obs := rfl

@[simp] theorem State.setAq_pending (s : State) (o l : Nat) (x : AcqLane) : (s.setAq o l x).pending = s.pending := rfl
@[simp] theorem State.setAq_regs (s : State) (o l : Nat) (x : AcqLane) : (s.setAq o l x).regs = s.regs := rfl
@[simp] theorem State.setAq_freeCtr (s : State) (o l : Nat) (x : AcqLane) : (s.setAq o l x).freeCtr = s.freeCtr := rfl
@[simp] theorem State.setAq_staged (s : State) (o l : Nat) (x : AcqLane) : (s.setAq o l x).staged = s.staged := rfl
@[simp] theorem State.setAq_time (s : State) (o l : Nat) (x : AcqLane) : (s.setAq o l x).time = s.time := rfl
@[simp] theorem State.setAq_host (s : State) (o l : Nat) (x : AcqLane) : (s.setAq o l x).host = s.host := rfl
@[simp] theorem State.setAq_eng (s : State) (o l : Nat) (x : AcqLane) : (s.setAq o l x).eng = s.eng := rfl
@[simp] theorem State.setAq_tx (s : State) (o l : Nat) (x : AcqLane) : (s.setAq o l x).tx = s.tx := rfl
@[simp] theorem State.setAq_flt (s : State) (o l : Nat) (x : AcqLane) : (s.setAq o l x).flt = s.flt := rfl
@[simp] theorem State.setAq_frame (s : State) (o l : Nat) (x : AcqLane) : (s.setAq o l x).frame = s.frame := rfl
@[simp] theorem State.setAq_rx (s : State) (o l : Nat) (x : AcqLane) : (s.setAq o l x).rx = s.rx := rfl
@[simp] theorem State.setAq_trim (s : State) (o l : Nat) (x : AcqLane) : (s.setAq o l x).trim = s.trim := rfl
@[simp] theorem State.setAq_jrn (s : State) (o l : Nat) (x : AcqLane) : (s.setAq o l x).jrn = s.jrn := rfl
@[simp] theorem State.setAq_map (s : State) (o l : Nat) (x : AcqLane) : (s.setAq o l x).map = s.map := rfl
@[simp] theorem State.setAq_haly (s : State) (o l : Nat) (x : AcqLane) : (s.setAq o l x).haly = s.haly := rfl
@[simp] theorem State.setAq_pwr (s : State) (o l : Nat) (x : AcqLane) : (s.setAq o l x).pwr = s.pwr := rfl
@[simp] theorem State.setAq_mem (s : State) (o l : Nat) (x : AcqLane) : (s.setAq o l x).mem = s.mem := rfl
@[simp] theorem State.setAq_pair (s : State) (o l : Nat) (x : AcqLane) : (s.setAq o l x).pair = s.pair := rfl
@[simp] theorem State.setAq_sec (s : State) (o l : Nat) (x : AcqLane) : (s.setAq o l x).sec = s.sec := rfl
@[simp] theorem State.setAq_obs (s : State) (o l : Nat) (x : AcqLane) : (s.setAq o l x).obs = s.obs := rfl

@[simp] theorem State.setAo_pending (s : State) (o : Nat) (x : AcqOct) : (s.setAo o x).pending = s.pending := rfl
@[simp] theorem State.setAo_regs (s : State) (o : Nat) (x : AcqOct) : (s.setAo o x).regs = s.regs := rfl
@[simp] theorem State.setAo_freeCtr (s : State) (o : Nat) (x : AcqOct) : (s.setAo o x).freeCtr = s.freeCtr := rfl
@[simp] theorem State.setAo_staged (s : State) (o : Nat) (x : AcqOct) : (s.setAo o x).staged = s.staged := rfl
@[simp] theorem State.setAo_time (s : State) (o : Nat) (x : AcqOct) : (s.setAo o x).time = s.time := rfl
@[simp] theorem State.setAo_host (s : State) (o : Nat) (x : AcqOct) : (s.setAo o x).host = s.host := rfl
@[simp] theorem State.setAo_eng (s : State) (o : Nat) (x : AcqOct) : (s.setAo o x).eng = s.eng := rfl
@[simp] theorem State.setAo_tx (s : State) (o : Nat) (x : AcqOct) : (s.setAo o x).tx = s.tx := rfl
@[simp] theorem State.setAo_flt (s : State) (o : Nat) (x : AcqOct) : (s.setAo o x).flt = s.flt := rfl
@[simp] theorem State.setAo_frame (s : State) (o : Nat) (x : AcqOct) : (s.setAo o x).frame = s.frame := rfl
@[simp] theorem State.setAo_rx (s : State) (o : Nat) (x : AcqOct) : (s.setAo o x).rx = s.rx := rfl
@[simp] theorem State.setAo_trim (s : State) (o : Nat) (x : AcqOct) : (s.setAo o x).trim = s.trim := rfl
@[simp] theorem State.setAo_jrn (s : State) (o : Nat) (x : AcqOct) : (s.setAo o x).jrn = s.jrn := rfl
@[simp] theorem State.setAo_map (s : State) (o : Nat) (x : AcqOct) : (s.setAo o x).map = s.map := rfl
@[simp] theorem State.setAo_haly (s : State) (o : Nat) (x : AcqOct) : (s.setAo o x).haly = s.haly := rfl
@[simp] theorem State.setAo_pwr (s : State) (o : Nat) (x : AcqOct) : (s.setAo o x).pwr = s.pwr := rfl
@[simp] theorem State.setAo_mem (s : State) (o : Nat) (x : AcqOct) : (s.setAo o x).mem = s.mem := rfl
@[simp] theorem State.setAo_pair (s : State) (o : Nat) (x : AcqOct) : (s.setAo o x).pair = s.pair := rfl
@[simp] theorem State.setAo_sec (s : State) (o : Nat) (x : AcqOct) : (s.setAo o x).sec = s.sec := rfl
@[simp] theorem State.setAo_obs (s : State) (o : Nat) (x : AcqOct) : (s.setAo o x).obs = s.obs := rfl

@[simp] theorem State.setCh_pending (s : State) (c : Nat) (x : EdacCh) : (s.setCh c x).pending = s.pending := rfl
@[simp] theorem State.setCh_regs (s : State) (c : Nat) (x : EdacCh) : (s.setCh c x).regs = s.regs := rfl
@[simp] theorem State.setCh_freeCtr (s : State) (c : Nat) (x : EdacCh) : (s.setCh c x).freeCtr = s.freeCtr := rfl
@[simp] theorem State.setCh_staged (s : State) (c : Nat) (x : EdacCh) : (s.setCh c x).staged = s.staged := rfl
@[simp] theorem State.setCh_time (s : State) (c : Nat) (x : EdacCh) : (s.setCh c x).time = s.time := rfl
@[simp] theorem State.setCh_host (s : State) (c : Nat) (x : EdacCh) : (s.setCh c x).host = s.host := rfl
@[simp] theorem State.setCh_tx (s : State) (c : Nat) (x : EdacCh) : (s.setCh c x).tx = s.tx := rfl
@[simp] theorem State.setCh_flt (s : State) (c : Nat) (x : EdacCh) : (s.setCh c x).flt = s.flt := rfl
@[simp] theorem State.setCh_frame (s : State) (c : Nat) (x : EdacCh) : (s.setCh c x).frame = s.frame := rfl
@[simp] theorem State.setCh_acq (s : State) (c : Nat) (x : EdacCh) : (s.setCh c x).acq = s.acq := rfl
@[simp] theorem State.setCh_rx (s : State) (c : Nat) (x : EdacCh) : (s.setCh c x).rx = s.rx := rfl
@[simp] theorem State.setCh_trim (s : State) (c : Nat) (x : EdacCh) : (s.setCh c x).trim = s.trim := rfl
@[simp] theorem State.setCh_jrn (s : State) (c : Nat) (x : EdacCh) : (s.setCh c x).jrn = s.jrn := rfl
@[simp] theorem State.setCh_map (s : State) (c : Nat) (x : EdacCh) : (s.setCh c x).map = s.map := rfl
@[simp] theorem State.setCh_haly (s : State) (c : Nat) (x : EdacCh) : (s.setCh c x).haly = s.haly := rfl
@[simp] theorem State.setCh_pwr (s : State) (c : Nat) (x : EdacCh) : (s.setCh c x).pwr = s.pwr := rfl
@[simp] theorem State.setCh_mem (s : State) (c : Nat) (x : EdacCh) : (s.setCh c x).mem = s.mem := rfl
@[simp] theorem State.setCh_pair (s : State) (c : Nat) (x : EdacCh) : (s.setCh c x).pair = s.pair := rfl
@[simp] theorem State.setCh_sec (s : State) (c : Nat) (x : EdacCh) : (s.setCh c x).sec = s.sec := rfl
@[simp] theorem State.setCh_obs (s : State) (c : Nat) (x : EdacCh) : (s.setCh c x).obs = s.obs := rfl

@[simp] theorem State.setRamp_pending (s : State) (k : Nat) (x : Option RampRun) : (s.setRamp k x).pending = s.pending := rfl
@[simp] theorem State.setRamp_regs (s : State) (k : Nat) (x : Option RampRun) : (s.setRamp k x).regs = s.regs := rfl
@[simp] theorem State.setRamp_freeCtr (s : State) (k : Nat) (x : Option RampRun) : (s.setRamp k x).freeCtr = s.freeCtr := rfl
@[simp] theorem State.setRamp_staged (s : State) (k : Nat) (x : Option RampRun) : (s.setRamp k x).staged = s.staged := rfl
@[simp] theorem State.setRamp_time (s : State) (k : Nat) (x : Option RampRun) : (s.setRamp k x).time = s.time := rfl
@[simp] theorem State.setRamp_host (s : State) (k : Nat) (x : Option RampRun) : (s.setRamp k x).host = s.host := rfl
@[simp] theorem State.setRamp_tx (s : State) (k : Nat) (x : Option RampRun) : (s.setRamp k x).tx = s.tx := rfl
@[simp] theorem State.setRamp_flt (s : State) (k : Nat) (x : Option RampRun) : (s.setRamp k x).flt = s.flt := rfl
@[simp] theorem State.setRamp_frame (s : State) (k : Nat) (x : Option RampRun) : (s.setRamp k x).frame = s.frame := rfl
@[simp] theorem State.setRamp_acq (s : State) (k : Nat) (x : Option RampRun) : (s.setRamp k x).acq = s.acq := rfl
@[simp] theorem State.setRamp_rx (s : State) (k : Nat) (x : Option RampRun) : (s.setRamp k x).rx = s.rx := rfl
@[simp] theorem State.setRamp_trim (s : State) (k : Nat) (x : Option RampRun) : (s.setRamp k x).trim = s.trim := rfl
@[simp] theorem State.setRamp_jrn (s : State) (k : Nat) (x : Option RampRun) : (s.setRamp k x).jrn = s.jrn := rfl
@[simp] theorem State.setRamp_map (s : State) (k : Nat) (x : Option RampRun) : (s.setRamp k x).map = s.map := rfl
@[simp] theorem State.setRamp_haly (s : State) (k : Nat) (x : Option RampRun) : (s.setRamp k x).haly = s.haly := rfl
@[simp] theorem State.setRamp_pwr (s : State) (k : Nat) (x : Option RampRun) : (s.setRamp k x).pwr = s.pwr := rfl
@[simp] theorem State.setRamp_mem (s : State) (k : Nat) (x : Option RampRun) : (s.setRamp k x).mem = s.mem := rfl
@[simp] theorem State.setRamp_pair (s : State) (k : Nat) (x : Option RampRun) : (s.setRamp k x).pair = s.pair := rfl
@[simp] theorem State.setRamp_sec (s : State) (k : Nat) (x : Option RampRun) : (s.setRamp k x).sec = s.sec := rfl
@[simp] theorem State.setRamp_obs (s : State) (k : Nat) (x : Option RampRun) : (s.setRamp k x).obs = s.obs := rfl

@[simp] theorem State.setI2c_pending (s : State) (k : Nat) (x : Option BusXfer) : (s.setI2c k x).pending = s.pending := rfl
@[simp] theorem State.setI2c_freeCtr (s : State) (k : Nat) (x : Option BusXfer) : (s.setI2c k x).freeCtr = s.freeCtr := rfl
@[simp] theorem State.setI2c_staged (s : State) (k : Nat) (x : Option BusXfer) : (s.setI2c k x).staged = s.staged := rfl
@[simp] theorem State.setI2c_time (s : State) (k : Nat) (x : Option BusXfer) : (s.setI2c k x).time = s.time := rfl
@[simp] theorem State.setI2c_host (s : State) (k : Nat) (x : Option BusXfer) : (s.setI2c k x).host = s.host := rfl
@[simp] theorem State.setI2c_tx (s : State) (k : Nat) (x : Option BusXfer) : (s.setI2c k x).tx = s.tx := rfl
@[simp] theorem State.setI2c_flt (s : State) (k : Nat) (x : Option BusXfer) : (s.setI2c k x).flt = s.flt := rfl
@[simp] theorem State.setI2c_frame (s : State) (k : Nat) (x : Option BusXfer) : (s.setI2c k x).frame = s.frame := rfl
@[simp] theorem State.setI2c_acq (s : State) (k : Nat) (x : Option BusXfer) : (s.setI2c k x).acq = s.acq := rfl
@[simp] theorem State.setI2c_rx (s : State) (k : Nat) (x : Option BusXfer) : (s.setI2c k x).rx = s.rx := rfl
@[simp] theorem State.setI2c_trim (s : State) (k : Nat) (x : Option BusXfer) : (s.setI2c k x).trim = s.trim := rfl
@[simp] theorem State.setI2c_jrn (s : State) (k : Nat) (x : Option BusXfer) : (s.setI2c k x).jrn = s.jrn := rfl
@[simp] theorem State.setI2c_map (s : State) (k : Nat) (x : Option BusXfer) : (s.setI2c k x).map = s.map := rfl
@[simp] theorem State.setI2c_haly (s : State) (k : Nat) (x : Option BusXfer) : (s.setI2c k x).haly = s.haly := rfl
@[simp] theorem State.setI2c_pwr (s : State) (k : Nat) (x : Option BusXfer) : (s.setI2c k x).pwr = s.pwr := rfl
@[simp] theorem State.setI2c_mem (s : State) (k : Nat) (x : Option BusXfer) : (s.setI2c k x).mem = s.mem := rfl
@[simp] theorem State.setI2c_pair (s : State) (k : Nat) (x : Option BusXfer) : (s.setI2c k x).pair = s.pair := rfl
@[simp] theorem State.setI2c_sec (s : State) (k : Nat) (x : Option BusXfer) : (s.setI2c k x).sec = s.sec := rfl
@[simp] theorem State.setI2c_obs (s : State) (k : Nat) (x : Option BusXfer) : (s.setI2c k x).obs = s.obs := rfl


@[simp] theorem State.setHal_pending (s : State) (o : Nat) (x : HalyOct) : (s.setHal o x).pending = s.pending := rfl
@[simp] theorem State.setHal_regs (s : State) (o : Nat) (x : HalyOct) : (s.setHal o x).regs = s.regs := rfl
@[simp] theorem State.setHal_freeCtr (s : State) (o : Nat) (x : HalyOct) : (s.setHal o x).freeCtr = s.freeCtr := rfl
@[simp] theorem State.setHal_staged (s : State) (o : Nat) (x : HalyOct) : (s.setHal o x).staged = s.staged := rfl
@[simp] theorem State.setHal_time (s : State) (o : Nat) (x : HalyOct) : (s.setHal o x).time = s.time := rfl
@[simp] theorem State.setHal_host (s : State) (o : Nat) (x : HalyOct) : (s.setHal o x).host = s.host := rfl
@[simp] theorem State.setHal_eng (s : State) (o : Nat) (x : HalyOct) : (s.setHal o x).eng = s.eng := rfl
@[simp] theorem State.setHal_tx (s : State) (o : Nat) (x : HalyOct) : (s.setHal o x).tx = s.tx := rfl
@[simp] theorem State.setHal_flt (s : State) (o : Nat) (x : HalyOct) : (s.setHal o x).flt = s.flt := rfl
@[simp] theorem State.setHal_frame (s : State) (o : Nat) (x : HalyOct) : (s.setHal o x).frame = s.frame := rfl
@[simp] theorem State.setHal_acq (s : State) (o : Nat) (x : HalyOct) : (s.setHal o x).acq = s.acq := rfl
@[simp] theorem State.setHal_rx (s : State) (o : Nat) (x : HalyOct) : (s.setHal o x).rx = s.rx := rfl
@[simp] theorem State.setHal_trim (s : State) (o : Nat) (x : HalyOct) : (s.setHal o x).trim = s.trim := rfl
@[simp] theorem State.setHal_jrn (s : State) (o : Nat) (x : HalyOct) : (s.setHal o x).jrn = s.jrn := rfl
@[simp] theorem State.setHal_map (s : State) (o : Nat) (x : HalyOct) : (s.setHal o x).map = s.map := rfl
@[simp] theorem State.setHal_pwr (s : State) (o : Nat) (x : HalyOct) : (s.setHal o x).pwr = s.pwr := rfl
@[simp] theorem State.setHal_mem (s : State) (o : Nat) (x : HalyOct) : (s.setHal o x).mem = s.mem := rfl
@[simp] theorem State.setHal_pair (s : State) (o : Nat) (x : HalyOct) : (s.setHal o x).pair = s.pair := rfl
@[simp] theorem State.setHal_sec (s : State) (o : Nat) (x : HalyOct) : (s.setHal o x).sec = s.sec := rfl
@[simp] theorem State.setHal_obs (s : State) (o : Nat) (x : HalyOct) : (s.setHal o x).obs = s.obs := rfl

@[simp] theorem State.setHalRx_pending (s : State) (o v : Nat) : (s.setHalRx o v).pending = s.pending := rfl
@[simp] theorem State.setHalRx_freeCtr (s : State) (o v : Nat) : (s.setHalRx o v).freeCtr = s.freeCtr := rfl
@[simp] theorem State.setHalRx_staged (s : State) (o v : Nat) : (s.setHalRx o v).staged = s.staged := rfl
@[simp] theorem State.setHalRx_time (s : State) (o v : Nat) : (s.setHalRx o v).time = s.time := rfl
@[simp] theorem State.setHalRx_host (s : State) (o v : Nat) : (s.setHalRx o v).host = s.host := rfl
@[simp] theorem State.setHalRx_eng (s : State) (o v : Nat) : (s.setHalRx o v).eng = s.eng := rfl
@[simp] theorem State.setHalRx_tx (s : State) (o v : Nat) : (s.setHalRx o v).tx = s.tx := rfl
@[simp] theorem State.setHalRx_flt (s : State) (o v : Nat) : (s.setHalRx o v).flt = s.flt := rfl
@[simp] theorem State.setHalRx_frame (s : State) (o v : Nat) : (s.setHalRx o v).frame = s.frame := rfl
@[simp] theorem State.setHalRx_acq (s : State) (o v : Nat) : (s.setHalRx o v).acq = s.acq := rfl
@[simp] theorem State.setHalRx_rx (s : State) (o v : Nat) : (s.setHalRx o v).rx = s.rx := rfl
@[simp] theorem State.setHalRx_trim (s : State) (o v : Nat) : (s.setHalRx o v).trim = s.trim := rfl
@[simp] theorem State.setHalRx_jrn (s : State) (o v : Nat) : (s.setHalRx o v).jrn = s.jrn := rfl
@[simp] theorem State.setHalRx_map (s : State) (o v : Nat) : (s.setHalRx o v).map = s.map := rfl
@[simp] theorem State.setHalRx_pwr (s : State) (o v : Nat) : (s.setHalRx o v).pwr = s.pwr := rfl
@[simp] theorem State.setHalRx_mem (s : State) (o v : Nat) : (s.setHalRx o v).mem = s.mem := rfl
@[simp] theorem State.setHalRx_pair (s : State) (o v : Nat) : (s.setHalRx o v).pair = s.pair := rfl
@[simp] theorem State.setHalRx_sec (s : State) (o v : Nat) : (s.setHalRx o v).sec = s.sec := rfl
@[simp] theorem State.setHalRx_obs (s : State) (o v : Nat) : (s.setHalRx o v).obs = s.obs := rfl

@[simp] theorem State.setHalTx_pending (s : State) (o v : Nat) : (s.setHalTx o v).pending = s.pending := rfl
@[simp] theorem State.setHalTx_freeCtr (s : State) (o v : Nat) : (s.setHalTx o v).freeCtr = s.freeCtr := rfl
@[simp] theorem State.setHalTx_staged (s : State) (o v : Nat) : (s.setHalTx o v).staged = s.staged := rfl
@[simp] theorem State.setHalTx_time (s : State) (o v : Nat) : (s.setHalTx o v).time = s.time := rfl
@[simp] theorem State.setHalTx_host (s : State) (o v : Nat) : (s.setHalTx o v).host = s.host := rfl
@[simp] theorem State.setHalTx_eng (s : State) (o v : Nat) : (s.setHalTx o v).eng = s.eng := rfl
@[simp] theorem State.setHalTx_tx (s : State) (o v : Nat) : (s.setHalTx o v).tx = s.tx := rfl
@[simp] theorem State.setHalTx_flt (s : State) (o v : Nat) : (s.setHalTx o v).flt = s.flt := rfl
@[simp] theorem State.setHalTx_frame (s : State) (o v : Nat) : (s.setHalTx o v).frame = s.frame := rfl
@[simp] theorem State.setHalTx_acq (s : State) (o v : Nat) : (s.setHalTx o v).acq = s.acq := rfl
@[simp] theorem State.setHalTx_rx (s : State) (o v : Nat) : (s.setHalTx o v).rx = s.rx := rfl
@[simp] theorem State.setHalTx_trim (s : State) (o v : Nat) : (s.setHalTx o v).trim = s.trim := rfl
@[simp] theorem State.setHalTx_jrn (s : State) (o v : Nat) : (s.setHalTx o v).jrn = s.jrn := rfl
@[simp] theorem State.setHalTx_map (s : State) (o v : Nat) : (s.setHalTx o v).map = s.map := rfl
@[simp] theorem State.setHalTx_haly (s : State) (o v : Nat) : (s.setHalTx o v).haly = s.haly := rfl
@[simp] theorem State.setHalTx_pwr (s : State) (o v : Nat) : (s.setHalTx o v).pwr = s.pwr := rfl
@[simp] theorem State.setHalTx_mem (s : State) (o v : Nat) : (s.setHalTx o v).mem = s.mem := rfl
@[simp] theorem State.setHalTx_pair (s : State) (o v : Nat) : (s.setHalTx o v).pair = s.pair := rfl
@[simp] theorem State.setHalTx_sec (s : State) (o v : Nat) : (s.setHalTx o v).sec = s.sec := rfl
@[simp] theorem State.setHalTx_obs (s : State) (o v : Nat) : (s.setHalTx o v).obs = s.obs := rfl

@[simp] theorem State.setFo_pending (s : State) (o : Nat) (x : FrameOct) : (s.setFo o x).pending = s.pending := rfl
@[simp] theorem State.setFo_regs (s : State) (o : Nat) (x : FrameOct) : (s.setFo o x).regs = s.regs := rfl
@[simp] theorem State.setFo_freeCtr (s : State) (o : Nat) (x : FrameOct) : (s.setFo o x).freeCtr = s.freeCtr := rfl
@[simp] theorem State.setFo_staged (s : State) (o : Nat) (x : FrameOct) : (s.setFo o x).staged = s.staged := rfl
@[simp] theorem State.setFo_time (s : State) (o : Nat) (x : FrameOct) : (s.setFo o x).time = s.time := rfl
@[simp] theorem State.setFo_host (s : State) (o : Nat) (x : FrameOct) : (s.setFo o x).host = s.host := rfl
@[simp] theorem State.setFo_eng (s : State) (o : Nat) (x : FrameOct) : (s.setFo o x).eng = s.eng := rfl
@[simp] theorem State.setFo_tx (s : State) (o : Nat) (x : FrameOct) : (s.setFo o x).tx = s.tx := rfl
@[simp] theorem State.setFo_flt (s : State) (o : Nat) (x : FrameOct) : (s.setFo o x).flt = s.flt := rfl
@[simp] theorem State.setFo_acq (s : State) (o : Nat) (x : FrameOct) : (s.setFo o x).acq = s.acq := rfl
@[simp] theorem State.setFo_rx (s : State) (o : Nat) (x : FrameOct) : (s.setFo o x).rx = s.rx := rfl
@[simp] theorem State.setFo_trim (s : State) (o : Nat) (x : FrameOct) : (s.setFo o x).trim = s.trim := rfl
@[simp] theorem State.setFo_jrn (s : State) (o : Nat) (x : FrameOct) : (s.setFo o x).jrn = s.jrn := rfl
@[simp] theorem State.setFo_map (s : State) (o : Nat) (x : FrameOct) : (s.setFo o x).map = s.map := rfl
@[simp] theorem State.setFo_haly (s : State) (o : Nat) (x : FrameOct) : (s.setFo o x).haly = s.haly := rfl
@[simp] theorem State.setFo_pwr (s : State) (o : Nat) (x : FrameOct) : (s.setFo o x).pwr = s.pwr := rfl
@[simp] theorem State.setFo_mem (s : State) (o : Nat) (x : FrameOct) : (s.setFo o x).mem = s.mem := rfl
@[simp] theorem State.setFo_pair (s : State) (o : Nat) (x : FrameOct) : (s.setFo o x).pair = s.pair := rfl
@[simp] theorem State.setFo_sec (s : State) (o : Nat) (x : FrameOct) : (s.setFo o x).sec = s.sec := rfl
@[simp] theorem State.setFo_obs (s : State) (o : Nat) (x : FrameOct) : (s.setFo o x).obs = s.obs := rfl

@[simp] theorem State.setFl_pending (s : State) (o l : Nat) (x : FrameLane) : (s.setFl o l x).pending = s.pending := rfl
@[simp] theorem State.setFl_regs (s : State) (o l : Nat) (x : FrameLane) : (s.setFl o l x).regs = s.regs := rfl
@[simp] theorem State.setFl_freeCtr (s : State) (o l : Nat) (x : FrameLane) : (s.setFl o l x).freeCtr = s.freeCtr := rfl
@[simp] theorem State.setFl_staged (s : State) (o l : Nat) (x : FrameLane) : (s.setFl o l x).staged = s.staged := rfl
@[simp] theorem State.setFl_time (s : State) (o l : Nat) (x : FrameLane) : (s.setFl o l x).time = s.time := rfl
@[simp] theorem State.setFl_host (s : State) (o l : Nat) (x : FrameLane) : (s.setFl o l x).host = s.host := rfl
@[simp] theorem State.setFl_eng (s : State) (o l : Nat) (x : FrameLane) : (s.setFl o l x).eng = s.eng := rfl
@[simp] theorem State.setFl_tx (s : State) (o l : Nat) (x : FrameLane) : (s.setFl o l x).tx = s.tx := rfl
@[simp] theorem State.setFl_flt (s : State) (o l : Nat) (x : FrameLane) : (s.setFl o l x).flt = s.flt := rfl
@[simp] theorem State.setFl_acq (s : State) (o l : Nat) (x : FrameLane) : (s.setFl o l x).acq = s.acq := rfl
@[simp] theorem State.setFl_rx (s : State) (o l : Nat) (x : FrameLane) : (s.setFl o l x).rx = s.rx := rfl
@[simp] theorem State.setFl_trim (s : State) (o l : Nat) (x : FrameLane) : (s.setFl o l x).trim = s.trim := rfl
@[simp] theorem State.setFl_jrn (s : State) (o l : Nat) (x : FrameLane) : (s.setFl o l x).jrn = s.jrn := rfl
@[simp] theorem State.setFl_map (s : State) (o l : Nat) (x : FrameLane) : (s.setFl o l x).map = s.map := rfl
@[simp] theorem State.setFl_haly (s : State) (o l : Nat) (x : FrameLane) : (s.setFl o l x).haly = s.haly := rfl
@[simp] theorem State.setFl_pwr (s : State) (o l : Nat) (x : FrameLane) : (s.setFl o l x).pwr = s.pwr := rfl
@[simp] theorem State.setFl_mem (s : State) (o l : Nat) (x : FrameLane) : (s.setFl o l x).mem = s.mem := rfl
@[simp] theorem State.setFl_pair (s : State) (o l : Nat) (x : FrameLane) : (s.setFl o l x).pair = s.pair := rfl
@[simp] theorem State.setFl_sec (s : State) (o l : Nat) (x : FrameLane) : (s.setFl o l x).sec = s.sec := rfl
@[simp] theorem State.setFl_obs (s : State) (o l : Nat) (x : FrameLane) : (s.setFl o l x).obs = s.obs := rfl

@[simp] theorem State.setCli_pending (s : State) (c : Nat) (x : CliSt) : (s.setCli c x).pending = s.pending := rfl
@[simp] theorem State.setCli_regs (s : State) (c : Nat) (x : CliSt) : (s.setCli c x).regs = s.regs := rfl
@[simp] theorem State.setCli_freeCtr (s : State) (c : Nat) (x : CliSt) : (s.setCli c x).freeCtr = s.freeCtr := rfl
@[simp] theorem State.setCli_staged (s : State) (c : Nat) (x : CliSt) : (s.setCli c x).staged = s.staged := rfl
@[simp] theorem State.setCli_time (s : State) (c : Nat) (x : CliSt) : (s.setCli c x).time = s.time := rfl
@[simp] theorem State.setCli_host (s : State) (c : Nat) (x : CliSt) : (s.setCli c x).host = s.host := rfl
@[simp] theorem State.setCli_eng (s : State) (c : Nat) (x : CliSt) : (s.setCli c x).eng = s.eng := rfl
@[simp] theorem State.setCli_tx (s : State) (c : Nat) (x : CliSt) : (s.setCli c x).tx = s.tx := rfl
@[simp] theorem State.setCli_flt (s : State) (c : Nat) (x : CliSt) : (s.setCli c x).flt = s.flt := rfl
@[simp] theorem State.setCli_frame (s : State) (c : Nat) (x : CliSt) : (s.setCli c x).frame = s.frame := rfl
@[simp] theorem State.setCli_acq (s : State) (c : Nat) (x : CliSt) : (s.setCli c x).acq = s.acq := rfl
@[simp] theorem State.setCli_rx (s : State) (c : Nat) (x : CliSt) : (s.setCli c x).rx = s.rx := rfl
@[simp] theorem State.setCli_trim (s : State) (c : Nat) (x : CliSt) : (s.setCli c x).trim = s.trim := rfl
@[simp] theorem State.setCli_jrn (s : State) (c : Nat) (x : CliSt) : (s.setCli c x).jrn = s.jrn := rfl
@[simp] theorem State.setCli_haly (s : State) (c : Nat) (x : CliSt) : (s.setCli c x).haly = s.haly := rfl
@[simp] theorem State.setCli_pwr (s : State) (c : Nat) (x : CliSt) : (s.setCli c x).pwr = s.pwr := rfl
@[simp] theorem State.setCli_mem (s : State) (c : Nat) (x : CliSt) : (s.setCli c x).mem = s.mem := rfl
@[simp] theorem State.setCli_pair (s : State) (c : Nat) (x : CliSt) : (s.setCli c x).pair = s.pair := rfl
@[simp] theorem State.setCli_sec (s : State) (c : Nat) (x : CliSt) : (s.setCli c x).sec = s.sec := rfl
@[simp] theorem State.setCli_obs (s : State) (c : Nat) (x : CliSt) : (s.setCli c x).obs = s.obs := rfl

@[simp] theorem State.setCap_pending (s : State) (y : Nat) (x : Option CapRun) : (s.setCap y x).pending = s.pending := rfl
@[simp] theorem State.setCap_regs (s : State) (y : Nat) (x : Option CapRun) : (s.setCap y x).regs = s.regs := rfl
@[simp] theorem State.setCap_freeCtr (s : State) (y : Nat) (x : Option CapRun) : (s.setCap y x).freeCtr = s.freeCtr := rfl
@[simp] theorem State.setCap_staged (s : State) (y : Nat) (x : Option CapRun) : (s.setCap y x).staged = s.staged := rfl
@[simp] theorem State.setCap_time (s : State) (y : Nat) (x : Option CapRun) : (s.setCap y x).time = s.time := rfl
@[simp] theorem State.setCap_host (s : State) (y : Nat) (x : Option CapRun) : (s.setCap y x).host = s.host := rfl
@[simp] theorem State.setCap_eng (s : State) (y : Nat) (x : Option CapRun) : (s.setCap y x).eng = s.eng := rfl
@[simp] theorem State.setCap_tx (s : State) (y : Nat) (x : Option CapRun) : (s.setCap y x).tx = s.tx := rfl
@[simp] theorem State.setCap_flt (s : State) (y : Nat) (x : Option CapRun) : (s.setCap y x).flt = s.flt := rfl
@[simp] theorem State.setCap_frame (s : State) (y : Nat) (x : Option CapRun) : (s.setCap y x).frame = s.frame := rfl
@[simp] theorem State.setCap_acq (s : State) (y : Nat) (x : Option CapRun) : (s.setCap y x).acq = s.acq := rfl
@[simp] theorem State.setCap_rx (s : State) (y : Nat) (x : Option CapRun) : (s.setCap y x).rx = s.rx := rfl
@[simp] theorem State.setCap_trim (s : State) (y : Nat) (x : Option CapRun) : (s.setCap y x).trim = s.trim := rfl
@[simp] theorem State.setCap_jrn (s : State) (y : Nat) (x : Option CapRun) : (s.setCap y x).jrn = s.jrn := rfl
@[simp] theorem State.setCap_map (s : State) (y : Nat) (x : Option CapRun) : (s.setCap y x).map = s.map := rfl
@[simp] theorem State.setCap_haly (s : State) (y : Nat) (x : Option CapRun) : (s.setCap y x).haly = s.haly := rfl
@[simp] theorem State.setCap_pwr (s : State) (y : Nat) (x : Option CapRun) : (s.setCap y x).pwr = s.pwr := rfl
@[simp] theorem State.setCap_mem (s : State) (y : Nat) (x : Option CapRun) : (s.setCap y x).mem = s.mem := rfl
@[simp] theorem State.setCap_pair (s : State) (y : Nat) (x : Option CapRun) : (s.setCap y x).pair = s.pair := rfl
@[simp] theorem State.setCap_sec (s : State) (y : Nat) (x : Option CapRun) : (s.setCap y x).sec = s.sec := rfl

@[simp] theorem State.setDom_pending (s : State) (d : Nat) (x : DomSt) : (s.setDom d x).pending = s.pending := rfl
@[simp] theorem State.setDom_regs (s : State) (d : Nat) (x : DomSt) : (s.setDom d x).regs = s.regs := rfl
@[simp] theorem State.setDom_freeCtr (s : State) (d : Nat) (x : DomSt) : (s.setDom d x).freeCtr = s.freeCtr := rfl
@[simp] theorem State.setDom_staged (s : State) (d : Nat) (x : DomSt) : (s.setDom d x).staged = s.staged := rfl
@[simp] theorem State.setDom_time (s : State) (d : Nat) (x : DomSt) : (s.setDom d x).time = s.time := rfl
@[simp] theorem State.setDom_host (s : State) (d : Nat) (x : DomSt) : (s.setDom d x).host = s.host := rfl
@[simp] theorem State.setDom_eng (s : State) (d : Nat) (x : DomSt) : (s.setDom d x).eng = s.eng := rfl
@[simp] theorem State.setDom_tx (s : State) (d : Nat) (x : DomSt) : (s.setDom d x).tx = s.tx := rfl
@[simp] theorem State.setDom_flt (s : State) (d : Nat) (x : DomSt) : (s.setDom d x).flt = s.flt := rfl
@[simp] theorem State.setDom_frame (s : State) (d : Nat) (x : DomSt) : (s.setDom d x).frame = s.frame := rfl
@[simp] theorem State.setDom_acq (s : State) (d : Nat) (x : DomSt) : (s.setDom d x).acq = s.acq := rfl
@[simp] theorem State.setDom_rx (s : State) (d : Nat) (x : DomSt) : (s.setDom d x).rx = s.rx := rfl
@[simp] theorem State.setDom_trim (s : State) (d : Nat) (x : DomSt) : (s.setDom d x).trim = s.trim := rfl
@[simp] theorem State.setDom_jrn (s : State) (d : Nat) (x : DomSt) : (s.setDom d x).jrn = s.jrn := rfl
@[simp] theorem State.setDom_map (s : State) (d : Nat) (x : DomSt) : (s.setDom d x).map = s.map := rfl
@[simp] theorem State.setDom_haly (s : State) (d : Nat) (x : DomSt) : (s.setDom d x).haly = s.haly := rfl
@[simp] theorem State.setDom_mem (s : State) (d : Nat) (x : DomSt) : (s.setDom d x).mem = s.mem := rfl
@[simp] theorem State.setDom_pair (s : State) (d : Nat) (x : DomSt) : (s.setDom d x).pair = s.pair := rfl
@[simp] theorem State.setDom_sec (s : State) (d : Nat) (x : DomSt) : (s.setDom d x).sec = s.sec := rfl
@[simp] theorem State.setDom_obs (s : State) (d : Nat) (x : DomSt) : (s.setDom d x).obs = s.obs := rfl

@[simp] theorem State.setTrans_pending (s : State) (d v : Nat) : (s.setTrans d v).pending = s.pending := rfl
@[simp] theorem State.setTrans_freeCtr (s : State) (d v : Nat) : (s.setTrans d v).freeCtr = s.freeCtr := rfl
@[simp] theorem State.setTrans_staged (s : State) (d v : Nat) : (s.setTrans d v).staged = s.staged := rfl
@[simp] theorem State.setTrans_time (s : State) (d v : Nat) : (s.setTrans d v).time = s.time := rfl
@[simp] theorem State.setTrans_host (s : State) (d v : Nat) : (s.setTrans d v).host = s.host := rfl
@[simp] theorem State.setTrans_eng (s : State) (d v : Nat) : (s.setTrans d v).eng = s.eng := rfl
@[simp] theorem State.setTrans_tx (s : State) (d v : Nat) : (s.setTrans d v).tx = s.tx := rfl
@[simp] theorem State.setTrans_flt (s : State) (d v : Nat) : (s.setTrans d v).flt = s.flt := rfl
@[simp] theorem State.setTrans_frame (s : State) (d v : Nat) : (s.setTrans d v).frame = s.frame := rfl
@[simp] theorem State.setTrans_acq (s : State) (d v : Nat) : (s.setTrans d v).acq = s.acq := rfl
@[simp] theorem State.setTrans_rx (s : State) (d v : Nat) : (s.setTrans d v).rx = s.rx := rfl
@[simp] theorem State.setTrans_trim (s : State) (d v : Nat) : (s.setTrans d v).trim = s.trim := rfl
@[simp] theorem State.setTrans_jrn (s : State) (d v : Nat) : (s.setTrans d v).jrn = s.jrn := rfl
@[simp] theorem State.setTrans_map (s : State) (d v : Nat) : (s.setTrans d v).map = s.map := rfl
@[simp] theorem State.setTrans_haly (s : State) (d v : Nat) : (s.setTrans d v).haly = s.haly := rfl
@[simp] theorem State.setTrans_pwr (s : State) (d v : Nat) : (s.setTrans d v).pwr = s.pwr := rfl
@[simp] theorem State.setTrans_mem (s : State) (d v : Nat) : (s.setTrans d v).mem = s.mem := rfl
@[simp] theorem State.setTrans_pair (s : State) (d v : Nat) : (s.setTrans d v).pair = s.pair := rfl
@[simp] theorem State.setTrans_sec (s : State) (d v : Nat) : (s.setTrans d v).sec = s.sec := rfl
@[simp] theorem State.setTrans_obs (s : State) (d v : Nat) : (s.setTrans d v).obs = s.obs := rfl

@[simp] theorem State.setRxl_pending (s : State) (o l : Nat) (x : RxLane) : (s.setRxl o l x).pending = s.pending := rfl
@[simp] theorem State.setRxl_regs (s : State) (o l : Nat) (x : RxLane) : (s.setRxl o l x).regs = s.regs := rfl
@[simp] theorem State.setRxl_freeCtr (s : State) (o l : Nat) (x : RxLane) : (s.setRxl o l x).freeCtr = s.freeCtr := rfl
@[simp] theorem State.setRxl_staged (s : State) (o l : Nat) (x : RxLane) : (s.setRxl o l x).staged = s.staged := rfl
@[simp] theorem State.setRxl_time (s : State) (o l : Nat) (x : RxLane) : (s.setRxl o l x).time = s.time := rfl
@[simp] theorem State.setRxl_host (s : State) (o l : Nat) (x : RxLane) : (s.setRxl o l x).host = s.host := rfl
@[simp] theorem State.setRxl_eng (s : State) (o l : Nat) (x : RxLane) : (s.setRxl o l x).eng = s.eng := rfl
@[simp] theorem State.setRxl_tx (s : State) (o l : Nat) (x : RxLane) : (s.setRxl o l x).tx = s.tx := rfl
@[simp] theorem State.setRxl_flt (s : State) (o l : Nat) (x : RxLane) : (s.setRxl o l x).flt = s.flt := rfl
@[simp] theorem State.setRxl_frame (s : State) (o l : Nat) (x : RxLane) : (s.setRxl o l x).frame = s.frame := rfl
@[simp] theorem State.setRxl_acq (s : State) (o l : Nat) (x : RxLane) : (s.setRxl o l x).acq = s.acq := rfl
@[simp] theorem State.setRxl_trim (s : State) (o l : Nat) (x : RxLane) : (s.setRxl o l x).trim = s.trim := rfl
@[simp] theorem State.setRxl_jrn (s : State) (o l : Nat) (x : RxLane) : (s.setRxl o l x).jrn = s.jrn := rfl
@[simp] theorem State.setRxl_map (s : State) (o l : Nat) (x : RxLane) : (s.setRxl o l x).map = s.map := rfl
@[simp] theorem State.setRxl_haly (s : State) (o l : Nat) (x : RxLane) : (s.setRxl o l x).haly = s.haly := rfl
@[simp] theorem State.setRxl_pwr (s : State) (o l : Nat) (x : RxLane) : (s.setRxl o l x).pwr = s.pwr := rfl
@[simp] theorem State.setRxl_mem (s : State) (o l : Nat) (x : RxLane) : (s.setRxl o l x).mem = s.mem := rfl
@[simp] theorem State.setRxl_pair (s : State) (o l : Nat) (x : RxLane) : (s.setRxl o l x).pair = s.pair := rfl
@[simp] theorem State.setRxl_sec (s : State) (o l : Nat) (x : RxLane) : (s.setRxl o l x).sec = s.sec := rfl
@[simp] theorem State.setRxl_obs (s : State) (o l : Nat) (x : RxLane) : (s.setRxl o l x).obs = s.obs := rfl

@[simp] theorem State.setSwaps_pending (s : State) (o : Nat) (x : List Swap) : (s.setSwaps o x).pending = s.pending := rfl
@[simp] theorem State.setSwaps_regs (s : State) (o : Nat) (x : List Swap) : (s.setSwaps o x).regs = s.regs := rfl
@[simp] theorem State.setSwaps_freeCtr (s : State) (o : Nat) (x : List Swap) : (s.setSwaps o x).freeCtr = s.freeCtr := rfl
@[simp] theorem State.setSwaps_staged (s : State) (o : Nat) (x : List Swap) : (s.setSwaps o x).staged = s.staged := rfl
@[simp] theorem State.setSwaps_time (s : State) (o : Nat) (x : List Swap) : (s.setSwaps o x).time = s.time := rfl
@[simp] theorem State.setSwaps_host (s : State) (o : Nat) (x : List Swap) : (s.setSwaps o x).host = s.host := rfl
@[simp] theorem State.setSwaps_eng (s : State) (o : Nat) (x : List Swap) : (s.setSwaps o x).eng = s.eng := rfl
@[simp] theorem State.setSwaps_tx (s : State) (o : Nat) (x : List Swap) : (s.setSwaps o x).tx = s.tx := rfl
@[simp] theorem State.setSwaps_flt (s : State) (o : Nat) (x : List Swap) : (s.setSwaps o x).flt = s.flt := rfl
@[simp] theorem State.setSwaps_frame (s : State) (o : Nat) (x : List Swap) : (s.setSwaps o x).frame = s.frame := rfl
@[simp] theorem State.setSwaps_acq (s : State) (o : Nat) (x : List Swap) : (s.setSwaps o x).acq = s.acq := rfl
@[simp] theorem State.setSwaps_trim (s : State) (o : Nat) (x : List Swap) : (s.setSwaps o x).trim = s.trim := rfl
@[simp] theorem State.setSwaps_jrn (s : State) (o : Nat) (x : List Swap) : (s.setSwaps o x).jrn = s.jrn := rfl
@[simp] theorem State.setSwaps_map (s : State) (o : Nat) (x : List Swap) : (s.setSwaps o x).map = s.map := rfl
@[simp] theorem State.setSwaps_haly (s : State) (o : Nat) (x : List Swap) : (s.setSwaps o x).haly = s.haly := rfl
@[simp] theorem State.setSwaps_pwr (s : State) (o : Nat) (x : List Swap) : (s.setSwaps o x).pwr = s.pwr := rfl
@[simp] theorem State.setSwaps_mem (s : State) (o : Nat) (x : List Swap) : (s.setSwaps o x).mem = s.mem := rfl
@[simp] theorem State.setSwaps_pair (s : State) (o : Nat) (x : List Swap) : (s.setSwaps o x).pair = s.pair := rfl
@[simp] theorem State.setSwaps_sec (s : State) (o : Nat) (x : List Swap) : (s.setSwaps o x).sec = s.sec := rfl
@[simp] theorem State.setSwaps_obs (s : State) (o : Nat) (x : List Swap) : (s.setSwaps o x).obs = s.obs := rfl

@[simp] theorem State.setSlo_pending (s : State) (g i : Nat) (x : SlotLane) : (s.setSlo g i x).pending = s.pending := rfl
@[simp] theorem State.setSlo_regs (s : State) (g i : Nat) (x : SlotLane) : (s.setSlo g i x).regs = s.regs := rfl
@[simp] theorem State.setSlo_freeCtr (s : State) (g i : Nat) (x : SlotLane) : (s.setSlo g i x).freeCtr = s.freeCtr := rfl
@[simp] theorem State.setSlo_staged (s : State) (g i : Nat) (x : SlotLane) : (s.setSlo g i x).staged = s.staged := rfl
@[simp] theorem State.setSlo_time (s : State) (g i : Nat) (x : SlotLane) : (s.setSlo g i x).time = s.time := rfl
@[simp] theorem State.setSlo_host (s : State) (g i : Nat) (x : SlotLane) : (s.setSlo g i x).host = s.host := rfl
@[simp] theorem State.setSlo_eng (s : State) (g i : Nat) (x : SlotLane) : (s.setSlo g i x).eng = s.eng := rfl
@[simp] theorem State.setSlo_tx (s : State) (g i : Nat) (x : SlotLane) : (s.setSlo g i x).tx = s.tx := rfl
@[simp] theorem State.setSlo_flt (s : State) (g i : Nat) (x : SlotLane) : (s.setSlo g i x).flt = s.flt := rfl
@[simp] theorem State.setSlo_frame (s : State) (g i : Nat) (x : SlotLane) : (s.setSlo g i x).frame = s.frame := rfl
@[simp] theorem State.setSlo_acq (s : State) (g i : Nat) (x : SlotLane) : (s.setSlo g i x).acq = s.acq := rfl
@[simp] theorem State.setSlo_rx (s : State) (g i : Nat) (x : SlotLane) : (s.setSlo g i x).rx = s.rx := rfl
@[simp] theorem State.setSlo_trim (s : State) (g i : Nat) (x : SlotLane) : (s.setSlo g i x).trim = s.trim := rfl
@[simp] theorem State.setSlo_jrn (s : State) (g i : Nat) (x : SlotLane) : (s.setSlo g i x).jrn = s.jrn := rfl
@[simp] theorem State.setSlo_haly (s : State) (g i : Nat) (x : SlotLane) : (s.setSlo g i x).haly = s.haly := rfl
@[simp] theorem State.setSlo_pwr (s : State) (g i : Nat) (x : SlotLane) : (s.setSlo g i x).pwr = s.pwr := rfl
@[simp] theorem State.setSlo_mem (s : State) (g i : Nat) (x : SlotLane) : (s.setSlo g i x).mem = s.mem := rfl
@[simp] theorem State.setSlo_pair (s : State) (g i : Nat) (x : SlotLane) : (s.setSlo g i x).pair = s.pair := rfl
@[simp] theorem State.setSlo_sec (s : State) (g i : Nat) (x : SlotLane) : (s.setSlo g i x).sec = s.sec := rfl
@[simp] theorem State.setSlo_obs (s : State) (g i : Nat) (x : SlotLane) : (s.setSlo g i x).obs = s.obs := rfl

@[simp] theorem State.setTu_pending (s : State) (u : Nat) (x : TrimUnit) : (s.setTu u x).pending = s.pending := rfl
@[simp] theorem State.setTu_regs (s : State) (u : Nat) (x : TrimUnit) : (s.setTu u x).regs = s.regs := rfl
@[simp] theorem State.setTu_freeCtr (s : State) (u : Nat) (x : TrimUnit) : (s.setTu u x).freeCtr = s.freeCtr := rfl
@[simp] theorem State.setTu_staged (s : State) (u : Nat) (x : TrimUnit) : (s.setTu u x).staged = s.staged := rfl
@[simp] theorem State.setTu_time (s : State) (u : Nat) (x : TrimUnit) : (s.setTu u x).time = s.time := rfl
@[simp] theorem State.setTu_host (s : State) (u : Nat) (x : TrimUnit) : (s.setTu u x).host = s.host := rfl
@[simp] theorem State.setTu_eng (s : State) (u : Nat) (x : TrimUnit) : (s.setTu u x).eng = s.eng := rfl
@[simp] theorem State.setTu_tx (s : State) (u : Nat) (x : TrimUnit) : (s.setTu u x).tx = s.tx := rfl
@[simp] theorem State.setTu_flt (s : State) (u : Nat) (x : TrimUnit) : (s.setTu u x).flt = s.flt := rfl
@[simp] theorem State.setTu_frame (s : State) (u : Nat) (x : TrimUnit) : (s.setTu u x).frame = s.frame := rfl
@[simp] theorem State.setTu_acq (s : State) (u : Nat) (x : TrimUnit) : (s.setTu u x).acq = s.acq := rfl
@[simp] theorem State.setTu_rx (s : State) (u : Nat) (x : TrimUnit) : (s.setTu u x).rx = s.rx := rfl
@[simp] theorem State.setTu_jrn (s : State) (u : Nat) (x : TrimUnit) : (s.setTu u x).jrn = s.jrn := rfl
@[simp] theorem State.setTu_map (s : State) (u : Nat) (x : TrimUnit) : (s.setTu u x).map = s.map := rfl
@[simp] theorem State.setTu_haly (s : State) (u : Nat) (x : TrimUnit) : (s.setTu u x).haly = s.haly := rfl
@[simp] theorem State.setTu_pwr (s : State) (u : Nat) (x : TrimUnit) : (s.setTu u x).pwr = s.pwr := rfl
@[simp] theorem State.setTu_mem (s : State) (u : Nat) (x : TrimUnit) : (s.setTu u x).mem = s.mem := rfl
@[simp] theorem State.setTu_pair (s : State) (u : Nat) (x : TrimUnit) : (s.setTu u x).pair = s.pair := rfl
@[simp] theorem State.setTu_sec (s : State) (u : Nat) (x : TrimUnit) : (s.setTu u x).sec = s.sec := rfl
@[simp] theorem State.setTu_obs (s : State) (u : Nat) (x : TrimUnit) : (s.setTu u x).obs = s.obs := rfl

@[simp] theorem State.setPl_pending (s : State) (o l : Nat) (x : PlanLane) : (s.setPl o l x).pending = s.pending := rfl
@[simp] theorem State.setPl_regs (s : State) (o l : Nat) (x : PlanLane) : (s.setPl o l x).regs = s.regs := rfl
@[simp] theorem State.setPl_freeCtr (s : State) (o l : Nat) (x : PlanLane) : (s.setPl o l x).freeCtr = s.freeCtr := rfl
@[simp] theorem State.setPl_staged (s : State) (o l : Nat) (x : PlanLane) : (s.setPl o l x).staged = s.staged := rfl
@[simp] theorem State.setPl_time (s : State) (o l : Nat) (x : PlanLane) : (s.setPl o l x).time = s.time := rfl
@[simp] theorem State.setPl_host (s : State) (o l : Nat) (x : PlanLane) : (s.setPl o l x).host = s.host := rfl
@[simp] theorem State.setPl_eng (s : State) (o l : Nat) (x : PlanLane) : (s.setPl o l x).eng = s.eng := rfl
@[simp] theorem State.setPl_tx (s : State) (o l : Nat) (x : PlanLane) : (s.setPl o l x).tx = s.tx := rfl
@[simp] theorem State.setPl_flt (s : State) (o l : Nat) (x : PlanLane) : (s.setPl o l x).flt = s.flt := rfl
@[simp] theorem State.setPl_frame (s : State) (o l : Nat) (x : PlanLane) : (s.setPl o l x).frame = s.frame := rfl
@[simp] theorem State.setPl_acq (s : State) (o l : Nat) (x : PlanLane) : (s.setPl o l x).acq = s.acq := rfl
@[simp] theorem State.setPl_rx (s : State) (o l : Nat) (x : PlanLane) : (s.setPl o l x).rx = s.rx := rfl
@[simp] theorem State.setPl_jrn (s : State) (o l : Nat) (x : PlanLane) : (s.setPl o l x).jrn = s.jrn := rfl
@[simp] theorem State.setPl_map (s : State) (o l : Nat) (x : PlanLane) : (s.setPl o l x).map = s.map := rfl
@[simp] theorem State.setPl_haly (s : State) (o l : Nat) (x : PlanLane) : (s.setPl o l x).haly = s.haly := rfl
@[simp] theorem State.setPl_pwr (s : State) (o l : Nat) (x : PlanLane) : (s.setPl o l x).pwr = s.pwr := rfl
@[simp] theorem State.setPl_mem (s : State) (o l : Nat) (x : PlanLane) : (s.setPl o l x).mem = s.mem := rfl
@[simp] theorem State.setPl_pair (s : State) (o l : Nat) (x : PlanLane) : (s.setPl o l x).pair = s.pair := rfl
@[simp] theorem State.setPl_sec (s : State) (o l : Nat) (x : PlanLane) : (s.setPl o l x).sec = s.sec := rfl
@[simp] theorem State.setPl_obs (s : State) (o l : Nat) (x : PlanLane) : (s.setPl o l x).obs = s.obs := rfl

@[simp] theorem State.setTxl_pending (s : State) (o l : Nat) (x : TxLane) : (s.setTxl o l x).pending = s.pending := rfl
@[simp] theorem State.setTxl_regs (s : State) (o l : Nat) (x : TxLane) : (s.setTxl o l x).regs = s.regs := rfl
@[simp] theorem State.setTxl_freeCtr (s : State) (o l : Nat) (x : TxLane) : (s.setTxl o l x).freeCtr = s.freeCtr := rfl
@[simp] theorem State.setTxl_staged (s : State) (o l : Nat) (x : TxLane) : (s.setTxl o l x).staged = s.staged := rfl
@[simp] theorem State.setTxl_time (s : State) (o l : Nat) (x : TxLane) : (s.setTxl o l x).time = s.time := rfl
@[simp] theorem State.setTxl_host (s : State) (o l : Nat) (x : TxLane) : (s.setTxl o l x).host = s.host := rfl
@[simp] theorem State.setTxl_eng (s : State) (o l : Nat) (x : TxLane) : (s.setTxl o l x).eng = s.eng := rfl
@[simp] theorem State.setTxl_flt (s : State) (o l : Nat) (x : TxLane) : (s.setTxl o l x).flt = s.flt := rfl
@[simp] theorem State.setTxl_frame (s : State) (o l : Nat) (x : TxLane) : (s.setTxl o l x).frame = s.frame := rfl
@[simp] theorem State.setTxl_acq (s : State) (o l : Nat) (x : TxLane) : (s.setTxl o l x).acq = s.acq := rfl
@[simp] theorem State.setTxl_rx (s : State) (o l : Nat) (x : TxLane) : (s.setTxl o l x).rx = s.rx := rfl
@[simp] theorem State.setTxl_trim (s : State) (o l : Nat) (x : TxLane) : (s.setTxl o l x).trim = s.trim := rfl
@[simp] theorem State.setTxl_jrn (s : State) (o l : Nat) (x : TxLane) : (s.setTxl o l x).jrn = s.jrn := rfl
@[simp] theorem State.setTxl_map (s : State) (o l : Nat) (x : TxLane) : (s.setTxl o l x).map = s.map := rfl
@[simp] theorem State.setTxl_haly (s : State) (o l : Nat) (x : TxLane) : (s.setTxl o l x).haly = s.haly := rfl
@[simp] theorem State.setTxl_pwr (s : State) (o l : Nat) (x : TxLane) : (s.setTxl o l x).pwr = s.pwr := rfl
@[simp] theorem State.setTxl_mem (s : State) (o l : Nat) (x : TxLane) : (s.setTxl o l x).mem = s.mem := rfl
@[simp] theorem State.setTxl_pair (s : State) (o l : Nat) (x : TxLane) : (s.setTxl o l x).pair = s.pair := rfl
@[simp] theorem State.setTxl_sec (s : State) (o l : Nat) (x : TxLane) : (s.setTxl o l x).sec = s.sec := rfl
@[simp] theorem State.setTxl_obs (s : State) (o l : Nat) (x : TxLane) : (s.setTxl o l x).obs = s.obs := rfl

@[simp] theorem State.setTxo_pending (s : State) (o : Nat) (x : TxOct) : (s.setTxo o x).pending = s.pending := rfl
@[simp] theorem State.setTxo_regs (s : State) (o : Nat) (x : TxOct) : (s.setTxo o x).regs = s.regs := rfl
@[simp] theorem State.setTxo_freeCtr (s : State) (o : Nat) (x : TxOct) : (s.setTxo o x).freeCtr = s.freeCtr := rfl
@[simp] theorem State.setTxo_staged (s : State) (o : Nat) (x : TxOct) : (s.setTxo o x).staged = s.staged := rfl
@[simp] theorem State.setTxo_time (s : State) (o : Nat) (x : TxOct) : (s.setTxo o x).time = s.time := rfl
@[simp] theorem State.setTxo_host (s : State) (o : Nat) (x : TxOct) : (s.setTxo o x).host = s.host := rfl
@[simp] theorem State.setTxo_eng (s : State) (o : Nat) (x : TxOct) : (s.setTxo o x).eng = s.eng := rfl
@[simp] theorem State.setTxo_flt (s : State) (o : Nat) (x : TxOct) : (s.setTxo o x).flt = s.flt := rfl
@[simp] theorem State.setTxo_frame (s : State) (o : Nat) (x : TxOct) : (s.setTxo o x).frame = s.frame := rfl
@[simp] theorem State.setTxo_acq (s : State) (o : Nat) (x : TxOct) : (s.setTxo o x).acq = s.acq := rfl
@[simp] theorem State.setTxo_rx (s : State) (o : Nat) (x : TxOct) : (s.setTxo o x).rx = s.rx := rfl
@[simp] theorem State.setTxo_trim (s : State) (o : Nat) (x : TxOct) : (s.setTxo o x).trim = s.trim := rfl
@[simp] theorem State.setTxo_jrn (s : State) (o : Nat) (x : TxOct) : (s.setTxo o x).jrn = s.jrn := rfl
@[simp] theorem State.setTxo_map (s : State) (o : Nat) (x : TxOct) : (s.setTxo o x).map = s.map := rfl
@[simp] theorem State.setTxo_haly (s : State) (o : Nat) (x : TxOct) : (s.setTxo o x).haly = s.haly := rfl
@[simp] theorem State.setTxo_pwr (s : State) (o : Nat) (x : TxOct) : (s.setTxo o x).pwr = s.pwr := rfl
@[simp] theorem State.setTxo_mem (s : State) (o : Nat) (x : TxOct) : (s.setTxo o x).mem = s.mem := rfl
@[simp] theorem State.setTxo_pair (s : State) (o : Nat) (x : TxOct) : (s.setTxo o x).pair = s.pair := rfl
@[simp] theorem State.setTxo_sec (s : State) (o : Nat) (x : TxOct) : (s.setTxo o x).sec = s.sec := rfl
@[simp] theorem State.setTxo_obs (s : State) (o : Nat) (x : TxOct) : (s.setTxo o x).obs = s.obs := rfl

@[simp] theorem State.setCur_pending (s : State) (o l : Nat) (r : LaunchReq) : (s.setCur o l r).pending = s.pending := rfl
@[simp] theorem State.setCur_regs (s : State) (o l : Nat) (r : LaunchReq) : (s.setCur o l r).regs = s.regs := rfl
@[simp] theorem State.setCur_freeCtr (s : State) (o l : Nat) (r : LaunchReq) : (s.setCur o l r).freeCtr = s.freeCtr := rfl
@[simp] theorem State.setCur_staged (s : State) (o l : Nat) (r : LaunchReq) : (s.setCur o l r).staged = s.staged := rfl
@[simp] theorem State.setCur_time (s : State) (o l : Nat) (r : LaunchReq) : (s.setCur o l r).time = s.time := rfl
@[simp] theorem State.setCur_host (s : State) (o l : Nat) (r : LaunchReq) : (s.setCur o l r).host = s.host := rfl
@[simp] theorem State.setCur_eng (s : State) (o l : Nat) (r : LaunchReq) : (s.setCur o l r).eng = s.eng := rfl
@[simp] theorem State.setCur_flt (s : State) (o l : Nat) (r : LaunchReq) : (s.setCur o l r).flt = s.flt := rfl
@[simp] theorem State.setCur_frame (s : State) (o l : Nat) (r : LaunchReq) : (s.setCur o l r).frame = s.frame := rfl
@[simp] theorem State.setCur_acq (s : State) (o l : Nat) (r : LaunchReq) : (s.setCur o l r).acq = s.acq := rfl
@[simp] theorem State.setCur_rx (s : State) (o l : Nat) (r : LaunchReq) : (s.setCur o l r).rx = s.rx := rfl
@[simp] theorem State.setCur_trim (s : State) (o l : Nat) (r : LaunchReq) : (s.setCur o l r).trim = s.trim := rfl
@[simp] theorem State.setCur_jrn (s : State) (o l : Nat) (r : LaunchReq) : (s.setCur o l r).jrn = s.jrn := rfl
@[simp] theorem State.setCur_map (s : State) (o l : Nat) (r : LaunchReq) : (s.setCur o l r).map = s.map := rfl
@[simp] theorem State.setCur_haly (s : State) (o l : Nat) (r : LaunchReq) : (s.setCur o l r).haly = s.haly := rfl
@[simp] theorem State.setCur_pwr (s : State) (o l : Nat) (r : LaunchReq) : (s.setCur o l r).pwr = s.pwr := rfl
@[simp] theorem State.setCur_mem (s : State) (o l : Nat) (r : LaunchReq) : (s.setCur o l r).mem = s.mem := rfl
@[simp] theorem State.setCur_pair (s : State) (o l : Nat) (r : LaunchReq) : (s.setCur o l r).pair = s.pair := rfl
@[simp] theorem State.setCur_sec (s : State) (o l : Nat) (r : LaunchReq) : (s.setCur o l r).sec = s.sec := rfl
@[simp] theorem State.setCur_obs (s : State) (o l : Nat) (r : LaunchReq) : (s.setCur o l r).obs = s.obs := rfl

@[simp] theorem State.setFltState_pending (s : State) (k u l v : Nat) : (s.setFltState k u l v).pending = s.pending := rfl
@[simp] theorem State.setFltState_freeCtr (s : State) (k u l v : Nat) : (s.setFltState k u l v).freeCtr = s.freeCtr := rfl
@[simp] theorem State.setFltState_staged (s : State) (k u l v : Nat) : (s.setFltState k u l v).staged = s.staged := rfl
@[simp] theorem State.setFltState_time (s : State) (k u l v : Nat) : (s.setFltState k u l v).time = s.time := rfl
@[simp] theorem State.setFltState_host (s : State) (k u l v : Nat) : (s.setFltState k u l v).host = s.host := rfl
@[simp] theorem State.setFltState_eng (s : State) (k u l v : Nat) : (s.setFltState k u l v).eng = s.eng := rfl
@[simp] theorem State.setFltState_tx (s : State) (k u l v : Nat) : (s.setFltState k u l v).tx = s.tx := rfl
@[simp] theorem State.setFltState_flt (s : State) (k u l v : Nat) : (s.setFltState k u l v).flt = s.flt := rfl
@[simp] theorem State.setFltState_frame (s : State) (k u l v : Nat) : (s.setFltState k u l v).frame = s.frame := rfl
@[simp] theorem State.setFltState_acq (s : State) (k u l v : Nat) : (s.setFltState k u l v).acq = s.acq := rfl
@[simp] theorem State.setFltState_rx (s : State) (k u l v : Nat) : (s.setFltState k u l v).rx = s.rx := rfl
@[simp] theorem State.setFltState_trim (s : State) (k u l v : Nat) : (s.setFltState k u l v).trim = s.trim := rfl
@[simp] theorem State.setFltState_jrn (s : State) (k u l v : Nat) : (s.setFltState k u l v).jrn = s.jrn := rfl
@[simp] theorem State.setFltState_map (s : State) (k u l v : Nat) : (s.setFltState k u l v).map = s.map := rfl
@[simp] theorem State.setFltState_haly (s : State) (k u l v : Nat) : (s.setFltState k u l v).haly = s.haly := rfl
@[simp] theorem State.setFltState_pwr (s : State) (k u l v : Nat) : (s.setFltState k u l v).pwr = s.pwr := rfl
@[simp] theorem State.setFltState_mem (s : State) (k u l v : Nat) : (s.setFltState k u l v).mem = s.mem := rfl
@[simp] theorem State.setFltState_pair (s : State) (k u l v : Nat) : (s.setFltState k u l v).pair = s.pair := rfl
@[simp] theorem State.setFltState_sec (s : State) (k u l v : Nat) : (s.setFltState k u l v).sec = s.sec := rfl
@[simp] theorem State.setFltState_obs (s : State) (k u l v : Nat) : (s.setFltState k u l v).obs = s.obs := rfl

@[simp] theorem State.setBootStage_pending (s : State) (v : Nat) : (s.setBootStage v).pending = s.pending := rfl
@[simp] theorem State.setBootStage_freeCtr (s : State) (v : Nat) : (s.setBootStage v).freeCtr = s.freeCtr := rfl
@[simp] theorem State.setBootStage_staged (s : State) (v : Nat) : (s.setBootStage v).staged = s.staged := rfl
@[simp] theorem State.setBootStage_time (s : State) (v : Nat) : (s.setBootStage v).time = s.time := rfl
@[simp] theorem State.setBootStage_host (s : State) (v : Nat) : (s.setBootStage v).host = s.host := rfl
@[simp] theorem State.setBootStage_eng (s : State) (v : Nat) : (s.setBootStage v).eng = s.eng := rfl
@[simp] theorem State.setBootStage_tx (s : State) (v : Nat) : (s.setBootStage v).tx = s.tx := rfl
@[simp] theorem State.setBootStage_flt (s : State) (v : Nat) : (s.setBootStage v).flt = s.flt := rfl
@[simp] theorem State.setBootStage_frame (s : State) (v : Nat) : (s.setBootStage v).frame = s.frame := rfl
@[simp] theorem State.setBootStage_acq (s : State) (v : Nat) : (s.setBootStage v).acq = s.acq := rfl
@[simp] theorem State.setBootStage_rx (s : State) (v : Nat) : (s.setBootStage v).rx = s.rx := rfl
@[simp] theorem State.setBootStage_trim (s : State) (v : Nat) : (s.setBootStage v).trim = s.trim := rfl
@[simp] theorem State.setBootStage_jrn (s : State) (v : Nat) : (s.setBootStage v).jrn = s.jrn := rfl
@[simp] theorem State.setBootStage_map (s : State) (v : Nat) : (s.setBootStage v).map = s.map := rfl
@[simp] theorem State.setBootStage_haly (s : State) (v : Nat) : (s.setBootStage v).haly = s.haly := rfl
@[simp] theorem State.setBootStage_pwr (s : State) (v : Nat) : (s.setBootStage v).pwr = s.pwr := rfl
@[simp] theorem State.setBootStage_mem (s : State) (v : Nat) : (s.setBootStage v).mem = s.mem := rfl
@[simp] theorem State.setBootStage_pair (s : State) (v : Nat) : (s.setBootStage v).pair = s.pair := rfl
@[simp] theorem State.setBootStage_sec (s : State) (v : Nat) : (s.setBootStage v).sec = s.sec := rfl
@[simp] theorem State.setBootStage_obs (s : State) (v : Nat) : (s.setBootStage v).obs = s.obs := rfl

@[simp] theorem State.setLastFault_pending (s : State) (v : Nat) : (s.setLastFault v).pending = s.pending := rfl
@[simp] theorem State.setLastFault_freeCtr (s : State) (v : Nat) : (s.setLastFault v).freeCtr = s.freeCtr := rfl
@[simp] theorem State.setLastFault_staged (s : State) (v : Nat) : (s.setLastFault v).staged = s.staged := rfl
@[simp] theorem State.setLastFault_time (s : State) (v : Nat) : (s.setLastFault v).time = s.time := rfl
@[simp] theorem State.setLastFault_host (s : State) (v : Nat) : (s.setLastFault v).host = s.host := rfl
@[simp] theorem State.setLastFault_eng (s : State) (v : Nat) : (s.setLastFault v).eng = s.eng := rfl
@[simp] theorem State.setLastFault_tx (s : State) (v : Nat) : (s.setLastFault v).tx = s.tx := rfl
@[simp] theorem State.setLastFault_flt (s : State) (v : Nat) : (s.setLastFault v).flt = s.flt := rfl
@[simp] theorem State.setLastFault_frame (s : State) (v : Nat) : (s.setLastFault v).frame = s.frame := rfl
@[simp] theorem State.setLastFault_acq (s : State) (v : Nat) : (s.setLastFault v).acq = s.acq := rfl
@[simp] theorem State.setLastFault_rx (s : State) (v : Nat) : (s.setLastFault v).rx = s.rx := rfl
@[simp] theorem State.setLastFault_trim (s : State) (v : Nat) : (s.setLastFault v).trim = s.trim := rfl
@[simp] theorem State.setLastFault_jrn (s : State) (v : Nat) : (s.setLastFault v).jrn = s.jrn := rfl
@[simp] theorem State.setLastFault_map (s : State) (v : Nat) : (s.setLastFault v).map = s.map := rfl
@[simp] theorem State.setLastFault_haly (s : State) (v : Nat) : (s.setLastFault v).haly = s.haly := rfl
@[simp] theorem State.setLastFault_pwr (s : State) (v : Nat) : (s.setLastFault v).pwr = s.pwr := rfl
@[simp] theorem State.setLastFault_mem (s : State) (v : Nat) : (s.setLastFault v).mem = s.mem := rfl
@[simp] theorem State.setLastFault_pair (s : State) (v : Nat) : (s.setLastFault v).pair = s.pair := rfl
@[simp] theorem State.setLastFault_sec (s : State) (v : Nat) : (s.setLastFault v).sec = s.sec := rfl
@[simp] theorem State.setLastFault_obs (s : State) (v : Nat) : (s.setLastFault v).obs = s.obs := rfl

@[simp] theorem State.setChk_pending (s : State) (k : Nat) (x : ChkSt) : (s.setChk k x).pending = s.pending := rfl
@[simp] theorem State.setChk_regs (s : State) (k : Nat) (x : ChkSt) : (s.setChk k x).regs = s.regs := rfl
@[simp] theorem State.setChk_freeCtr (s : State) (k : Nat) (x : ChkSt) : (s.setChk k x).freeCtr = s.freeCtr := rfl
@[simp] theorem State.setChk_staged (s : State) (k : Nat) (x : ChkSt) : (s.setChk k x).staged = s.staged := rfl
@[simp] theorem State.setChk_time (s : State) (k : Nat) (x : ChkSt) : (s.setChk k x).time = s.time := rfl
@[simp] theorem State.setChk_host (s : State) (k : Nat) (x : ChkSt) : (s.setChk k x).host = s.host := rfl
@[simp] theorem State.setChk_eng (s : State) (k : Nat) (x : ChkSt) : (s.setChk k x).eng = s.eng := rfl
@[simp] theorem State.setChk_tx (s : State) (k : Nat) (x : ChkSt) : (s.setChk k x).tx = s.tx := rfl
@[simp] theorem State.setChk_flt (s : State) (k : Nat) (x : ChkSt) : (s.setChk k x).flt = s.flt := rfl
@[simp] theorem State.setChk_frame (s : State) (k : Nat) (x : ChkSt) : (s.setChk k x).frame = s.frame := rfl
@[simp] theorem State.setChk_acq (s : State) (k : Nat) (x : ChkSt) : (s.setChk k x).acq = s.acq := rfl
@[simp] theorem State.setChk_rx (s : State) (k : Nat) (x : ChkSt) : (s.setChk k x).rx = s.rx := rfl
@[simp] theorem State.setChk_trim (s : State) (k : Nat) (x : ChkSt) : (s.setChk k x).trim = s.trim := rfl
@[simp] theorem State.setChk_jrn (s : State) (k : Nat) (x : ChkSt) : (s.setChk k x).jrn = s.jrn := rfl
@[simp] theorem State.setChk_map (s : State) (k : Nat) (x : ChkSt) : (s.setChk k x).map = s.map := rfl
@[simp] theorem State.setChk_haly (s : State) (k : Nat) (x : ChkSt) : (s.setChk k x).haly = s.haly := rfl
@[simp] theorem State.setChk_pwr (s : State) (k : Nat) (x : ChkSt) : (s.setChk k x).pwr = s.pwr := rfl
@[simp] theorem State.setChk_mem (s : State) (k : Nat) (x : ChkSt) : (s.setChk k x).mem = s.mem := rfl
@[simp] theorem State.setChk_pair (s : State) (k : Nat) (x : ChkSt) : (s.setChk k x).pair = s.pair := rfl
@[simp] theorem State.setChk_sec (s : State) (k : Nat) (x : ChkSt) : (s.setChk k x).sec = s.sec := rfl


@[simp] theorem State.setPath_pending (s : State) (c : Nat) (x : CliPath) : (s.setPath c x).pending = s.pending := rfl
@[simp] theorem State.setPath_regs (s : State) (c : Nat) (x : CliPath) : (s.setPath c x).regs = s.regs := rfl
@[simp] theorem State.setPath_freeCtr (s : State) (c : Nat) (x : CliPath) : (s.setPath c x).freeCtr = s.freeCtr := rfl
@[simp] theorem State.setPath_staged (s : State) (c : Nat) (x : CliPath) : (s.setPath c x).staged = s.staged := rfl
@[simp] theorem State.setPath_time (s : State) (c : Nat) (x : CliPath) : (s.setPath c x).time = s.time := rfl
@[simp] theorem State.setPath_host (s : State) (c : Nat) (x : CliPath) : (s.setPath c x).host = s.host := rfl
@[simp] theorem State.setPath_eng (s : State) (c : Nat) (x : CliPath) : (s.setPath c x).eng = s.eng := rfl
@[simp] theorem State.setPath_tx (s : State) (c : Nat) (x : CliPath) : (s.setPath c x).tx = s.tx := rfl
@[simp] theorem State.setPath_flt (s : State) (c : Nat) (x : CliPath) : (s.setPath c x).flt = s.flt := rfl
@[simp] theorem State.setPath_frame (s : State) (c : Nat) (x : CliPath) : (s.setPath c x).frame = s.frame := rfl
@[simp] theorem State.setPath_acq (s : State) (c : Nat) (x : CliPath) : (s.setPath c x).acq = s.acq := rfl
@[simp] theorem State.setPath_rx (s : State) (c : Nat) (x : CliPath) : (s.setPath c x).rx = s.rx := rfl
@[simp] theorem State.setPath_trim (s : State) (c : Nat) (x : CliPath) : (s.setPath c x).trim = s.trim := rfl
@[simp] theorem State.setPath_jrn (s : State) (c : Nat) (x : CliPath) : (s.setPath c x).jrn = s.jrn := rfl
@[simp] theorem State.setPath_haly (s : State) (c : Nat) (x : CliPath) : (s.setPath c x).haly = s.haly := rfl
@[simp] theorem State.setPath_pwr (s : State) (c : Nat) (x : CliPath) : (s.setPath c x).pwr = s.pwr := rfl
@[simp] theorem State.setPath_mem (s : State) (c : Nat) (x : CliPath) : (s.setPath c x).mem = s.mem := rfl
@[simp] theorem State.setPath_pair (s : State) (c : Nat) (x : CliPath) : (s.setPath c x).pair = s.pair := rfl
@[simp] theorem State.setPath_sec (s : State) (c : Nat) (x : CliPath) : (s.setPath c x).sec = s.sec := rfl
@[simp] theorem State.setPath_obs (s : State) (c : Nat) (x : CliPath) : (s.setPath c x).obs = s.obs := rfl

@[simp] theorem State.setMon_pending (s : State) (o l : Nat) (x : MonSt) : (s.setMon o l x).pending = s.pending := rfl
@[simp] theorem State.setMon_regs (s : State) (o l : Nat) (x : MonSt) : (s.setMon o l x).regs = s.regs := rfl
@[simp] theorem State.setMon_freeCtr (s : State) (o l : Nat) (x : MonSt) : (s.setMon o l x).freeCtr = s.freeCtr := rfl
@[simp] theorem State.setMon_staged (s : State) (o l : Nat) (x : MonSt) : (s.setMon o l x).staged = s.staged := rfl
@[simp] theorem State.setMon_time (s : State) (o l : Nat) (x : MonSt) : (s.setMon o l x).time = s.time := rfl
@[simp] theorem State.setMon_host (s : State) (o l : Nat) (x : MonSt) : (s.setMon o l x).host = s.host := rfl
@[simp] theorem State.setMon_eng (s : State) (o l : Nat) (x : MonSt) : (s.setMon o l x).eng = s.eng := rfl
@[simp] theorem State.setMon_tx (s : State) (o l : Nat) (x : MonSt) : (s.setMon o l x).tx = s.tx := rfl
@[simp] theorem State.setMon_flt (s : State) (o l : Nat) (x : MonSt) : (s.setMon o l x).flt = s.flt := rfl
@[simp] theorem State.setMon_frame (s : State) (o l : Nat) (x : MonSt) : (s.setMon o l x).frame = s.frame := rfl
@[simp] theorem State.setMon_acq (s : State) (o l : Nat) (x : MonSt) : (s.setMon o l x).acq = s.acq := rfl
@[simp] theorem State.setMon_trim (s : State) (o l : Nat) (x : MonSt) : (s.setMon o l x).trim = s.trim := rfl
@[simp] theorem State.setMon_jrn (s : State) (o l : Nat) (x : MonSt) : (s.setMon o l x).jrn = s.jrn := rfl
@[simp] theorem State.setMon_map (s : State) (o l : Nat) (x : MonSt) : (s.setMon o l x).map = s.map := rfl
@[simp] theorem State.setMon_haly (s : State) (o l : Nat) (x : MonSt) : (s.setMon o l x).haly = s.haly := rfl
@[simp] theorem State.setMon_pwr (s : State) (o l : Nat) (x : MonSt) : (s.setMon o l x).pwr = s.pwr := rfl
@[simp] theorem State.setMon_mem (s : State) (o l : Nat) (x : MonSt) : (s.setMon o l x).mem = s.mem := rfl
@[simp] theorem State.setMon_pair (s : State) (o l : Nat) (x : MonSt) : (s.setMon o l x).pair = s.pair := rfl
@[simp] theorem State.setMon_sec (s : State) (o l : Nat) (x : MonSt) : (s.setMon o l x).sec = s.sec := rfl
@[simp] theorem State.setMon_obs (s : State) (o l : Nat) (x : MonSt) : (s.setMon o l x).obs = s.obs := rfl

@[simp] theorem State.setSyn_pending (s : State) (o y v : Nat) : (s.setSyn o y v).pending = s.pending := rfl
@[simp] theorem State.setSyn_freeCtr (s : State) (o y v : Nat) : (s.setSyn o y v).freeCtr = s.freeCtr := rfl
@[simp] theorem State.setSyn_staged (s : State) (o y v : Nat) : (s.setSyn o y v).staged = s.staged := rfl
@[simp] theorem State.setSyn_time (s : State) (o y v : Nat) : (s.setSyn o y v).time = s.time := rfl
@[simp] theorem State.setSyn_host (s : State) (o y v : Nat) : (s.setSyn o y v).host = s.host := rfl
@[simp] theorem State.setSyn_eng (s : State) (o y v : Nat) : (s.setSyn o y v).eng = s.eng := rfl
@[simp] theorem State.setSyn_flt (s : State) (o y v : Nat) : (s.setSyn o y v).flt = s.flt := rfl
@[simp] theorem State.setSyn_frame (s : State) (o y v : Nat) : (s.setSyn o y v).frame = s.frame := rfl
@[simp] theorem State.setSyn_acq (s : State) (o y v : Nat) : (s.setSyn o y v).acq = s.acq := rfl
@[simp] theorem State.setSyn_rx (s : State) (o y v : Nat) : (s.setSyn o y v).rx = s.rx := rfl
@[simp] theorem State.setSyn_trim (s : State) (o y v : Nat) : (s.setSyn o y v).trim = s.trim := rfl
@[simp] theorem State.setSyn_jrn (s : State) (o y v : Nat) : (s.setSyn o y v).jrn = s.jrn := rfl
@[simp] theorem State.setSyn_map (s : State) (o y v : Nat) : (s.setSyn o y v).map = s.map := rfl
@[simp] theorem State.setSyn_haly (s : State) (o y v : Nat) : (s.setSyn o y v).haly = s.haly := rfl
@[simp] theorem State.setSyn_pwr (s : State) (o y v : Nat) : (s.setSyn o y v).pwr = s.pwr := rfl
@[simp] theorem State.setSyn_mem (s : State) (o y v : Nat) : (s.setSyn o y v).mem = s.mem := rfl
@[simp] theorem State.setSyn_pair (s : State) (o y v : Nat) : (s.setSyn o y v).pair = s.pair := rfl
@[simp] theorem State.setSyn_sec (s : State) (o y v : Nat) : (s.setSyn o y v).sec = s.sec := rfl
@[simp] theorem State.setSyn_obs (s : State) (o y v : Nat) : (s.setSyn o y v).obs = s.obs := rfl



end Sys2Proof.Machine
end

