-- ==== Sys2Proof/Laws/Words.lean ====
section
/-!
SUPPORT. What the sparse tables and the bit fields of a word do: reading back what was written, leaving the rest alone, and keeping
the canonical form.
-/

namespace Sys2Proof

/-! ## Tables -/

@[simp] theorem Tab.get_nil {β : Type} (d : Nat → β) (k : Nat) : Tab.get d [] k = d k := rfl

@[simp] theorem Tab.get_erase_self {β : Type} (d : Nat → β) (t : Tab β) (k : Nat) : Tab.get d (Tab.erase t k) k = d k := by
  induction t with
  | nil => rfl
  | cons e t ih =>
    obtain ⟨j, v⟩ := e
    by_cases h : j = k <;> simp [Tab.erase, Tab.get, h, ih]

theorem Tab.get_erase_of_ne {β : Type} (d : Nat → β) (t : Tab β) {k k' : Nat} (h : k' ≠ k) :
    Tab.get d (Tab.erase t k) k' = Tab.get d t k' := by
  induction t with
  | nil => rfl
  | cons e t ih =>
    obtain ⟨j, v⟩ := e
    by_cases hj : j = k
    · subst hj; simp [Tab.erase, Tab.get, ih, Ne.symm h]
    · by_cases hk : j = k'
      · subst hk; simp [Tab.erase, Tab.get, h]
      · simp [Tab.erase, Tab.get, hj, hk, ih]

@[simp] theorem Tab.get_insert_self {β : Type} (d : Nat → β) (t : Tab β) (k : Nat) (v : β) : Tab.get d (Tab.insert t k v) k = v := by
  induction t with
  | nil => simp [Tab.insert, Tab.get]
  | cons e t ih =>
    obtain ⟨j, u⟩ := e
    by_cases h : j < k
    · simp [Tab.insert, Tab.get, h, Nat.ne_of_lt h, ih]
    · by_cases h' : j = k <;> simp [Tab.insert, Tab.get, h, h']

theorem Tab.get_insert_of_ne {β : Type} (d : Nat → β) (t : Tab β) {k k' : Nat} (v : β) (h : k' ≠ k) :
    Tab.get d (Tab.insert t k v) k' = Tab.get d t k' := by
  induction t with
  | nil => simp [Tab.insert, Tab.get, Ne.symm h]
  | cons e t ih =>
    obtain ⟨j, u⟩ := e
    by_cases hj : j < k
    · by_cases hk : j = k'
      · subst hk; simp [Tab.insert, Tab.get, hj]
      · simp [Tab.insert, Tab.get, hj, hk, ih]
    · by_cases hj' : j = k
      · subst hj'; simp [Tab.insert, Tab.get, Ne.symm h]
      · simp [Tab.insert, Tab.get, hj, hj', Ne.symm h]

/-- A table reads back what was put into it. -/
@[simp] theorem Tab.get_set_self {β : Type} [DecidableEq β] (d : Nat → β) (t : Tab β) (k : Nat) (v : β) :
    Tab.get d (Tab.set d t k v) k = v := by
  unfold Tab.set; split
  · simp [*]
  · simp

/-- A table keeps every other key. -/
theorem Tab.get_set_of_ne {β : Type} [DecidableEq β] (d : Nat → β) (t : Tab β) {k k' : Nat} (v : β) (h : k' ≠ k) :
    Tab.get d (Tab.set d t k v) k' = Tab.get d t k' := by
  unfold Tab.set; split
  · exact Tab.get_erase_of_ne d t h
  · exact Tab.get_insert_of_ne d t v h

theorem Tab.get_set {β : Type} [DecidableEq β] (d : Nat → β) (t : Tab β) (k k' : Nat) (v : β) :
    Tab.get d (Tab.set d t k v) k' = if k' = k then v else Tab.get d t k' := by
  split
  · subst_vars; simp
  · exact Tab.get_set_of_ne d t v ‹_›

theorem Tab.risingFrom_mono {β : Type} {a b : Nat} (h : a ≤ b) {t : Tab β} (ht : Tab.risingFrom b t = true) :
    Tab.risingFrom a t = true := by
  cases t with
  | nil => rfl
  | cons e t =>
    simp only [Tab.risingFrom, Bool.and_eq_true, decide_eq_true_eq] at ht ⊢
    exact ⟨by omega, ht.2⟩

theorem Tab.risingFrom_erase {β : Type} (t : Tab β) (k lo : Nat) (ht : Tab.risingFrom lo t = true) :
    Tab.risingFrom lo (Tab.erase t k) = true := by
  induction t generalizing lo with
  | nil => rfl
  | cons e t ih =>
    obtain ⟨j, v⟩ := e
    simp only [Tab.risingFrom, Bool.and_eq_true, decide_eq_true_eq] at ht
    by_cases h : j = k
    · simp only [Tab.erase, h, if_true]
      exact Tab.risingFrom_mono (by omega) (ih (j + 1) ht.2)
    · simp [Tab.erase, h, Tab.risingFrom, ht.1, ih (j + 1) ht.2]

theorem Tab.risingFrom_insert {β : Type} (t : Tab β) (k : Nat) (v : β) (lo : Nat) (hk : lo ≤ k) (ht : Tab.risingFrom lo t = true) :
    Tab.risingFrom lo (Tab.insert t k v) = true := by
  induction t generalizing lo with
  | nil => simp [Tab.insert, Tab.risingFrom, hk]
  | cons e t ih =>
    obtain ⟨j, u⟩ := e
    simp only [Tab.risingFrom, Bool.and_eq_true, decide_eq_true_eq] at ht
    by_cases h : j < k
    · simp [Tab.insert, h, Tab.risingFrom, ht.1, ih (j + 1) h ht.2]
    · by_cases h' : j = k
      · subst h'; simp [Tab.insert, Tab.risingFrom, ht.1, ht.2]
      · simp only [Tab.insert, h, h', if_false, Tab.risingFrom, Bool.and_eq_true, decide_eq_true_eq]
        exact ⟨hk, by omega, ht.2⟩

theorem Tab.all_erase {β : Type} (p : Nat × β → Bool) (t : Tab β) (k : Nat) (h : t.all p = true) : (Tab.erase t k).all p = true := by
  induction t with
  | nil => rfl
  | cons e t ih =>
    obtain ⟨j, v⟩ := e
    simp only [List.all_cons, Bool.and_eq_true] at h
    simp only [Tab.erase]
    split
    · exact ih h.2
    · simp only [List.all_cons, Bool.and_eq_true]; exact ⟨h.1, ih h.2⟩

theorem Tab.all_insert {β : Type} (p : Nat × β → Bool) (t : Tab β) (k : Nat) (v : β) (hv : p (k, v) = true) (h : t.all p = true) :
    (Tab.insert t k v).all p = true := by
  induction t with
  | nil => simp [Tab.insert, hv]
  | cons e t ih =>
    obtain ⟨j, u⟩ := e
    simp only [List.all_cons, Bool.and_eq_true] at h
    simp only [Tab.insert]
    split
    · simp only [List.all_cons, Bool.and_eq_true]; exact ⟨h.1, ih h.2⟩
    · split
      · simp only [List.all_cons, Bool.and_eq_true]; exact ⟨hv, h.2⟩
      · simp only [List.all_cons, Bool.and_eq_true]; exact ⟨hv, h.1, h.2⟩

/-- Putting an entry keeps the canonical form. -/
theorem Tab.canon_set {β : Type} [DecidableEq β] (d : Nat → β) (t : Tab β) (k : Nat) (v : β) (h : Tab.canon d t = true) :
    Tab.canon d (Tab.set d t k v) = true := by
  simp only [Tab.canon, Bool.and_eq_true] at h ⊢
  unfold Tab.set; split
  · exact ⟨Tab.risingFrom_erase t k 0 h.1, Tab.all_erase _ t k h.2⟩
  · exact ⟨Tab.risingFrom_insert t k v 0 (Nat.zero_le k) h.1, Tab.all_insert _ t k v (by simpa using ‹¬ v = d k›) h.2⟩

/-! ## Fields -/

theorem maskW_toNat (w : Nat) (h : w ≤ 64) : (maskW w).toNat = 2 ^ w - 1 := by
  have : 2 ^ w ≤ 2 ^ 64 := Nat.pow_le_pow_right (by omega) h
  have : 0 < 2 ^ w := Nat.two_pow_pos w
  simp [maskW, BitVec.toNat_ofNat]; omega

theorem maskW_getLsbD (w i : Nat) (h : w ≤ 64) : (maskW w).getLsbD i = decide (i < w) := by
  simp only [BitVec.getLsbD, maskW_toNat w h]
  exact Nat.testBit_two_pow_sub_one w i

theorem Fld.of_eq (f : Fld) (x : Word) (h : f.w ≤ 64) : f.of x = x.toNat / 2 ^ f.lo % 2 ^ f.w := by
  simp only [Fld.of, BitVec.toNat_and, maskW_toNat f.w h, BitVec.toNat_ushiftRight, Nat.and_two_pow_sub_one_eq_mod, Nat.shiftRight_eq_div_pow]

/-- A field's value fits its width. -/
theorem Fld.of_lt (f : Fld) (x : Word) (h : f.w ≤ 64) : f.of x < 2 ^ f.w := by
  rw [Fld.of_eq f x h]; exact Nat.mod_lt _ (Nat.two_pow_pos _)

theorem Fld.put_getLsbD (f : Fld) (x : Word) (v i : Nat) (h : f.lo + f.w ≤ 64) (hi : i < 64) :
    (f.put x v).getLsbD i = if f.lo ≤ i ∧ i < f.lo + f.w then v.testBit (i - f.lo) else x.getLsbD i := by
  have hm : f.w ≤ 64 := by omega
  simp only [Fld.put, BitVec.getLsbD_or, BitVec.getLsbD_and, BitVec.getLsbD_not, BitVec.getLsbD_shiftLeft, maskW_getLsbD _ _ hm,
    BitVec.getLsbD_ofNat, hi, decide_true, Bool.true_and]
  by_cases h1 : f.lo ≤ i
  · by_cases h2 : i < f.lo + f.w
    · have h3 : i - f.lo < f.w := by omega
      have h4 : i - f.lo < 64 := by omega
      have h5 : ¬ i < f.lo := by omega
      simp [h1, h2, h3, h4, h5]
    · have h3 : ¬ i - f.lo < f.w := by omega
      simp [h1, h2, h3]
  · have h3 : i < f.lo := by omega
    simp [h1, h3]

theorem Fld.of_testBit (f : Fld) (x : Word) (i : Nat) (h : f.w ≤ 64) : (f.of x).testBit i = (decide (i < f.w) && x.getLsbD (f.lo + i)) := by
  rw [Fld.of_eq f x h, Nat.testBit_mod_two_pow, Nat.testBit_div_two_pow, BitVec.getLsbD, Nat.add_comm]

/-- A field reads back what was put into it, cut to its width. -/
theorem Fld.of_put_self (f : Fld) (x : Word) (v : Nat) (h : f.lo + f.w ≤ 64) : f.of (f.put x v) = v % 2 ^ f.w := by
  apply Nat.eq_of_testBit_eq; intro i
  rw [Fld.of_testBit f _ i (by omega), Nat.testBit_mod_two_pow]
  by_cases hi : i < f.w
  · rw [Fld.put_getLsbD f x v (f.lo + i) h (by omega)]
    have h1 : f.lo ≤ f.lo + i ∧ f.lo + i < f.lo + f.w := by omega
    simp [h1, hi]
  · simp [hi]

/-- A field keeps its value when another that does not overlap it is put. -/
theorem Fld.of_put_of_disjoint (f g : Fld) (x : Word) (v : Nat) (hf : f.lo + f.w ≤ 64) (hg : g.lo + g.w ≤ 64)
    (h : f.lo + f.w ≤ g.lo ∨ g.lo + g.w ≤ f.lo) : f.of (g.put x v) = f.of x := by
  apply Nat.eq_of_testBit_eq; intro i
  rw [Fld.of_testBit f _ i (by omega), Fld.of_testBit f _ i (by omega)]
  by_cases hi : i < f.w
  · rw [Fld.put_getLsbD g x v (f.lo + i) hg (by omega)]
    have h1 : ¬ (g.lo ≤ f.lo + i ∧ f.lo + i < g.lo + g.w) := by omega
    simp [h1]
  · simp [hi]

/-! ## Bytes -/

@[simp] theorem leBytes_length (n v : Nat) : (leBytes n v).length = n := by
  induction n generalizing v with
  | zero => rfl
  | succ n ih => simp [leBytes, ih]

/-- The bytes of a number spell it, cut to their count. -/
theorem ofLeBytes_leBytes (n v : Nat) : ofLeBytes (leBytes n v) = v % 256 ^ n := by
  induction n generalizing v with
  | zero => simp [leBytes, ofLeBytes, Nat.mod_one]
  | succ n ih =>
    rw [Nat.pow_succ, Nat.mul_comm (256 ^ n) 256, Nat.mod_mul]
    simp [leBytes, ofLeBytes, ih]

end Sys2Proof
end

