-- ==== Sys2Proof/Laws/Ops.lean ====
section
/-!
SUPPORT. What each shared operation can do, said once: registers and their fields, tables of the state, events, completions, the
error log, updates made for each element of a list, and a step.
-/

namespace Sys2Proof.Machine

/-! ## Registers -/

@[simp] theorem State.reg_setReg_self (s : State) (a : Nat) (w : Word) : (s.setReg a w).reg a = w := by
  simp [State.reg, State.setReg]

theorem State.reg_setReg_of_ne (s : State) {a a' : Nat} (w : Word) (h : a' ≠ a) : (s.setReg a w).reg a' = s.reg a' := by
  simp [State.reg, State.setReg, Tab.get_set_of_ne _ _ _ h]

theorem State.reg_setReg (s : State) (a a' : Nat) (w : Word) : (s.setReg a w).reg a' = if a' = a then w else s.reg a' := by
  simp [State.reg, State.setReg, Tab.get_set]

@[simp] theorem State.f_setF_self (s : State) (a : Nat) (x : Fld) (v : Nat) (h : x.lo + x.w ≤ 64) :
    (s.setF a x v).f a x = v % 2 ^ x.w := by
  simp [State.f, State.setF, Fld.of_put_self x _ v h]

theorem State.f_setF_of_ne (s : State) {a a' : Nat} (x y : Fld) (v : Nat) (h : a' ≠ a) : (s.setF a x v).f a' y = s.f a' y := by
  simp [State.f, State.setF, State.reg_setReg_of_ne _ _ h]

theorem State.f_setF_of_disjoint (s : State) (a : Nat) (x y : Fld) (v : Nat) (hx : x.lo + x.w ≤ 64) (hy : y.lo + y.w ≤ 64)
    (h : y.lo + y.w ≤ x.lo ∨ x.lo + x.w ≤ y.lo) : (s.setF a x v).f a y = s.f a y := by
  simp [State.f, State.setF, Fld.of_put_of_disjoint y x _ v hy hx h]

theorem State.b_setB_self (s : State) (a : Nat) (x : Fld) (v : Bool) (h : x.lo + x.w ≤ 64) (h1 : 0 < x.w) : (s.setB a x v).b a x = v := by
  have h2 : 1 < 2 ^ x.w := Nat.one_lt_two_pow (by omega)
  cases v <;> simp [State.b, State.setB, State.setF, Fld.of_put_self x _ _ h, Nat.mod_eq_of_lt h2]

/-- Every register written keeps the store canonical. -/
theorem State.setReg_regsCanon (s : State) (a : Nat) (w : Word) (h : s.regsCanon) : (s.setReg a w).regsCanon :=
  Tab.canon_set resetWord s.regs a w h

theorem State.setF_regsCanon (s : State) (a : Nat) (x : Fld) (v : Nat) (h : s.regsCanon) : (s.setF a x v).regsCanon :=
  s.setReg_regsCanon a _ h

theorem State.setFs_regsCanon (s : State) (a : Nat) (l : List (Fld × Nat)) (h : s.regsCanon) : (s.setFs a l).regsCanon :=
  s.setReg_regsCanon a _ h

/-- The store that a reset leaves is canonical whatever it was before. -/
theorem keepRegs_canon (m : Nat → Word) (t : Tab Word) : Tab.canon resetWord (keepRegs m t) = true := by
  unfold keepRegs
  generalize hacc : ([] : Tab Word) = acc
  have h : Tab.canon resetWord acc = true := by subst hacc; rfl
  clear hacc
  induction t generalizing acc with
  | nil => exact h
  | cons e t ih => exact ih _ (Tab.canon_set _ _ _ _ h)

/-! ## Tables of the state -/

@[simp] theorem State.ring_setRing_self (s : State) (k : Nat) (x : Ring) : (s.setRing k x).ring k = x := by simp [State.ring, State.setRing]
theorem State.ring_setRing_of_ne (s : State) {k k' : Nat} (x : Ring) (h : k' ≠ k) : (s.setRing k x).ring k' = s.ring k' := by
  simp [State.ring, State.setRing, Tab.get_set_of_ne _ _ _ h]
@[simp] theorem State.ch_setCh_self (s : State) (k : Nat) (x : EdacCh) : (s.setCh k x).ch k = x := by simp [State.ch, State.setCh]
theorem State.ch_setCh_of_ne (s : State) {k k' : Nat} (x : EdacCh) (h : k' ≠ k) : (s.setCh k x).ch k' = s.ch k' := by
  simp [State.ch, State.setCh, Tab.get_set_of_ne _ _ _ h]
@[simp] theorem State.ramp_setRamp_self (s : State) (k : Nat) (x : Option RampRun) : (s.setRamp k x).ramp k = x := by simp [State.ramp, State.setRamp]
theorem State.ramp_setRamp_of_ne (s : State) {k k' : Nat} (x : Option RampRun) (h : k' ≠ k) : (s.setRamp k x).ramp k' = s.ramp k' := by
  simp [State.ramp, State.setRamp, Tab.get_set_of_ne _ _ _ h]
@[simp] theorem State.hal_setHal_self (s : State) (k : Nat) (x : HalyOct) : (s.setHal k x).hal k = x := by simp [State.hal, State.setHal]
theorem State.hal_setHal_of_ne (s : State) {k k' : Nat} (x : HalyOct) (h : k' ≠ k) : (s.setHal k x).hal k' = s.hal k' := by
  simp [State.hal, State.setHal, Tab.get_set_of_ne _ _ _ h]
@[simp] theorem State.fo_setFo_self (s : State) (k : Nat) (x : FrameOct) : (s.setFo k x).fo k = x := by simp [State.fo, State.setFo]
theorem State.fo_setFo_of_ne (s : State) {k k' : Nat} (x : FrameOct) (h : k' ≠ k) : (s.setFo k x).fo k' = s.fo k' := by
  simp [State.fo, State.setFo, Tab.get_set_of_ne _ _ _ h]
@[simp] theorem State.cli_setCli_self (s : State) (k : Nat) (x : CliSt) : (s.setCli k x).cli k = x := by simp [State.cli, State.setCli]
theorem State.cli_setCli_of_ne (s : State) {k k' : Nat} (x : CliSt) (h : k' ≠ k) : (s.setCli k x).cli k' = s.cli k' := by
  simp [State.cli, State.setCli, Tab.get_set_of_ne _ _ _ h]
@[simp] theorem State.cap_setCap_self (s : State) (k : Nat) (x : Option CapRun) : (s.setCap k x).cap k = x := by simp [State.cap, State.setCap]
theorem State.cap_setCap_of_ne (s : State) {k k' : Nat} (x : Option CapRun) (h : k' ≠ k) : (s.setCap k x).cap k' = s.cap k' := by
  simp [State.cap, State.setCap, Tab.get_set_of_ne _ _ _ h]
@[simp] theorem State.dom_setDom_self (s : State) (k : Nat) (x : DomSt) : (s.setDom k x).dom k = x := by simp [State.dom, State.setDom]
theorem State.dom_setDom_of_ne (s : State) {k k' : Nat} (x : DomSt) (h : k' ≠ k) : (s.setDom k x).dom k' = s.dom k' := by
  simp [State.dom, State.setDom, Tab.get_set_of_ne _ _ _ h]
@[simp] theorem State.txo_setTxo_self (s : State) (k : Nat) (x : TxOct) : (s.setTxo k x).txo k = x := by simp [State.txo, State.setTxo]
theorem State.txo_setTxo_of_ne (s : State) {k k' : Nat} (x : TxOct) (h : k' ≠ k) : (s.setTxo k x).txo k' = s.txo k' := by
  simp [State.txo, State.setTxo, Tab.get_set_of_ne _ _ _ h]
@[simp] theorem State.tu_setTu_self (s : State) (k : Nat) (x : TrimUnit) : (s.setTu k x).tu k = x := by simp [State.tu, State.setTu]
theorem State.tu_setTu_of_ne (s : State) {k k' : Nat} (x : TrimUnit) (h : k' ≠ k) : (s.setTu k x).tu k' = s.tu k' := by
  simp [State.tu, State.setTu, Tab.get_set_of_ne _ _ _ h]
@[simp] theorem State.ao_setAo_self (s : State) (k : Nat) (x : AcqOct) : (s.setAo k x).ao k = x := by simp [State.ao, State.setAo]
theorem State.ao_setAo_of_ne (s : State) {k k' : Nat} (x : AcqOct) (h : k' ≠ k) : (s.setAo k x).ao k' = s.ao k' := by
  simp [State.ao, State.setAo, Tab.get_set_of_ne _ _ _ h]
@[simp] theorem State.aq_setAq_self (s : State) (o l : Nat) (x : AcqLane) : (s.setAq o l x).aq o l = x := by simp [State.aq, State.setAq]
@[simp] theorem State.fl_setFl_self (s : State) (o l : Nat) (x : FrameLane) : (s.setFl o l x).fl o l = x := by simp [State.fl, State.setFl]
@[simp] theorem State.txl_setTxl_self (s : State) (o l : Nat) (x : TxLane) : (s.setTxl o l x).txl o l = x := by simp [State.txl, State.setTxl]
@[simp] theorem State.rxl_setRxl_self (s : State) (o l : Nat) (x : RxLane) : (s.setRxl o l x).rxl o l = x := by simp [State.rxl, State.setRxl]
@[simp] theorem State.slo_setSlo_self (s : State) (o l : Nat) (x : SlotLane) : (s.setSlo o l x).slo o l = x := by simp [State.slo, State.setSlo]
@[simp] theorem State.pl_setPl_self (s : State) (o l : Nat) (x : PlanLane) : (s.setPl o l x).pl o l = x := by simp [State.pl, State.setPl]

/-! ## Updates for each element of a list -/

@[simp] theorem State.each_nil {α : Type} (s : State) (g : α → State → State) : s.each [] g = s := rfl

@[simp] theorem State.each_cons {α : Type} (s : State) (x : α) (l : List α) (g : α → State → State) :
    s.each (x :: l) g = (g x s).each l g := rfl

/-- What every update of a list keeps, the whole keeps. -/
theorem State.each_keeps {α : Type} (P : State → Prop) (l : List α) (g : α → State → State) (s : State) (h0 : P s)
    (h : ∀ x ∈ l, ∀ t, P t → P (g x t)) : P (s.each l g) := by
  induction l generalizing s with
  | nil => exact h0
  | cons x l ih => exact ih (g x s) (h x (by simp) s h0) fun y hy => h y (by simp [hy])

/-- What no update of a list changes, the whole does not change. -/
theorem State.each_eq {α β : Type} (p : State → β) (l : List α) (g : α → State → State) (s : State)
    (h : ∀ x ∈ l, ∀ t, p (g x t) = p t) : p (s.each l g) = p s :=
  State.each_keeps (fun t => p t = p s) l g s rfl fun x hx t ht => (h x hx t).trans ht

/-! ## Events, completions and the log -/

@[simp] theorem State.event_evQ (s : State) (code obj lane : Nat) (args : List Nat) :
    (s.event code obj lane args).host.evQ = s.host.evQ ++ [⟨code, obj, lane, false, s.tick, args, s.tick⟩] := rfl

@[simp] theorem State.eventC_evQ (s : State) (code obj lane : Nat) (clear : Bool) (args : List Nat) :
    (s.eventC code obj lane clear args).host.evQ = s.host.evQ ++ [⟨code, obj, lane, clear, s.tick, args, s.tick⟩] := rfl

@[simp] theorem State.eventAt_compQ (s : State) (t code obj lane : Nat) (clear : Bool) (args : List Nat) :
    (s.eventAt t code obj lane clear args).host.compQ = s.host.compQ := rfl

/-- A completion of the present epoch is queued behind those already held; one of an earlier epoch is discarded (R371). -/
theorem State.completeAt_compQ (s : State) (c : Cmd) (op st eff : Nat) (res : List (Nat × Nat × Nat)) :
    (s.completeAt c op st eff res).host.compQ =
      if c.epoch = s.host.epoch then s.host.compQ ++ [⟨c.ring, op, st, c.hseq, eff, res, c.epoch, s.tick⟩] else s.host.compQ := by
  simp only [State.completeAt]; split
  · split <;> rfl
  · rfl

/-- A completion touches nothing but the host interface. -/
theorem State.completeAt_host_only (s : State) (c : Cmd) (op st eff : Nat) (res : List (Nat × Nat × Nat)) :
    s.completeAt c op st eff res = { s with host := (s.completeAt c op st eff res).host } := by
  simp only [State.completeAt]; split
  · split <;> rfl
  · rfl

/-- A log entry touches nothing but the log, its counters and the host interface's other parts stay. -/
theorem State.logEntry_host_only (s : State) (e : LogEntry) : s.logEntry e = { s with host := (s.logEntry e).host } := by
  simp only [State.logEntry]; split <;> rfl

/-- A log with room takes the entry at its end; a full one counts it (R612). -/
theorem State.logEntry_log (s : State) (e : LogEntry) :
    (s.logEntry e).host.log = if s.host.log.length < 64 then s.host.log ++ [e] else s.host.log := by
  simp only [State.logEntry]; split <;> rfl

@[simp] theorem State.logEntry_logTotal (s : State) (e : LogEntry) : (s.logEntry e).host.logTotal = satAdd 32 s.host.logTotal 1 := by
  simp only [State.logEntry]; split <;> rfl

@[simp] theorem State.completeAt_pending (s : State) (c : Cmd) (op st eff : Nat) (res : List (Nat × Nat × Nat)) :
    (s.completeAt c op st eff res).pending = s.pending := by rw [State.completeAt_host_only]
@[simp] theorem State.ok_pending (s : State) (c : Cmd) (op : Nat) (res : List (Nat × Nat × Nat)) : (s.ok c op res).pending = s.pending :=
  State.completeAt_pending ..
@[simp] theorem State.refuse_pending (s : State) (c : Cmd) (op st : Nat) : (s.refuse c op st).pending = s.pending := State.completeAt_pending ..
@[simp] theorem State.logEntry_pending (s : State) (e : LogEntry) : (s.logEntry e).pending = s.pending := by rw [State.logEntry_host_only]
@[simp] theorem State.completeAt_regs (s : State) (c : Cmd) (op st eff : Nat) (res : List (Nat × Nat × Nat)) :
    (s.completeAt c op st eff res).regs = s.regs := by rw [State.completeAt_host_only]
@[simp] theorem State.ok_regs (s : State) (c : Cmd) (op : Nat) (res : List (Nat × Nat × Nat)) : (s.ok c op res).regs = s.regs :=
  State.completeAt_regs ..
@[simp] theorem State.refuse_regs (s : State) (c : Cmd) (op st : Nat) : (s.refuse c op st).regs = s.regs := State.completeAt_regs ..
@[simp] theorem State.logEntry_regs (s : State) (e : LogEntry) : (s.logEntry e).regs = s.regs := by rw [State.logEntry_host_only]
@[simp] theorem State.completeAt_freeCtr (s : State) (c : Cmd) (op st eff : Nat) (res : List (Nat × Nat × Nat)) :
    (s.completeAt c op st eff res).freeCtr = s.freeCtr := by rw [State.completeAt_host_only]
@[simp] theorem State.ok_freeCtr (s : State) (c : Cmd) (op : Nat) (res : List (Nat × Nat × Nat)) : (s.ok c op res).freeCtr = s.freeCtr :=
  State.completeAt_freeCtr ..
@[simp] theorem State.refuse_freeCtr (s : State) (c : Cmd) (op st : Nat) : (s.refuse c op st).freeCtr = s.freeCtr := State.completeAt_freeCtr ..
@[simp] theorem State.logEntry_freeCtr (s : State) (e : LogEntry) : (s.logEntry e).freeCtr = s.freeCtr := by rw [State.logEntry_host_only]
@[simp] theorem State.completeAt_staged (s : State) (c : Cmd) (op st eff : Nat) (res : List (Nat × Nat × Nat)) :
    (s.completeAt c op st eff res).staged = s.staged := by rw [State.completeAt_host_only]
@[simp] theorem State.ok_staged (s : State) (c : Cmd) (op : Nat) (res : List (Nat × Nat × Nat)) : (s.ok c op res).staged = s.staged :=
  State.completeAt_staged ..
@[simp] theorem State.refuse_staged (s : State) (c : Cmd) (op st : Nat) : (s.refuse c op st).staged = s.staged := State.completeAt_staged ..
@[simp] theorem State.logEntry_staged (s : State) (e : LogEntry) : (s.logEntry e).staged = s.staged := by rw [State.logEntry_host_only]
@[simp] theorem State.completeAt_time (s : State) (c : Cmd) (op st eff : Nat) (res : List (Nat × Nat × Nat)) :
    (s.completeAt c op st eff res).time = s.time := by rw [State.completeAt_host_only]
@[simp] theorem State.ok_time (s : State) (c : Cmd) (op : Nat) (res : List (Nat × Nat × Nat)) : (s.ok c op res).time = s.time :=
  State.completeAt_time ..
@[simp] theorem State.refuse_time (s : State) (c : Cmd) (op st : Nat) : (s.refuse c op st).time = s.time := State.completeAt_time ..
@[simp] theorem State.logEntry_time (s : State) (e : LogEntry) : (s.logEntry e).time = s.time := by rw [State.logEntry_host_only]
@[simp] theorem State.completeAt_eng (s : State) (c : Cmd) (op st eff : Nat) (res : List (Nat × Nat × Nat)) :
    (s.completeAt c op st eff res).eng = s.eng := by rw [State.completeAt_host_only]
@[simp] theorem State.ok_eng (s : State) (c : Cmd) (op : Nat) (res : List (Nat × Nat × Nat)) : (s.ok c op res).eng = s.eng :=
  State.completeAt_eng ..
@[simp] theorem State.refuse_eng (s : State) (c : Cmd) (op st : Nat) : (s.refuse c op st).eng = s.eng := State.completeAt_eng ..
@[simp] theorem State.logEntry_eng (s : State) (e : LogEntry) : (s.logEntry e).eng = s.eng := by rw [State.logEntry_host_only]
@[simp] theorem State.completeAt_tx (s : State) (c : Cmd) (op st eff : Nat) (res : List (Nat × Nat × Nat)) :
    (s.completeAt c op st eff res).tx = s.tx := by rw [State.completeAt_host_only]
@[simp] theorem State.ok_tx (s : State) (c : Cmd) (op : Nat) (res : List (Nat × Nat × Nat)) : (s.ok c op res).tx = s.tx :=
  State.completeAt_tx ..
@[simp] theorem State.refuse_tx (s : State) (c : Cmd) (op st : Nat) : (s.refuse c op st).tx = s.tx := State.completeAt_tx ..
@[simp] theorem State.logEntry_tx (s : State) (e : LogEntry) : (s.logEntry e).tx = s.tx := by rw [State.logEntry_host_only]
@[simp] theorem State.completeAt_flt (s : State) (c : Cmd) (op st eff : Nat) (res : List (Nat × Nat × Nat)) :
    (s.completeAt c op st eff res).flt = s.flt := by rw [State.completeAt_host_only]
@[simp] theorem State.ok_flt (s : State) (c : Cmd) (op : Nat) (res : List (Nat × Nat × Nat)) : (s.ok c op res).flt = s.flt :=
  State.completeAt_flt ..
@[simp] theorem State.refuse_flt (s : State) (c : Cmd) (op st : Nat) : (s.refuse c op st).flt = s.flt := State.completeAt_flt ..
@[simp] theorem State.logEntry_flt (s : State) (e : LogEntry) : (s.logEntry e).flt = s.flt := by rw [State.logEntry_host_only]
@[simp] theorem State.completeAt_frame (s : State) (c : Cmd) (op st eff : Nat) (res : List (Nat × Nat × Nat)) :
    (s.completeAt c op st eff res).frame = s.frame := by rw [State.completeAt_host_only]
@[simp] theorem State.ok_frame (s : State) (c : Cmd) (op : Nat) (res : List (Nat × Nat × Nat)) : (s.ok c op res).frame = s.frame :=
  State.completeAt_frame ..
@[simp] theorem State.refuse_frame (s : State) (c : Cmd) (op st : Nat) : (s.refuse c op st).frame = s.frame := State.completeAt_frame ..
@[simp] theorem State.logEntry_frame (s : State) (e : LogEntry) : (s.logEntry e).frame = s.frame := by rw [State.logEntry_host_only]
@[simp] theorem State.completeAt_acq (s : State) (c : Cmd) (op st eff : Nat) (res : List (Nat × Nat × Nat)) :
    (s.completeAt c op st eff res).acq = s.acq := by rw [State.completeAt_host_only]
@[simp] theorem State.ok_acq (s : State) (c : Cmd) (op : Nat) (res : List (Nat × Nat × Nat)) : (s.ok c op res).acq = s.acq :=
  State.completeAt_acq ..
@[simp] theorem State.refuse_acq (s : State) (c : Cmd) (op st : Nat) : (s.refuse c op st).acq = s.acq := State.completeAt_acq ..
@[simp] theorem State.logEntry_acq (s : State) (e : LogEntry) : (s.logEntry e).acq = s.acq := by rw [State.logEntry_host_only]
@[simp] theorem State.completeAt_rx (s : State) (c : Cmd) (op st eff : Nat) (res : List (Nat × Nat × Nat)) :
    (s.completeAt c op st eff res).rx = s.rx := by rw [State.completeAt_host_only]
@[simp] theorem State.ok_rx (s : State) (c : Cmd) (op : Nat) (res : List (Nat × Nat × Nat)) : (s.ok c op res).rx = s.rx :=
  State.completeAt_rx ..
@[simp] theorem State.refuse_rx (s : State) (c : Cmd) (op st : Nat) : (s.refuse c op st).rx = s.rx := State.completeAt_rx ..
@[simp] theorem State.logEntry_rx (s : State) (e : LogEntry) : (s.logEntry e).rx = s.rx := by rw [State.logEntry_host_only]
@[simp] theorem State.completeAt_trim (s : State) (c : Cmd) (op st eff : Nat) (res : List (Nat × Nat × Nat)) :
    (s.completeAt c op st eff res).trim = s.trim := by rw [State.completeAt_host_only]
@[simp] theorem State.ok_trim (s : State) (c : Cmd) (op : Nat) (res : List (Nat × Nat × Nat)) : (s.ok c op res).trim = s.trim :=
  State.completeAt_trim ..
@[simp] theorem State.refuse_trim (s : State) (c : Cmd) (op st : Nat) : (s.refuse c op st).trim = s.trim := State.completeAt_trim ..
@[simp] theorem State.logEntry_trim (s : State) (e : LogEntry) : (s.logEntry e).trim = s.trim := by rw [State.logEntry_host_only]
@[simp] theorem State.completeAt_jrn (s : State) (c : Cmd) (op st eff : Nat) (res : List (Nat × Nat × Nat)) :
    (s.completeAt c op st eff res).jrn = s.jrn := by rw [State.completeAt_host_only]
@[simp] theorem State.ok_jrn (s : State) (c : Cmd) (op : Nat) (res : List (Nat × Nat × Nat)) : (s.ok c op res).jrn = s.jrn :=
  State.completeAt_jrn ..
@[simp] theorem State.refuse_jrn (s : State) (c : Cmd) (op st : Nat) : (s.refuse c op st).jrn = s.jrn := State.completeAt_jrn ..
@[simp] theorem State.logEntry_jrn (s : State) (e : LogEntry) : (s.logEntry e).jrn = s.jrn := by rw [State.logEntry_host_only]
@[simp] theorem State.completeAt_map (s : State) (c : Cmd) (op st eff : Nat) (res : List (Nat × Nat × Nat)) :
    (s.completeAt c op st eff res).map = s.map := by rw [State.completeAt_host_only]
@[simp] theorem State.ok_map (s : State) (c : Cmd) (op : Nat) (res : List (Nat × Nat × Nat)) : (s.ok c op res).map = s.map :=
  State.completeAt_map ..
@[simp] theorem State.refuse_map (s : State) (c : Cmd) (op st : Nat) : (s.refuse c op st).map = s.map := State.completeAt_map ..
@[simp] theorem State.logEntry_map (s : State) (e : LogEntry) : (s.logEntry e).map = s.map := by rw [State.logEntry_host_only]
@[simp] theorem State.completeAt_haly (s : State) (c : Cmd) (op st eff : Nat) (res : List (Nat × Nat × Nat)) :
    (s.completeAt c op st eff res).haly = s.haly := by rw [State.completeAt_host_only]
@[simp] theorem State.ok_haly (s : State) (c : Cmd) (op : Nat) (res : List (Nat × Nat × Nat)) : (s.ok c op res).haly = s.haly :=
  State.completeAt_haly ..
@[simp] theorem State.refuse_haly (s : State) (c : Cmd) (op st : Nat) : (s.refuse c op st).haly = s.haly := State.completeAt_haly ..
@[simp] theorem State.logEntry_haly (s : State) (e : LogEntry) : (s.logEntry e).haly = s.haly := by rw [State.logEntry_host_only]
@[simp] theorem State.completeAt_pwr (s : State) (c : Cmd) (op st eff : Nat) (res : List (Nat × Nat × Nat)) :
    (s.completeAt c op st eff res).pwr = s.pwr := by rw [State.completeAt_host_only]
@[simp] theorem State.ok_pwr (s : State) (c : Cmd) (op : Nat) (res : List (Nat × Nat × Nat)) : (s.ok c op res).pwr = s.pwr :=
  State.completeAt_pwr ..
@[simp] theorem State.refuse_pwr (s : State) (c : Cmd) (op st : Nat) : (s.refuse c op st).pwr = s.pwr := State.completeAt_pwr ..
@[simp] theorem State.logEntry_pwr (s : State) (e : LogEntry) : (s.logEntry e).pwr = s.pwr := by rw [State.logEntry_host_only]
@[simp] theorem State.completeAt_mem (s : State) (c : Cmd) (op st eff : Nat) (res : List (Nat × Nat × Nat)) :
    (s.completeAt c op st eff res).mem = s.mem := by rw [State.completeAt_host_only]
@[simp] theorem State.ok_mem (s : State) (c : Cmd) (op : Nat) (res : List (Nat × Nat × Nat)) : (s.ok c op res).mem = s.mem :=
  State.completeAt_mem ..
@[simp] theorem State.refuse_mem (s : State) (c : Cmd) (op st : Nat) : (s.refuse c op st).mem = s.mem := State.completeAt_mem ..
@[simp] theorem State.logEntry_mem (s : State) (e : LogEntry) : (s.logEntry e).mem = s.mem := by rw [State.logEntry_host_only]
@[simp] theorem State.completeAt_pair (s : State) (c : Cmd) (op st eff : Nat) (res : List (Nat × Nat × Nat)) :
    (s.completeAt c op st eff res).pair = s.pair := by rw [State.completeAt_host_only]
@[simp] theorem State.ok_pair (s : State) (c : Cmd) (op : Nat) (res : List (Nat × Nat × Nat)) : (s.ok c op res).pair = s.pair :=
  State.completeAt_pair ..
@[simp] theorem State.refuse_pair (s : State) (c : Cmd) (op st : Nat) : (s.refuse c op st).pair = s.pair := State.completeAt_pair ..
@[simp] theorem State.logEntry_pair (s : State) (e : LogEntry) : (s.logEntry e).pair = s.pair := by rw [State.logEntry_host_only]
@[simp] theorem State.completeAt_sec (s : State) (c : Cmd) (op st eff : Nat) (res : List (Nat × Nat × Nat)) :
    (s.completeAt c op st eff res).sec = s.sec := by rw [State.completeAt_host_only]
@[simp] theorem State.ok_sec (s : State) (c : Cmd) (op : Nat) (res : List (Nat × Nat × Nat)) : (s.ok c op res).sec = s.sec :=
  State.completeAt_sec ..
@[simp] theorem State.refuse_sec (s : State) (c : Cmd) (op st : Nat) : (s.refuse c op st).sec = s.sec := State.completeAt_sec ..
@[simp] theorem State.logEntry_sec (s : State) (e : LogEntry) : (s.logEntry e).sec = s.sec := by rw [State.logEntry_host_only]
@[simp] theorem State.completeAt_obs (s : State) (c : Cmd) (op st eff : Nat) (res : List (Nat × Nat × Nat)) :
    (s.completeAt c op st eff res).obs = s.obs := by rw [State.completeAt_host_only]
@[simp] theorem State.ok_obs (s : State) (c : Cmd) (op : Nat) (res : List (Nat × Nat × Nat)) : (s.ok c op res).obs = s.obs :=
  State.completeAt_obs ..
@[simp] theorem State.refuse_obs (s : State) (c : Cmd) (op st : Nat) : (s.refuse c op st).obs = s.obs := State.completeAt_obs ..
@[simp] theorem State.logEntry_obs (s : State) (e : LogEntry) : (s.logEntry e).obs = s.obs := by rw [State.logEntry_host_only]

/-! ## A step -/

@[simp] theorem step_nil (s : State) (h : s.pending = []) : step s = .next s := by
  simp [step, h]

@[simp] theorem step_cons (s : State) (i : Instr) (l : List Instr) (h : s.pending = i :: l) : step s = exec i { s with pending := l } := by
  simp [step, h]

end Sys2Proof.Machine
end

