-- ==== Sys2Proof/Laws/PerInstr.lean ====
section
/-!
SUPPORT. Facts about every command as syntax, one lemma for each constructor: a command has a descriptor opcode exactly where it has
an origin, so that every host command can be written back into the descriptor that spells it (R381, R401).
-/

namespace Sys2Proof.Laws.DescriptorOrigin

open Sys2Proof.Machine

/-- A command has an opcode exactly where it has an origin. -/
def Statement (i : Instr) : Prop := (opcodeOf i).isSome = (originOf i).isSome

theorem tick (x : TickIn) : Statement (.tick x) := rfl
theorem stagingDeadline (closed : Bool) (cmds : List Nat) (recs : Nat) (slices : List Nat) (tasks : List Nat) (plan : Bool) : Statement (.stagingDeadline closed cmds recs slices tasks plan) := rfl
theorem tickStorm : Statement (.tickStorm) := rfl
theorem taskOverrun (t : Fin 2) : Statement (.taskOverrun t) := rfl
theorem refclkLoss (d : Fin 2) : Statement (.refclkLoss d) := rfl
theorem refclkReturn (d : Fin 2) (phase : List Int) : Statement (.refclkReturn d phase) := rfl
theorem domSetSecWrite (d : Fin 2) (fw : Bool) (v : BitVec 64) : Statement (.domSetSecWrite d fw v) := rfl
theorem domAdjWrite (d : Fin 2) (fw : Bool) (v : BitVec 64) : Statement (.domAdjWrite d fw v) := rfl
theorem timeSwitch (cmd : Cmd) (domain : BitVec 8) : Statement (.timeSwitch cmd domain) := rfl
theorem timeStep (cmd : Cmd) (amount : BitVec 64) : Statement (.timeStep cmd amount) := rfl
theorem slewDone : Statement (.slewDone) := rfl
theorem ppsInEdge (x : Fin 2) (cyc : Fin 6250) : Statement (.ppsInEdge x cyc) := rfl
theorem trigFire (k : Fin 16) (cyc : Fin 6250) : Statement (.trigFire k cyc) := rfl
theorem trigTimeWrite (k : Fin 16) (fw : Bool) (v : BitVec 64) : Statement (.trigTimeWrite k fw v) := rfl
theorem tpMessageRx (p : Fin 2) (cyc : Fin 6250) (bytes : List Byte) : Statement (.tpMessageRx p cyc bytes) := rfl
theorem synCal (cmd : Cmd) (octet : BitVec 8) (retry : BitVec 8) : Statement (.synCal cmd octet retry) := rfl
theorem synTempCheck (o : Fin 16) : Statement (.synTempCheck o) := rfl
theorem synCalComplete (o : Fin 16) (syn : Fin 2) : Statement (.synCalComplete o syn) := rfl
theorem synCalTimeout (o : Fin 16) (syn : Fin 2) : Statement (.synCalTimeout o syn) := rfl
theorem synRelock (o : Fin 16) (syn : Fin 2) : Statement (.synRelock o syn) := rfl
theorem synRelockTimeout (o : Fin 16) (syn : Fin 2) : Statement (.synRelockTimeout o syn) := rfl
theorem handover (o : Fin 16) (syn : Fin 2) : Statement (.handover o syn) := rfl
theorem synAlignFail (o : Fin 16) (syn : Fin 2) : Statement (.synAlignFail o syn) := rfl
theorem synUnlock (o : Fin 16) : Statement (.synUnlock o) := rfl
theorem synNone (o : Fin 16) : Statement (.synNone o) := rfl
theorem txEnable (cmd : Cmd) (octet : BitVec 8) (lane : BitVec 8) (launch : BitVec 8) : Statement (.txEnable cmd octet lane launch) := rfl
theorem txStep (cmd : Cmd) (octet : BitVec 8) (lane : BitVec 8) (launch : BitVec 8) : Statement (.txStep cmd octet lane launch) := rfl
theorem txDisable (cmd : Cmd) (octet : BitVec 8) (lane : BitVec 8) (force : BitVec 8) : Statement (.txDisable cmd octet lane force) := rfl
theorem lockTimeout (o : Fin 16) (l : Fin 9) : Statement (.lockTimeout o l) := rfl
theorem rampEnd (o : Fin 16) (l : Fin 9) : Statement (.rampEnd o l) := rfl
theorem rawLos (o : Fin 16) (l : Fin 9) (asserted : Bool) : Statement (.rawLos o l asserted) := rfl
theorem rxChangeLand (o : Fin 16) (pos : List Nat) : Statement (.rxChangeLand o pos) := rfl
theorem ffeSwap (cmd : Cmd) (octet : BitVec 8) (mask : BitVec 16) : Statement (.ffeSwap cmd octet mask) := rfl
theorem ffeMode (cmd : Cmd) (octet : BitVec 8) (mode : BitVec 8) : Statement (.ffeMode cmd octet mode) := rfl
theorem ffeAdaptUpdate (o : Fin 16) (l : Fin 9) (sums : List Int) : Statement (.ffeAdaptUpdate o l sums) := rfl
theorem monThreshold (o : Fin 16) (l : Fin 9) (unit : Fin 4) : Statement (.monThreshold o l unit) := rfl
theorem codewordDecode (o : Fin 16) (l : Fin 9) (cw : Fin 808) (payload : BitVec 5140) (errs : List (Nat × Nat)) (rel : CwIn) (arr : Int) : Statement (.codewordDecode o l cw payload errs rel arr) := rfl
theorem fecCapArm (o : Fin 16) (v : BitVec 64) : Statement (.fecCapArm o v) := rfl
theorem fecUncorr (o : Fin 16) (l : Fin 9) : Statement (.fecUncorr o l) := rfl
theorem frameStart (o : Fin 16) : Statement (.frameStart o) := rfl
theorem calSwitch (o : Fin 16) : Statement (.calSwitch o) := rfl
theorem pageAdopt (o : Fin 16) : Statement (.pageAdopt o) := rfl
theorem toneLock (o : Fin 16) : Statement (.toneLock o) := rfl
theorem phaseSweepEnd (o : Fin 16) (l : Fin 9) (off : Fin 64) : Statement (.phaseSweepEnd o l off) := rfl
theorem cdrLock (o : Fin 16) (l : Fin 9) : Statement (.cdrLock o l) := rfl
theorem cdrAcqTimeout (o : Fin 16) (l : Fin 9) : Statement (.cdrAcqTimeout o l) := rfl
theorem eqSettled (o : Fin 16) (l : Fin 9) : Statement (.eqSettled o l) := rfl
theorem markerResult (o : Fin 16) (l : Fin 9) (hits : Nat) (exact : Nat) (allExact : Bool) (consec : Bool) : Statement (.markerResult o l hits exact allExact consec) := rfl
theorem searchTimeout (o : Fin 16) (l : Fin 9) : Statement (.searchTimeout o l) := rfl
theorem slip (cmd : Cmd) (octet : BitVec 8) (lane : BitVec 8) (amount : BitVec 8) (coarse : BitVec 8) : Statement (.slip cmd octet lane amount coarse) := rfl
theorem acqLost (o : Fin 16) (l : Fin 9) (missed : Bool) : Statement (.acqLost o l missed) := rfl
theorem acqRestart (cmd : Cmd) (octet : BitVec 8) (mask : BitVec 16) : Statement (.acqRestart cmd octet mask) := rfl
theorem octAligned (o : Fin 16) : Statement (.octAligned o) := rfl
theorem skewRange (o : Fin 16) (l : Fin 9) : Statement (.skewRange o l) := rfl
theorem clkModeLand (o : Fin 16) : Statement (.clkModeLand o) := rfl
theorem convStart (o : Fin 16) : Statement (.convStart o) := rfl
theorem halyMessageRx (o : Fin 16) (path : Fin 2) (hdr : BitVec 64) (payload : List Byte) (crc : BitVec 32) (cyc : Fin 6250) (pos : Nat) (fest : Int) (above : Bool) : Statement (.halyMessageRx o path hdr payload crc cyc pos fest above) := rfl
theorem convTimeout (o : Fin 16) : Statement (.convTimeout o) := rfl
theorem lcToneEnd (o : Fin 16) : Statement (.lcToneEnd o) := rfl
theorem convSelect (o : Fin 16) : Statement (.convSelect o) := rfl
theorem convLcFail (o : Fin 16) (lost : Bool) : Statement (.convLcFail o lost) := rfl
theorem bridgeStart (o : Fin 16) : Statement (.bridgeStart o) := rfl
theorem laneRetire (cmd : Cmd) (octet : BitVec 8) (lane : BitVec 8) (dir : BitVec 8) (reason : BitVec 8) : Statement (.laneRetire cmd octet lane dir reason) := rfl
theorem laneRestore (cmd : Cmd) (octet : BitVec 8) : Statement (.laneRestore cmd octet) := rfl
theorem anComplete (g : Fin 16) (i : AnIn) : Statement (.anComplete g i) := rfl
theorem anFail (g : Fin 16) (i : Fin 16) : Statement (.anFail g i) := rfl
theorem trainComplete (g : Fin 16) (i : Fin 16) : Statement (.trainComplete g i) := rfl
theorem ltFail (g : Fin 16) (i : Fin 16) : Statement (.ltFail g i) := rfl
theorem slUp (g : Fin 16) (i : Fin 16) : Statement (.slUp g i) := rfl
theorem slDown (g : Fin 16) (i : Fin 16) : Statement (.slDown g i) := rfl
theorem slRetrain (cmd : Cmd) (group : BitVec 8) (mask : BitVec 16) : Statement (.slRetrain cmd group mask) := rfl
theorem clientAdd (cmd : Cmd) (a : ClientAddArgs) : Statement (.clientAdd cmd a) := rfl
theorem clientModify (cmd : Cmd) (client : BitVec 16) (what : BitVec 8) (cls : BitVec 8) (auto : BitVec 8) (copy : BitVec 8) (mask : BitVec 128) : Statement (.clientModify cmd client what cls auto copy mask) := rfl
theorem clientDelete (cmd : Cmd) (client : BitVec 16) : Statement (.clientDelete cmd client) := rfl
theorem recentre (c : Fin 512) : Statement (.recentre c) := rfl
theorem holdOffExpiry (c : Fin 512) : Statement (.holdOffExpiry c) := rfl
theorem wtrExpiry (c : Fin 512) : Statement (.wtrExpiry c) := rfl
theorem subframeSelect (c : Fin 512) (c0 : Nat) (c1 : Nat) (one : Nat) (both : Nat) : Statement (.subframeSelect c c0 c1 one both) := rfl
theorem delayExcess (c : Fin 512) : Statement (.delayExcess c) := rfl
theorem delayReturn (c : Fin 512) : Statement (.delayReturn c) := rfl
theorem dSignReverse (c : Fin 512) : Statement (.dSignReverse c) := rfl
theorem singleTimeout (c : Fin 512) : Statement (.singleTimeout c) := rfl
theorem tagLossTimeout (c : Fin 512) : Statement (.tagLossTimeout c) := rfl
theorem protSet (cmd : Cmd) (client : BitVec 16) (flags : BitVec 8) (uncThr : BitVec 8) (holdOff : BitVec 16) (wtr : BitVec 32) : Statement (.protSet cmd client flags uncThr holdOff wtr) := rfl
theorem protReq (cmd : Cmd) (client : BitVec 16) (request : BitVec 8) : Statement (.protReq cmd client request) := rfl
theorem gdTrainingDone : Statement (.gdTrainingDone) := rfl
theorem gdRetrain (ch : Fin 24) : Statement (.gdRetrain ch) := rfl
theorem gdChannelFail (ch : Fin 24) : Statement (.gdChannelFail ch) := rfl
theorem halySend (cmd : Cmd) (octet : BitVec 8) (dst : BitVec 8) (path : BitVec 8) (rep : BitVec 8) (len : BitVec 16) (addr : BitVec 64) (mem : List Byte) : Statement (.halySend cmd octet dst path rep len addr mem) := rfl
theorem halyTxBurst (o : Fin 16) (cyc : Fin 6250) : Statement (.halyTxBurst o cyc) := rfl
theorem halyRampDownEnd (o : Fin 16) : Statement (.halyRampDownEnd o) := rfl
theorem halyDetect (o : Fin 16) : Statement (.halyDetect o) := rfl
theorem halySyncFound (o : Fin 16) (level : Int) (errs : Nat) (cyc : Fin 6250) : Statement (.halySyncFound o level errs cyc) := rfl
theorem halyHeader (o : Fin 16) (hdr : BitVec 64) : Statement (.halyHeader o hdr) := rfl
theorem halyBeaconDue (o : Fin 16) : Statement (.halyBeaconDue o) := rfl
theorem halyHearingLoss (o : Fin 16) (path : Fin 2) : Statement (.halyHearingLoss o path) := rfl
theorem halyTtlExpiry (o : Fin 16) : Statement (.halyTtlExpiry o) := rfl
theorem halySlotStart (o : Fin 16) : Statement (.halySlotStart o) := rfl
theorem trimRun (cmd : Cmd) (target : BitVec 8) : Statement (.trimRun cmd target) := rfl
theorem trimTempCheck (u : Fin 34) : Statement (.trimTempCheck u) := rfl
theorem trimStart (u : Fin 34) : Statement (.trimStart u) := rfl
theorem trimDone (u : Fin 34) : Statement (.trimDone u) := rfl
theorem plannerRun : Statement (.plannerRun) := rfl
theorem jrnHourly : Statement (.jrnHourly) := rfl
theorem jrnFlashWrite (ok : Bool) : Statement (.jrnFlashWrite ok) := rfl
theorem jrnRead (cmd : Cmd) (region : BitVec 8) (seq : BitVec 32) (count : BitVec 16) (addr : BitVec 64) : Statement (.jrnRead cmd region seq count addr) := rfl
theorem ringOpRead (ring : Fin 65536) : Statement (.ringOpRead ring) := rfl
theorem ringOpCreate (ring : Fin 65536) : Statement (.ringOpCreate ring) := rfl
theorem ringOpDestroy (ring : Fin 65536) : Statement (.ringOpDestroy ring) := rfl
theorem ringOpResync (ring : Fin 65536) (head : BitVec 16) : Statement (.ringOpResync ring head) := rfl
theorem sqDoorbell (ring : Fin 65536) (v : BitVec 64) : Statement (.sqDoorbell ring v) := rfl
theorem headDoorbell (ring : Fin 65536) (v : BitVec 64) : Statement (.headDoorbell ring v) := rfl
theorem descriptorFetch (ring : Fin 65538) (bytes : Option (List Byte)) (mem : List Byte) : Statement (.descriptorFetch ring bytes mem) := rfl
theorem completionWrite : Statement (.completionWrite) := rfl
theorem eventWrite : Statement (.eventWrite) := rfl
theorem telemetryWrite : Statement (.telemetryWrite) := rfl
theorem msixSignal (ring : Fin 65536) : Statement (.msixSignal ring) := rfl
theorem audit (cmd : Cmd) (first : BitVec 16) (count : BitVec 24) (freeze : BitVec 8) (addr : BitVec 64) : Statement (.audit cmd first count freeze addr) := rfl
theorem ringResync (cmd : Cmd) (ring : BitVec 16) (head : BitVec 16) (expHseq : BitVec 16) : Statement (.ringResync cmd ring head expHseq) := rfl
theorem nop (cmd : Cmd) : Statement (.nop cmd) := rfl
theorem linkDown : Statement (.linkDown) := rfl
theorem linkUp : Statement (.linkUp) := rfl
theorem functionLevelReset : Statement (.functionLevelReset) := rfl
theorem perstN (low : Bool) : Statement (.perstN low) := rfl
theorem d3hotEntry : Statement (.d3hotEntry) := rfl
theorem d0Return : Statement (.d0Return) := rfl
theorem pairLockFree : Statement (.pairLockFree) := rfl
theorem pairInitTimer : Statement (.pairInitTimer) := rfl
theorem pairLockTaken : Statement (.pairLockTaken) := rfl
theorem mirrorRx (bytes : List Byte) (cyc : Fin 6250) : Statement (.mirrorRx bytes cyc) := rfl
theorem statusRx (bytes : List Byte) (cyc : Fin 6250) : Statement (.statusRx bytes cyc) := rfl
theorem statusSend : Statement (.statusSend) := rfl
theorem hbLost : Statement (.hbLost) := rfl
theorem fence : Statement (.fence) := rfl
theorem pairTakeover (cmd : Cmd) (force : BitVec 8) : Statement (.pairTakeover cmd force) := rfl
theorem pairRelease (cmd : Cmd) : Statement (.pairRelease cmd) := rfl
theorem releaseCheck : Statement (.releaseCheck) := rfl
theorem pairAudit (cmd : Cmd) (first : BitVec 16) (count : BitVec 24) (addr : BitVec 64) : Statement (.pairAudit cmd first count addr) := rfl
theorem pairResync (cmd : Cmd) : Statement (.pairResync cmd) := rfl
theorem shrdLoop (cmd : Cmd) (mode : BitVec 8) (force : BitVec 8) : Statement (.shrdLoop cmd mode force) := rfl
theorem shrdClockLock : Statement (.shrdClockLock) := rfl
theorem shrdLaneResult (n : Fin 8) (coarse : Bool) (exact : Bool) (errs : BitVec 16) : Statement (.shrdLaneResult n coarse exact errs) := rfl
theorem shrdUp (skews : List Int) : Statement (.shrdUp skews) := rfl
theorem shrdLaneLoss (n : Fin 8) : Statement (.shrdLaneLoss n) := rfl
theorem shrdAlignFail (n : Fin 8) : Statement (.shrdAlignFail n) := rfl
theorem chkStart (ch : Fin 32) (v : BitVec 64) : Statement (.chkStart ch v) := rfl
theorem chkDataWrite (ch : Fin 32) (v : BitVec 64) : Statement (.chkDataWrite ch v) := rfl
theorem chkTailWrite (ch : Fin 32) (v : BitVec 64) : Statement (.chkTailWrite ch v) := rfl
theorem chkValWrite (ch : Fin 32) (v : BitVec 64) : Statement (.chkValWrite ch v) := rfl
theorem losLong (slot : Bool) (u : Fin 16) (l : Fin 16) : Statement (.losLong slot u l) := rfl
theorem retryTimeout (k : Fin 3) (u : Fin 16) (l : Fin 16) : Statement (.retryTimeout k u l) := rfl
theorem fltClear (cmd : Cmd) (kind : BitVec 8) (unit : BitVec 8) (lane : BitVec 8) : Statement (.fltClear cmd kind unit lane) := rfl
theorem memTest (cmd : Cmd) (op : BitVec 8) (die : BitVec 8) (macroIx : BitVec 16) (word : BitVec 16) (data : BitVec 64) (check : BitVec 8) : Statement (.memTest cmd op die macroIx word data check) := rfl
theorem memTestWrite (v : BitVec 64) : Statement (.memTestWrite v) := rfl
theorem memTestRead (v : BitVec 64) : Statement (.memTestRead v) := rfl
theorem memTestExit (v : BitVec 64) : Statement (.memTestExit v) := rfl
theorem tableRefresh (addr : Nat) (copyOk : Bool) : Statement (.tableRefresh addr copyOk) := rfl
theorem mcheck (core : Fin 4) (addr : BitVec 64) (recovers : Bool) : Statement (.mcheck core addr recovers) := rfl
theorem inputEdge (x : Fin 21) (asserted : Bool) : Statement (.inputEdge x asserted) := rfl
theorem inputStorm (x : Fin 21) : Statement (.inputStorm x) := rfl
theorem wdtExpire : Statement (.wdtExpire) := rfl
theorem smbusStatusRead : Statement (.smbusStatusRead) := rfl
theorem edacQueue (cmd : Cmd) (channel : BitVec 16) (count : BitVec 8) (flush : BitVec 8) (codes : BitVec 128) : Statement (.edacQueue cmd channel count flush codes) := rfl
theorem spanWrite (ch : Fin 432) (v : BitVec 64) : Statement (.spanWrite ch v) := rfl
theorem spanSettle (ch : Fin 432) : Statement (.spanSettle ch) := rfl
theorem edacRamp (cmd : Cmd) (slot : BitVec 8) : Statement (.edacRamp cmd slot) := rfl
theorem edacRampDone (k : Fin 16) : Statement (.edacRampDone k) := rfl
theorem engClrNEdge (k : Fin 4) (low : Bool) : Statement (.engClrNEdge k low) := rfl
theorem lastRamp (cmd : Cmd) : Statement (.lastRamp cmd) := rfl
theorem lastRampStep : Statement (.lastRampStep) := rfl
theorem lastRampDone : Statement (.lastRampDone) := rfl
theorem lastRampRelease (cmd : Cmd) : Statement (.lastRampRelease cmd) := rfl
theorem hkConversion (h : Fin 2) (kind : Fin 3) (raw : List (BitVec 16)) (raw2 : List (BitVec 16)) (cyc : Fin 6250) : Statement (.hkConversion h kind raw raw2 cyc) := rfl
theorem hkSeqRestart (h : Fin 2) : Statement (.hkSeqRestart h) := rfl
theorem engI2c (cmd : Cmd) (bus : BitVec 8) (addr : BitVec 8) (wcount : BitVec 8) (rcount : BitVec 8) (rstart : BitVec 8) (wdata : BitVec 512) : Statement (.engI2c cmd bus addr wcount rcount rstart wdata) := rfl
theorem i2cTransactionEnd (k : Fin 4) (nak : Option (BitVec 8)) (data : List Byte) : Statement (.i2cTransactionEnd k nak data) := rfl
theorem i2cRecover (k : Fin 4) (stuck : Bool) : Statement (.i2cRecover k stuck) := rfl
theorem pwrReq (cmd : Cmd) (dom : BitVec 8) (target : BitVec 8) : Statement (.pwrReq cmd dom target) := rfl
theorem pwrDelayExpiry (dom : Fin 43) : Statement (.pwrDelayExpiry dom) := rfl
theorem domainEntryComplete (dom : Fin 43) : Statement (.domainEntryComplete dom) := rfl
theorem domainExitComplete (dom : Fin 43) : Statement (.domainExitComplete dom) := rfl
theorem wakeSig (dom : Fin 43) : Statement (.wakeSig dom) := rfl
theorem wakeTick (dom : Fin 43) : Statement (.wakeTick dom) := rfl
theorem coreClk (pll : Bool) : Statement (.coreClk pll) := rfl
theorem pmbPoll (res : List (Option (BitVec 64))) : Statement (.pmbPoll res) := rfl
theorem avsStep : Statement (.avsStep) := rfl
theorem engThermRead (o : Fin 16) (data : Option (BitVec 16)) : Statement (.engThermRead o data) := rfl
theorem orderlyStop : Statement (.orderlyStop) := rfl
theorem orderlyStopDomainOff : Statement (.orderlyStopDomainOff) := rfl
theorem reefGrace : Statement (.reefGrace) := rfl
theorem reefGrace2 : Statement (.reefGrace2) := rfl
theorem reefHold : Statement (.reefHold) := rfl
theorem reefReq (cmd : Cmd) (manual : BitVec 8) : Statement (.reefReq cmd manual) := rfl
theorem pmbXfer (cmd : Cmd) (entry : BitVec 8) (code : BitVec 8) (wcount : BitVec 8) (rcount : BitVec 8) (page : BitVec 8) (wdata : BitVec 256) : Statement (.pmbXfer cmd entry code wcount rcount page wdata) := rfl
theorem pwrStop (cmd : Cmd) : Statement (.pwrStop cmd) := rfl
theorem powerOnReset : Statement (.powerOnReset) := rfl
theorem resetN (low : Bool) : Statement (.resetN low) := rfl
theorem resetRelease (role : Bool) (fuseOk : Bool) (flashOk : Bool) (certOk : Bool) (hang : Bool) (supply : BitVec 4) (rows : List (Nat × Nat × Nat × Bool)) (checker : List (Nat × Nat)) : Statement (.resetRelease role fuseOk flashOk certOk hang supply rows checker) := rfl
theorem bootTimeout (role : Bool) : Statement (.bootTimeout role) := rfl
theorem vddCoreLoss : Statement (.vddCoreLoss) := rfl
theorem vddAonLoss : Statement (.vddAonLoss) := rfl
theorem attest (cmd : Cmd) (nonce : BitVec 256) (addr : BitVec 64) : Statement (.attest cmd nonce addr) := rfl
theorem certRead (cmd : Cmd) (addr : BitVec 64) (max : BitVec 16) : Statement (.certRead cmd addr max) := rfl
theorem imageWrite (cmd : Cmd) (slot : BitVec 8) (offset : BitVec 32) (len : BitVec 32) (addr : BitVec 64) (mem : List Byte) : Statement (.imageWrite cmd slot offset len addr mem) := rfl
theorem imageCommit (cmd : Cmd) (slot : BitVec 8) : Statement (.imageCommit cmd slot) := rfl
theorem rollbackAdvance (cmd : Cmd) (force : BitVec 8) : Statement (.rollbackAdvance cmd force) := rfl
theorem keyUpdate (cmd : Cmd) (addr : BitVec 64) (mem : List Byte) : Statement (.keyUpdate cmd addr mem) := rfl
theorem taskLoad (cmd : Cmd) (task : BitVec 8) (len : BitVec 32) (addr : BitVec 64) (mem : List Byte) : Statement (.taskLoad cmd task len addr mem) := rfl
theorem taskSet (cmd : Cmd) (task : BitVec 8) (action : BitVec 8) (mode : BitVec 8) (budget : BitVec 16) : Statement (.taskSet cmd task action mode budget) := rfl
theorem flashRead (v : BitVec 64) : Statement (.flashRead v) := rfl
theorem flashProgram (v : BitVec 64) : Statement (.flashProgram v) := rfl
theorem flashErase (v : BitVec 64) : Statement (.flashErase v) := rfl
theorem flashOpEnd : Statement (.flashOpEnd) := rfl
theorem patSet (cmd : Cmd) (ptype : BitVec 8) (index : BitVec 8) (lane : BitVec 8) (gen : BitVec 8) (chk : BitVec 8) (sqHalf : BitVec 8) (force : BitVec 8) : Statement (.patSet cmd ptype index lane gen chk sqHalf force) := rfl
theorem loopSet (cmd : Cmd) (ptype : BitVec 8) (index : BitVec 8) (lane : BitVec 8) (loop : BitVec 8) (force : BitVec 8) : Statement (.loopSet cmd ptype index lane loop force) := rfl
theorem patLock (ptype : Fin 4) (index : Fin 16) (lane : Fin 16) : Statement (.patLock ptype index lane) := rfl
theorem patLockLoss (ptype : Fin 4) (index : Fin 16) (lane : Fin 16) : Statement (.patLockLoss ptype index lane) := rfl
theorem loopSlip (ptype : Fin 4) (index : Fin 16) (lane : Fin 16) : Statement (.loopSlip ptype index lane) := rfl
theorem histClear (u : Fin 16) : Statement (.histClear u) := rfl
theorem histSample (u : Fin 16) (x : Option (BitVec 32)) : Statement (.histSample u x) := rfl
theorem pmuSample (core : Fin 4) (pc : BitVec 64) (addr : BitVec 64) (word : BitVec 32) (lat : BitVec 32) (flags : BitVec 2) : Statement (.pmuSample core pc addr word lat flags) := rfl
theorem sampleRecord : Statement (.sampleRecord) := rfl
theorem capStart (cmd : Cmd) (lineLane : BitVec 8) (src : BitVec 8) (len : BitVec 16) (buf : BitVec 8) : Statement (.capStart cmd lineLane src len buf) := rfl
theorem capStagingEnd (y : Fin 4) (data : List Byte) : Statement (.capStagingEnd y data) := rfl
theorem capDone (y : Fin 4) : Statement (.capDone y) := rfl
theorem capRead (cmd : Cmd) (buf : BitVec 8) (offset : BitVec 32) (len : BitVec 32) (addr : BitVec 64) : Statement (.capRead cmd buf offset len addr) := rfl
theorem registerWrite (addr : Nat) (bytes : List Byte) (fw : Bool) : Statement (.registerWrite addr bytes fw) := rfl
theorem lowHalfRead (addr : Nat) (size : Nat) : Statement (.lowHalfRead addr size) := rfl
theorem highHalfRead (addr : Nat) (size : Nat) : Statement (.highHalfRead addr size) := rfl
theorem capturingRead (addr : Nat) : Statement (.capturingRead addr) := rfl
theorem latchingRead (addr : Nat) (half : Bool) (cyc : Fin 6250) : Statement (.latchingRead addr half cyc) := rfl
theorem errLogRead (half : Bool) : Statement (.errLogRead half) := rfl
theorem unsupportedRead (addr : Nat) (size : Nat) : Statement (.unsupportedRead addr size) := rfl
theorem glbLockSet : Statement (.glbLockSet) := rfl
theorem aonPeriod : Statement (.aonPeriod) := rfl
theorem toneLoss (o : Fin 16) : Statement (.toneLoss o) := rfl
theorem stdAmLock (o : Fin 16) : Statement (.stdAmLock o) := rfl
theorem convDoneRepeat (o : Fin 16) : Statement (.convDoneRepeat o) := rfl
theorem halyDetectLoss (o : Fin 16) : Statement (.halyDetectLoss o) := rfl
theorem slotRawLos (g : Fin 16) (i : Fin 16) (asserted : Bool) : Statement (.slotRawLos g i asserted) := rfl
theorem eccError (space : Fin 8) (idx : BitVec 8) (addr : BitVec 64) (data : BitVec 64) (chk : BitVec 8) (use : Fin 7) (obj : Nat) : Statement (.eccError space idx addr data chk use obj) := rfl
theorem engSupplyWaitEnd (o : Fin 16) (good : Bool) : Statement (.engSupplyWaitEnd o good) := rfl
theorem pmbTransactionEnd (outcome : Fin 3) (data : List Byte) : Statement (.pmbTransactionEnd outcome data) := rfl

end Sys2Proof.Laws.DescriptorOrigin
end

