-- ==== Sys2Proof/Tests/Slice0.lean ====
section
/-!
SUPPORT. Tests of the model: an ill-formed command for each check of well-formedness, worked values of the manual, and for every
statement with hypotheses a concrete state and operands that meet them together.
-/

set_option Elab.async false

namespace Sys2Proof.Tests

open Sys2Proof.Machine

/-- The state after reset. -/
abbrev z : State := State.reset

/-- A command of ring 1. -/
def c0 : Cmd := ⟨1, 7, 0, 0⟩

/-- The state after reset with domains On. -/
def on (ds : List Nat) : State := ds.foldl (fun s d => s.setF (R.PWR_DOM_STAT d) F.PWR_DOM_STAT_STATE 0) z

/-- Octet 0 On with a running synthesiser, a launch set-up for steps 1 and 15 of lanes 0 and 8, channels free of clears, and the pair lock. -/
def lit0 : State :=
  let s : State := { (on [7, 39]).setB R.PAIR_STAT F.PAIR_STAT_HOLDER true with eng.resetHold := false }
  let s := (s.setReg (R.LAUNCH 0 0 1) 1).setReg (R.LAUNCH 0 8 15) 1
  (s.setSyn 0 0 5).synFlags 0

/-- A lane of octet 0 in a state, with a request of an operation in progress. -/
def ramp (st : Nat) (op : LaunchOp) : State :=
  (lit0.setTxState 0 0 st).setTxl 0 0 { lit0.txl 0 0 with cur := some ⟨op, 1, some c0, .host, 0⟩ }

/-- A state at a tick. -/
def atTick (n : Nat) (s : State) : State := { s with time.tick := n }

/-- Octet 0 lit, lane 0 of its receiver in an acquisition state. -/
def acq (st : Nat) : State := atTick 5000 (lit0.setF (R.ACQ_LANE_STAT 0 0) F.ACQ_LANE_STAT_STATE st)

/-- Octet 0 with every lane in LOCK at known arrivals. -/
def locked : State :=
  (List.range 8).foldl (fun s k =>
    (s.setFs (R.ACQ_LANE_STAT 0 k) [(F.ACQ_LANE_STAT_STATE, 6), (F.ACQ_LANE_STAT_LOCK, 1)]).setAq 0 k { z.aq 0 k with known := true, arrival := 9 * k }) (acq 6)

/-- Slot group 0 On, its lane 0 (a PHY of one lane) in a state, without loss of signal. -/
def slot (st : Nat) : State :=
  ((on [6, 7, 23, 39]).setF (R.SL_CTL 0 0) F.SL_CTL_EN 1 |>.setF (R.SL_STAT 0 0) F.SL_STAT_STATE st)

/-- A Class B client 5 from line to line, the pair lock held. -/
def cliB : State :=
  let s := (lit0.setFs (R.MAP_CLI_DEF 5) [(F.MAP_CLI_DEF_DEFINED, 1), (F.MAP_CLI_DEF_CLASS, 1), (F.MAP_CLI_DEF_ENDS, 3), (F.MAP_CLI_DEF_SLOTS, 1)])
  { s with map.defined := [5] }

/-- The modem of octet 0 serving, lane 8 lit with its tone and the path SUB up. -/
def hal0 : State :=
  let s := ((on [5, 6, 7, 39]).setF (R.HALY_CTL 0) F.HALY_CTL_EN 1).setF (R.TX_LANE_STAT 0 8) F.TX_LANE_STAT_STATE 3
  let s := (s.setF (R.TONE_CTL 0) F.TONE_CTL_TONE_EN 1).setF (R.HALY_STAT 0) F.HALY_STAT_SUB_UP 1
  atTick 5000 s

/-- A message of the host. -/
def msg0 : HalyMsg := ⟨0x80, [1, 2], 4, none, 15, 1, 1, [], 0, 0, 0, 0, some c0, 0, none⟩

/-- The descriptor of a Class A client 5 from slot lane 0 to octet 0, one slot. -/
def add5 : ClientAddArgs := ⟨5, 0, 0, 0, 2, 0, 0, 0, 0, 0, 0, 0, 1, 0, 0, 0, 0, 0, 0, 0, 0, 0⟩
/-- Rings 0 and 1 as a link has them, an SQ 2 and an EQ 3 that takes every category; the link up. -/
def ringed : State :=
  let s := z.setRing 1 { typ := 2, log2 := 4, base := 0x10000, state := 1, intEn := true, unread := [(1, 0)] }
  let s := s.setRing 2 { typ := 1, log2 := 4, cq := 1, state := 1, tail := 1, expHseq := 7, dbHseq := 7 }
  let s := s.setRing 3 { typ := 3, log2 := 4, base := 0x20000, state := 1, ctxC := 0xFFFFFFFF }
  let s : State := { s.setRing 4 { typ := 4, log2 := 4, base := 0x30000, state := 1 } with host.linkUp := true, host.everUp := true }
  s.setRing 0 { typ := 1, log2 := 4, cq := 1, state := 1 }

/-- Ring 2 ready to be fetched. -/
def fetched : State :=
  let s := (ringed.setB R.SEC_BOOT_STAT F.SEC_BOOT_STAT_FW_READY true).setF (R.PWR_DOM_STAT 1) F.PWR_DOM_STAT_STATE 0
  { s with time.tick := 40, time.next := 41 }

/-- A descriptor of NOP with a sequence number and a tick, its CRC right. -/
def nopDesc (hseq eff : Nat) : List Byte :=
  let b := [3, 0] ++ leBytes 2 hseq ++ leBytes 4 0 ++ leBytes 8 eff ++ List.replicate 44 0
  b ++ leBytes 4 (crc32c b)

/-- An event and a completion that wait. -/
def ev0 : EvRec := ⟨Ev.REC_DROP, 5, 0, false, 3, [], 4⟩
def comp0 : CompRec := ⟨2, 3, 0, 7, 4, [], 0, 4⟩

/-- The state of a pair device. -/
def pairIn (st : Nat) : State := (z.setF R.PAIR_STAT F.PAIR_STAT_STATE st)

/-- The Shroud link in a state, lane 0 in another. -/
def shrd (link lane : Nat) : State :=
  let s := ((on [5]).setF R.SHRD_CTL F.SHRD_CTL_EN 1).setF R.SHRD_STAT F.SHRD_STAT_LINK link
  s.setF (R.SHRD_LANE_STAT 0) F.SHRD_LANE_STAT_STATE lane

/-- A mirror message of the twin, its fields as given. -/
def twinMsg (typ flags : Nat) : List Byte :=
  let b := leBytes 2 0xA55A ++ [BitVec.ofNat 8 typ, BitVec.ofNat 8 flags] ++ List.replicate 60 0
  b ++ leBytes 4 (crc32c b)

/-- Octet 0 On, the fault manager of its lane 0 armed. -/
def armed : State := (on [7, 23]).setFlt 0 0 0 { armed := true }

/-- The engine without a reset hold. -/
def eng0 : State := { z with eng.resetHold := false }

/-- A bus transaction. -/
def xfer0 : BusXfer := ⟨some c0, 0, 1, [], 0, false⟩

/-- Domain 4 (GDDR) in a state and a transition. -/
def dom4 (st tr : Nat) : State := ((on [3, 1]).setDomState 4 st).setTrans 4 tr

/-- The row of the register map of a word. -/
def rowOf (a : Nat) : RegDef := ((regAt a).map (·.1)).getD ⟨.GLB_ID, 0, [], [], 0⟩

/-! ## Well-formedness: a term that passes, and one that each check refuses -/

theorem test_wf_audit :
    (Instr.audit c0 0 1 0 64).wf = true
    ∧ (Instr.audit c0 0 0 0 64).wf = false
    ∧ (Instr.audit c0 65535 2 0 64).wf = false
    ∧ (Instr.audit c0 0 1 2 64).wf = false
    ∧ (Instr.audit c0 0 1 0 65).wf = false := by
  decide

theorem test_wf_ringResync :
    (Instr.ringResync c0 2 0 0).wf = true
    ∧ (Instr.ringResync c0 0 0 0).wf = false := by
  decide

theorem test_wf_timeSwitch :
    (Instr.timeSwitch c0 1).wf = true
    ∧ (Instr.timeSwitch c0 2).wf = false := by
  decide

theorem test_wf_timeStep :
    (Instr.timeStep c0 1).wf = true
    ∧ (Instr.timeStep c0 0).wf = false := by
  decide

theorem test_wf_txEnable :
    (Instr.txEnable c0 15 8 15).wf = true
    ∧ (Instr.txEnable c0 16 8 15).wf = false
    ∧ (Instr.txEnable c0 15 9 15).wf = false
    ∧ (Instr.txEnable c0 15 8 0).wf = false
    ∧ (Instr.txEnable c0 15 8 16).wf = false := by
  decide

theorem test_wf_txStep :
    (Instr.txStep c0 15 8 1).wf = true
    ∧ (Instr.txStep c0 16 8 1).wf = false
    ∧ (Instr.txStep c0 15 9 1).wf = false
    ∧ (Instr.txStep c0 15 8 0).wf = false
    ∧ (Instr.txStep c0 15 8 16).wf = false := by
  decide

theorem test_wf_txDisable :
    (Instr.txDisable c0 15 8 1).wf = true
    ∧ (Instr.txDisable c0 16 8 1).wf = false
    ∧ (Instr.txDisable c0 15 9 1).wf = false
    ∧ (Instr.txDisable c0 15 8 2).wf = false := by
  decide

theorem test_wf_synCal :
    (Instr.synCal c0 15 1).wf = true
    ∧ (Instr.synCal c0 16 1).wf = false
    ∧ (Instr.synCal c0 15 2).wf = false := by
  decide

theorem test_wf_ffeSwap :
    (Instr.ffeSwap c0 15 511).wf = true
    ∧ (Instr.ffeSwap c0 16 1).wf = false
    ∧ (Instr.ffeSwap c0 0 512).wf = false := by
  decide

theorem test_wf_ffeMode :
    (Instr.ffeMode c0 0 1).wf = true
    ∧ (Instr.ffeMode c0 16 0).wf = false
    ∧ (Instr.ffeMode c0 0 2).wf = false := by
  decide

theorem test_wf_slip :
    (Instr.slip c0 0 0 63 0).wf = true
    ∧ (Instr.slip c0 16 0 1 0).wf = false
    ∧ (Instr.slip c0 0 9 1 0).wf = false
    ∧ (Instr.slip c0 0 0 0 0).wf = false
    ∧ (Instr.slip c0 0 0 64 0).wf = false
    ∧ (Instr.slip c0 0 0 1 2).wf = false := by
  decide

theorem test_wf_acqRestart :
    (Instr.acqRestart c0 0 511).wf = true
    ∧ (Instr.acqRestart c0 16 0).wf = false
    ∧ (Instr.acqRestart c0 0 512).wf = false := by
  decide

theorem test_wf_laneRetire :
    (Instr.laneRetire c0 0 8 1 0).wf = true
    ∧ (Instr.laneRetire c0 16 0 0 0).wf = false
    ∧ (Instr.laneRetire c0 0 9 0 0).wf = false
    ∧ (Instr.laneRetire c0 0 0 2 0).wf = false := by
  decide

theorem test_wf_laneRestore :
    (Instr.laneRestore c0 15).wf = true
    ∧ (Instr.laneRestore c0 16).wf = false := by
  decide

theorem test_wf_clientDelete :
    (Instr.clientDelete c0 511).wf = true
    ∧ (Instr.clientDelete c0 512).wf = false := by
  decide

theorem test_wf_clientModify :
    (Instr.clientModify c0 0 2 0 1 1 0).wf = true
    ∧ (Instr.clientModify c0 512 1 0 0 0 0).wf = false
    ∧ (Instr.clientModify c0 0 0 0 0 0 0).wf = false
    ∧ (Instr.clientModify c0 0 3 0 0 0 0).wf = false
    ∧ (Instr.clientModify c0 0 1 0 2 0 0).wf = false
    ∧ (Instr.clientModify c0 0 1 0 0 2 0).wf = false := by
  decide

theorem test_wf_slRetrain :
    (Instr.slRetrain c0 15 0).wf = true
    ∧ (Instr.slRetrain c0 16 0).wf = false := by
  decide

theorem test_wf_protSet :
    (Instr.protSet c0 511 7 1 1023 1).wf = true
    ∧ (Instr.protSet c0 512 0 1 0 1).wf = false
    ∧ (Instr.protSet c0 0 8 1 0 1).wf = false
    ∧ (Instr.protSet c0 0 0 0 0 1).wf = false
    ∧ (Instr.protSet c0 0 0 1 1024 1).wf = false
    ∧ (Instr.protSet c0 0 0 1 0 0).wf = false := by
  decide

theorem test_wf_protReq :
    (Instr.protReq c0 0 4).wf = true
    ∧ (Instr.protReq c0 512 0).wf = false
    ∧ (Instr.protReq c0 0 5).wf = false := by
  decide

theorem test_wf_halySend :
    (Instr.halySend c0 15 15 3 3 1024 64 []).wf = true
    ∧ (Instr.halySend c0 16 0 0 0 1 0 []).wf = false
    ∧ (Instr.halySend c0 0 8 0 0 1 0 []).wf = false
    ∧ (Instr.halySend c0 0 0 4 0 1 0 []).wf = false
    ∧ (Instr.halySend c0 0 0 0 4 1 0 []).wf = false
    ∧ (Instr.halySend c0 0 0 0 0 1025 0 []).wf = false
    ∧ (Instr.halySend c0 0 0 0 0 1 32 []).wf = false := by
  decide

theorem test_wf_trimRun :
    (Instr.trimRun c0 33).wf = true
    ∧ (Instr.trimRun c0 34).wf = false := by
  decide

theorem test_wf_jrnRead :
    (Instr.jrnRead c0 1 0 4096 64).wf = true
    ∧ (Instr.jrnRead c0 2 0 1 0).wf = false
    ∧ (Instr.jrnRead c0 0 0 0 0).wf = false
    ∧ (Instr.jrnRead c0 0 0 4097 0).wf = false
    ∧ (Instr.jrnRead c0 0 0 1 1).wf = false := by
  decide

theorem test_wf_pairTakeover :
    (Instr.pairTakeover c0 1).wf = true
    ∧ (Instr.pairTakeover c0 2).wf = false := by
  decide

theorem test_wf_pairAudit :
    (Instr.pairAudit c0 0 65536 64).wf = true
    ∧ (Instr.pairAudit c0 1 65536 0).wf = false
    ∧ (Instr.pairAudit c0 0 0 0).wf = false
    ∧ (Instr.pairAudit c0 0 1 1).wf = false := by
  decide

theorem test_wf_shrdLoop :
    (Instr.shrdLoop c0 3 1).wf = true
    ∧ (Instr.shrdLoop c0 4 0).wf = false
    ∧ (Instr.shrdLoop c0 0 2).wf = false := by
  decide

theorem test_wf_fltClear :
    (Instr.fltClear c0 0 15 8).wf = true
    ∧ (Instr.fltClear c0 3 0 0).wf = false
    ∧ (Instr.fltClear c0 0 16 0).wf = false
    ∧ (Instr.fltClear c0 0 0 9).wf = false
    ∧ (Instr.fltClear c0 1 0 16).wf = false := by
  decide

theorem test_wf_memTest :
    (Instr.memTest c0 2 4 0 32767 0 0).wf = true
    ∧ (Instr.memTest c0 3 0 0 0 0 0).wf = false
    ∧ (Instr.memTest c0 0 5 0 0 0 0).wf = false
    ∧ (Instr.memTest c0 0 0 0 32768 0 0).wf = false := by
  decide

theorem test_wf_edacQueue :
    (Instr.edacQueue c0 431 8 1 0).wf = true
    ∧ (Instr.edacQueue c0 432 1 0 0).wf = false
    ∧ (Instr.edacQueue c0 0 0 0 0).wf = false
    ∧ (Instr.edacQueue c0 0 9 0 0).wf = false
    ∧ (Instr.edacQueue c0 0 1 2 0).wf = false
    ∧ (Instr.edacQueue c0 0 1 0 0x10000).wf = false := by
  decide

theorem test_wf_edacRamp :
    (Instr.edacRamp c0 15).wf = true
    ∧ (Instr.edacRamp c0 16).wf = false := by
  decide

theorem test_wf_engI2c :
    (Instr.engI2c c0 3 127 64 16 1 0).wf = true
    ∧ (Instr.engI2c c0 4 0 0 0 0 0).wf = false
    ∧ (Instr.engI2c c0 0 128 0 0 0 0).wf = false
    ∧ (Instr.engI2c c0 0 0 65 0 0 0).wf = false
    ∧ (Instr.engI2c c0 0 0 0 17 0 0).wf = false
    ∧ (Instr.engI2c c0 0 0 0 0 2 0).wf = false := by
  decide

theorem test_wf_pwrReq :
    (Instr.pwrReq c0 42 2).wf = true
    ∧ (Instr.pwrReq c0 2 0).wf = false
    ∧ (Instr.pwrReq c0 43 0).wf = false
    ∧ (Instr.pwrReq c0 3 3).wf = false := by
  decide

theorem test_wf_reefReq :
    (Instr.reefReq c0 1).wf = true
    ∧ (Instr.reefReq c0 2).wf = false := by
  decide

theorem test_wf_pmbXfer :
    (Instr.pmbXfer c0 31 0 32 24 1 0).wf = true
    ∧ (Instr.pmbXfer c0 32 0 0 0 0 0).wf = false
    ∧ (Instr.pmbXfer c0 0 0 33 0 0 0).wf = false
    ∧ (Instr.pmbXfer c0 0 0 0 25 0 0).wf = false
    ∧ (Instr.pmbXfer c0 0 0 0 0 2 0).wf = false := by
  decide

theorem test_wf_attest :
    (Instr.attest c0 0 64).wf = true
    ∧ (Instr.attest c0 0 1).wf = false := by
  decide

theorem test_wf_imageWrite :
    (Instr.imageWrite c0 1 0x10000 0x100000 0 []).wf = true
    ∧ (Instr.imageWrite c0 2 0 0 0 []).wf = false
    ∧ (Instr.imageWrite c0 0 1 0 0 []).wf = false
    ∧ (Instr.imageWrite c0 0 0 1 0 []).wf = false
    ∧ (Instr.imageWrite c0 0 0 0x110000 0 []).wf = false := by
  decide

theorem test_wf_imageCommit :
    (Instr.imageCommit c0 1).wf = true
    ∧ (Instr.imageCommit c0 2).wf = false := by
  decide

theorem test_wf_rollbackAdvance :
    (Instr.rollbackAdvance c0 1).wf = true
    ∧ (Instr.rollbackAdvance c0 2).wf = false := by
  decide

theorem test_wf_taskLoad :
    (Instr.taskLoad c0 1 0 0 []).wf = true
    ∧ (Instr.taskLoad c0 2 0 0 []).wf = false := by
  decide

theorem test_wf_taskSet :
    (Instr.taskSet c0 1 2 1 2000).wf = true
    ∧ (Instr.taskSet c0 2 0 0 500).wf = false
    ∧ (Instr.taskSet c0 0 3 0 500).wf = false
    ∧ (Instr.taskSet c0 0 0 2 500).wf = false
    ∧ (Instr.taskSet c0 0 0 0 499).wf = false
    ∧ (Instr.taskSet c0 0 0 0 2001).wf = false := by
  decide

theorem test_wf_patSet :
    (Instr.patSet c0 1 15 15 10 10 63 1).wf = true
    ∧ (Instr.patSet c0 4 0 0 0 0 1 0).wf = false
    ∧ (Instr.patSet c0 0 16 0 0 0 1 0).wf = false
    ∧ (Instr.patSet c0 0 0 9 0 0 1 0).wf = false
    ∧ (Instr.patSet c0 2 0 8 0 0 1 0).wf = false
    ∧ (Instr.patSet c0 3 2 0 0 0 1 0).wf = false
    ∧ (Instr.patSet c0 0 0 0 11 0 1 0).wf = false
    ∧ (Instr.patSet c0 0 0 0 0 11 1 0).wf = false
    ∧ (Instr.patSet c0 0 0 0 0 0 0 0).wf = false
    ∧ (Instr.patSet c0 0 0 0 0 0 64 0).wf = false
    ∧ (Instr.patSet c0 0 0 0 0 0 1 2).wf = false := by
  decide

theorem test_wf_loopSet :
    (Instr.loopSet c0 1 15 15 3 1).wf = true
    ∧ (Instr.loopSet c0 4 0 0 0 0).wf = false
    ∧ (Instr.loopSet c0 2 0 0 0 0).wf = false
    ∧ (Instr.loopSet c0 0 0 0 4 0).wf = false
    ∧ (Instr.loopSet c0 0 0 0 0 2).wf = false := by
  decide

theorem test_wf_capStart :
    (Instr.capStart c0 143 3 1024 15).wf = true
    ∧ (Instr.capStart c0 144 0 1 0).wf = false
    ∧ (Instr.capStart c0 0 4 1 0).wf = false
    ∧ (Instr.capStart c0 0 0 0 0).wf = false
    ∧ (Instr.capStart c0 0 0 1025 0).wf = false
    ∧ (Instr.capStart c0 0 0 1 16).wf = false := by
  decide

theorem test_wf_capRead :
    (Instr.capRead c0 15 64 64 64).wf = true
    ∧ (Instr.capRead c0 16 0 0 0).wf = false
    ∧ (Instr.capRead c0 0 1 0 0).wf = false
    ∧ (Instr.capRead c0 0 0 1 0).wf = false
    ∧ (Instr.capRead c0 0 0 0 1).wf = false
    ∧ (Instr.capRead c0 0 1048576 64 0).wf = false := by
  decide

theorem test_wf_clientAdd :
    (Instr.clientAdd c0 add5).wf = true
    ∧ (Instr.clientAdd c0 { add5 with client := 512 }).wf = false ∧ (Instr.clientAdd c0 { add5 with kind := 2 }).wf = false
    ∧ (Instr.clientAdd c0 { add5 with cls := 4 }).wf = false ∧ (Instr.clientAdd c0 { add5 with ends := 4 }).wf = false
    ∧ (Instr.clientAdd c0 { add5 with src := 16 }).wf = false ∧ (Instr.clientAdd c0 { add5 with snk := 16 }).wf = false
    ∧ (Instr.clientAdd c0 { add5 with sinkFlags := 8 }).wf = false := by
  decide

/-- An event row has no argument that a check refuses. -/
theorem test_wf_event : (Instr.frameStart 15).wf = true := by decide

/-! ## Worked values of the manual -/

/-- The example of R9: MOD of octet 5, lane L3, is channel 145; that of chapter 3: lane L2 of octet 9 has channels 249 and 250. -/
theorem test_channel_numbers : modCh 5 3 = 145 ∧ biasCh 9 2 = 249 ∧ modCh 9 2 = 250 := by decide

/-- The example of chapter 7: a client of 9.95328 Gb/s needs one slot, one of 400 Gb/s needs 16. -/
theorem test_slot_counts : slotCount 9953280 = 1 ∧ slotCount 400000000 = 16 := by decide

/-- The check value of CRC-32C (R433): the bytes of "123456789" give 0xE3069283, and those of the IEEE CRC-32 give 0xCBF43926. -/
theorem test_crc_check_values :
    crc32c [0x31, 0x32, 0x33, 0x34, 0x35, 0x36, 0x37, 0x38, 0x39] = 0xE3069283
    ∧ crc32 [0x31, 0x32, 0x33, 0x34, 0x35, 0x36, 0x37, 0x38, 0x39] = 0xCBF43926 := by
  decide +kernel

/-- The example of FIPS 180-4 for SHA-384: the digest of "abc" (R19). -/
theorem test_sha384_abc :
    ofBeBytes (sha384 [0x61, 0x62, 0x63])
      = 0xcb00753f45a35e8bb5a03d699ac65007272c32ab0eded1631a8b605a43ff5bed8086072ba1e7cc2358baeca134c825a7 := by
  decide +kernel

/-- The base point of RFC 5639 lies on brainpoolP384r1. -/
theorem test_curve_base : onCurve bpGx bpGy = true := by decide +kernel

/-- A PRBS7 register is back at its seed after 127 bits (R579). -/
theorem test_prbs7_period :
    (lfsrBits 7 [7, 6] 127 (List.replicate 7 true)).reverse.take 7 = List.replicate 7 true := by decide +kernel

/-- The justification rule of R174 for P = 8 and C = 3: j C mod 8 is 3, 6, 1, 4, 7, 2, 5, 0, so positions 3, 6 and 8 carry data. -/
theorem test_gmp_positions : ((List.range 8).map (· + 1)).filter (gmpData 8 3) = [3, 6, 8] := by decide

/-- Four data blocks, and an error block among data blocks, come back from their 257-bit form (R248). -/
theorem test_transcode :
    untranscode (transcode [blk 2 1, blk 2 2, blk 2 3, blk 2 4]) = some [blk 2 1, blk 2 2, blk 2 3, blk 2 4]
    ∧ untranscode (transcode [blk 2 1, errorBlk, blk 2 3, blk 2 4]) = some [blk 2 1, errorBlk, blk 2 3, blk 2 4] := by
  decide +kernel

/-- The HOST message of the example of chapter 9 has 16,684 symbols on SUB (R306). -/
theorem test_halyard_symbols : halSymbols 1024 = 96 + 2 * (102 + 8 * 1024) := by decide

/-- The example of chapter 9: with four stations and SLOT_TICKS 20, tick 1,000,000,040 starts the slot of station 2, whose
subcarrier ramps up (R307). -/
theorem test_halyard_slot :
    (let s : State := { ((hal0.setF (R.HALY_SHARE 0) F.HALY_SHARE_SHARED 1).setFs (R.HALY_SHARE 0) [(F.HALY_SHARE_SLOT_TICKS, 20),
        (F.HALY_SHARE_STATIONS, 3), (F.HALY_SHARE_STATION, 2)]).setHal 0 { z.hal 0 with queue := [msg0] } with time.tick := 1000000040 }
     match exec (.halySlotStart 0) s with
     | .next t => t.halTx 0
     | _ => 9) = 1 := by
  decide +kernel

/-- The example of chapter 14: after the clear of group 1 the queue of channel 146 is empty and its owner is CLEAR. -/
theorem test_engine_clear :
    (match exec (.engClrNEdge 1 true) (eng0.setCh 146 { queue := [0x3000, 0x4000], code := 0x2000, atClear := false }) with
     | .next t => ((t.ch 146).queue, (t.ch 146).code, t.owner 146)
     | _ => ([1], 1, 1)) = ([], 0, 3) := by
  decide +kernel

/-- A write of a reserved encoding is discarded (R16): SPAN = 3 stages nothing. -/
theorem test_reserved_span :
    (match exec (.spanWrite 0 3) z with
     | .next t => (t.host.regQ.length, t.host.log.length)
     | _ => (9, 9)) = (0, 1) := by
  decide +kernel

/-- Two syndromes of one flipped bit differ from those of two (R456). -/
theorem test_hsiao_bits : hsiaoPos (hsiaoSynd 1 (hsiaoCheck 0)) = some 0 ∧ hsiaoPos (hsiaoSynd 3 (hsiaoCheck 0)) = none := by
  decide +kernel

/-- A full queue runs its first command. -/
theorem test_step_front : (match step { z with pending := [.nop c0, .tickStorm] } with
    | .next t => (t.pending, t.host.compQ.length)
    | _ => ([], 9)) = ([.tickStorm], 1) := by
  decide +kernel

/-! ## Witnesses over the next state -/

/-- The hypotheses of `CommandsKeepTheQueue` and of the statements on what commands leave alone are met. -/
theorem test_witness_CommandsKeepTheQueue : ∃ (i : Instr) (s t : State), exec i s = Host.Outcome.next t := ⟨.nop c0, z, _, rfl⟩

theorem test_witness_StepsKeepTheRegistersCanonical :
    ∃ s t : State, s.regsCanon ∧ step s = Host.Outcome.next t := ⟨z, z, by unfold State.regsCanon; decide +kernel, rfl⟩

theorem test_witness_CommandsWithoutRegisterEffects : ∃ s t : State, exec (.nop c0) s = Host.Outcome.next t := ⟨z, _, rfl⟩

theorem test_witness_CommandsWithNarrowEffects : ∃ s t : State, exec (.halyDetect 0) s = Host.Outcome.next t := ⟨hal0, _, rfl⟩

theorem test_witness_CommandsWithWideEffects : ∃ s t : State, exec .pairLockFree s = Host.Outcome.next t := ⟨z, _, rfl⟩

theorem test_witness_RegistersOutsideTheTargetStay :
    ∃ (s t : State) (a : Nat), exec (.taskOverrun 1) s = Host.Outcome.next t ∧ a ≠ R.TASK_STAT 1 :=
  ⟨z, _, R.TASK_STAT 0, rfl, by decide⟩

theorem test_witness_FlashKeepsOtherBytes :
    (∃ (s t : State) (a : Nat), exec (.imageWrite c0 1 0 0 0 []) s = Host.Outcome.next t ∧ a < imageAddr 1 1 + 0)
    ∧ (∃ (s t : State) (a : Nat), exec (.imageCommit c0 0) s = Host.Outcome.next t ∧ 0x20000 ≤ a)
    ∧ (∃ (s t : State) (k w x a : Nat), s.sec.op = some (k, w, x) ∧ exec .flashOpEnd s = Host.Outcome.next t
      ∧ (k = 0 ∨ (k = 1 ∧ (a < w ∨ w + 8 ≤ a)) ∨ (2 ≤ k ∧ a / 0x10000 ≠ w / 0x10000))) :=
  ⟨⟨z, _, 0, rfl, by decide⟩, ⟨z, _, 0x20000, rfl, by decide⟩,
   ⟨{ z with sec.op := some (1, 0x10000, 5) }, _, 1, 0x10000, 5, 0x10008, rfl, rfl, by decide⟩⟩

theorem test_witness_DescriptorsSpellTheirCommands :
    ∃ (i : Instr) (op : Nat) (c : Cmd), opcodeOf i = some op ∧ originOf i = some c := ⟨.nop c0, 3, c0, rfl, rfl⟩

/-- The planner's first run of a second (R353), an hourly entry, and each outcome of a write to the journal's flash. -/
theorem test_witness_PlannerAndJournalRun :
    (∃ s : State, s.b R.PLAN_CTL F.PLAN_CTL_EN = true ∧ 50000 ≤ s.tickIdx ∧ s.time.planHeld = false
      ∧ ∀ x, s.trim.lastRun = some x → x / 100000 ≠ s.tick / 100000)
    ∧ (∃ s : State, s.jrn.hourDue = true ∧ s.time.planHeld = false)
    ∧ (∃ (s : State) (e : List Byte) (q : List (List Byte)), s.jrn.flashQ = e :: q ∧ s.jrn.tries < 2)
    ∧ (∃ (s : State) (e : List Byte) (q : List (List Byte)), s.jrn.flashQ = e :: q ∧ 2 ≤ s.jrn.tries)
    ∧ (∃ s : State, s.b R.JRN_STAT F.JRN_STAT_READY = true ∧ s.isOn domGDDR = true ∧ c0.epoch = s.host.epoch) :=
  ⟨⟨atTick 50000 (z.setF R.PLAN_CTL F.PLAN_CTL_EN 1), by decide +kernel, by decide +kernel, by decide +kernel, fun _ h => nomatch h⟩,
   ⟨{ z with jrn.hourDue := true }, by decide +kernel⟩, ⟨{ z with jrn.flashQ := [[7]] }, [7], [], by decide +kernel⟩,
   ⟨{ z with jrn.flashQ := [[7]], jrn.tries := 2 }, [7], [], by decide +kernel⟩,
   ⟨(on [4]).setB R.JRN_STAT F.JRN_STAT_READY true, by decide +kernel⟩⟩

theorem test_witness_ResetState : (∃ d : Nat, d < 43) ∧ (∃ o l : Nat, o < 16 ∧ l < 9) ∧ ∃ c : Nat, c < 432 :=
  ⟨⟨42, by decide⟩, ⟨15, 8, by decide⟩, ⟨431, by decide⟩⟩

theorem test_witness_JustificationPlacesEveryWord :
    (∃ (p : Nat) (d : SubWords), d.c ≤ p ∧ 0 < d.c) ∧ (∃ (p : Nat) (d : SubWords) (j : Nat), gmpData p d.c j = false ∧ 0 < d.c) :=
  ⟨⟨3138, ⟨3138, [], 0⟩, by decide⟩, ⟨3138, ⟨1, [], 0⟩, 1, by decide⟩⟩

theorem test_witness_BlocksSurviveTheirTranscoding :
    ∃ bs : List Nat, bs.length = 4
      ∧ ∀ b ∈ bs, b < 2 ^ 66 ∧ (isData b = true ∨ (isCtl b = true ∧ b / 4 % 256 ∈ blockTypes)) :=
  ⟨[2, errorBlk, faultBlk, 2 ^ 66 - 2], by decide⟩

theorem test_witness_StoreKeepsASubFrame :
    (∃ x : SubCopy, x.stamp < 2 ^ 40 ∧ x.k < 8 ∧ x.words.length < 2 ^ 18 ∧ (∀ w ∈ x.words, w.1 < 1024)
      ∧ (x.words.getD 1 (0, false)).2 = true)
    ∧ ∃ x : SubCopy, (∀ w ∈ x.words, w.1 < 1024) ∧ (∀ w ∈ x.words, w.2 = false) ∧ x.words ≠ [] :=
  ⟨⟨⟨2 ^ 40 - 1, 7, true, [(1023, false), (5, true)]⟩, by decide⟩, ⟨⟨0, 0, false, [(1023, false)]⟩, by decide⟩⟩

/-! ## Witnesses of the hypotheses -/

/-- The hypotheses of every clause of `EmptyQueueIdles` are met. -/
theorem test_witness_EmptyQueueIdles :
    (∃ (s : State), s.pending = []) := by
  refine ⟨z, ?_⟩; decide +kernel

/-- The hypotheses of every clause of `TickCarriesTheNextNumber` are met. -/
theorem test_witness_TickCarriesTheNextNumber :
    (∃ (s : State), s.time.next < 2 ^ 64 ∧ s.slew.tickCycles ≠ none)
    ∧ (∃ (s : State), s.time.next < 2 ^ 64 ∧ s.slew.tickCycles = none)
    ∧ (∃ (s : State), 2 ^ 64 ≤ s.time.next) := by
  refine ⟨⟨z, ?_⟩,
    ⟨{ z with time.holdover := true }, ?_⟩,
    ⟨{ z with time.next := 2 ^ 64 }, ?_⟩⟩ <;> decide +kernel

/-- The hypotheses of every clause of `TimeSwitchKeepsTheTimescale` are met. -/
theorem test_witness_TimeSwitchKeepsTheTimescale :
    (∃ (s : State) (c : Cmd) (d : BitVec 8), d.toNat < 2 ∧ c.epoch = s.host.epoch ∧ (s.outAt 0 - (s.cnt d.toNat * offUnit : Nat)).natAbs
      ≤ offLimit)
    ∧ (∃ (s : State) (c : Cmd) (d : BitVec 8), d.toNat < 2 ∧ c.epoch = s.host.epoch ∧ offLimit < (s.outAt 0 - (s.cnt d.toNat * offUnit :
      Nat)).natAbs) := by
  refine ⟨⟨z, c0, 1, ?_⟩,
    ⟨{ z with time.cntB := unitSec }, c0, 1, ?_⟩⟩ <;> decide +kernel

/-- The hypotheses of every clause of `TimeStepMovesTheNextEdge` are met. -/
theorem test_witness_TimeStepMovesTheNextEdge :
    (∃ (s : State) (c : Cmd) (a : BitVec 64), a.toInt ≠ 0 ∧ c.epoch = s.host.epoch ∧ 0 ≤ (s.time.next : Int) + a.toInt)
    ∧ (∃ (s : State) (c : Cmd) (a : BitVec 64), a.toInt ≠ 0 ∧ c.epoch = s.host.epoch ∧ (s.time.next : Int) + a.toInt < 0) := by
  refine ⟨⟨z, c0, -1, ?_⟩,
    ⟨z, c0, -2, ?_⟩⟩ <;> decide +kernel

/-- The hypotheses of every clause of `DeadlinesAndOverruns` are met. -/
theorem test_witness_DeadlinesAndOverruns :
    (∃ (s : State), s.time.deadline = false)
    ∧ (∃ (s : State), 100 ≤ s.time.overStreak ∧ s.time.stormPosted = false)
    ∧ (∃ (s : State) (k : Fin 2), s.f (R.TASK_CFG k) F.TASK_CFG_STATE = 2 ∧ s.time.atLimit.contains k.val = true)
    ∧ (∃ (s : State) (k : Fin 2), s.time.atLimit.contains k.val = false) := by
  refine ⟨⟨z, ?_⟩,
    ⟨{ z with time.overStreak := 100 }, ?_⟩,
    ⟨{ (z.setF (R.TASK_CFG 0) F.TASK_CFG_STATE 2) with time.atLimit := [0] }, 0, ?_⟩,
    ⟨z, 0, ?_⟩⟩ <;> decide +kernel

/-- The hypotheses of every clause of `ReferencesFallBackAndReturn` are met. -/
theorem test_witness_ReferencesFallBackAndReturn :
    (∃ (s : State) (d : Fin 2), s.refOk d = true ∧ s.time.refUse = d.val ∧ s.time.holdover = false ∧ s.b R.TS_CTL F.TS_CTL_REF_AUTO =
      true ∧ s.refOk (1 - d.val) = true)
    ∧ (∃ (s : State) (d : Fin 2), s.refOk d = true ∧ s.time.refUse = d.val ∧ s.time.holdover = false ∧ (s.b R.TS_CTL F.TS_CTL_REF_AUTO =
      false ∨ s.refOk (1 - d.val) = false))
    ∧ (∃ (s : State) (d : Fin 2), s.refOk d = false ∧ s.time.holdover = true ∧ (s.time.refUse = d.val ∨ s.b R.TS_CTL F.TS_CTL_REF_AUTO =
      true)) := by
  refine ⟨⟨{ z.setF R.TS_CTL F.TS_CTL_REF_AUTO 1 with time.refA := true, time.refB := true, time.refUse := 1, time.holdover := false }, 1, ?_⟩,
    ⟨{ z with time.refA := true, time.refB := false, time.refUse := 0, time.holdover := false }, 0, ?_⟩,
    ⟨{ z with time.refA := false, time.refUse := 0, time.holdover := true }, 0, ?_⟩⟩ <;> decide +kernel

/-- The hypotheses of every clause of `TimeWritesAreStagedOrLogged` are met. -/
theorem test_witness_TimeWritesAreStagedOrLogged :
    (∃ (s : State) (d : Fin 2) (fw : Bool), s.domOwner d fw = true ∧ d.val ≠ s.time.active)
    ∧ (∃ (s : State) (d : Fin 2) (fw : Bool), (d.val = s.time.active ∨ s.domOwner d fw = false))
    ∧ (∃ (s : State) (d : Fin 2) (fw : Bool) (v : BitVec 64), s.domOwner d fw = true ∧ s.domAdjOk d v.toInt = true)
    ∧ (∃ (s : State) (d : Fin 2) (fw : Bool) (v : BitVec 64), s.domOwner d fw = true ∧ s.domAdjOk d v.toInt = false) := by
  refine ⟨⟨z, 1, true, ?_⟩,
    ⟨z, 0, false, ?_⟩,
    ⟨z, 0, true, 0, ?_⟩,
    ⟨z, 0, true, 0x7fffffffffffffff, ?_⟩⟩ <;> decide +kernel

/-- The hypotheses of every clause of `AdjustmentsKeepTheTimescale` are met. -/
theorem test_witness_AdjustmentsKeepTheTimescale :
    (∃ (s : State) (d : Nat) (adj : Int), d < 2 ∧ s.time.active < 2 ∧ s.time.cntA < cntMod ∧ s.time.cntB < cntMod ∧ d = s.time.active ∧ 0
      ≤ (s.cnt d : Int) + adj * (2 ^ 24 : Nat) ∧ (s.cnt d : Int) + adj * (2 ^ 24 : Nat) < cntMod)
    ∧ (∃ (s : State) (d : Nat), d < 2 ∧ s.time.active < 2 ∧ s.time.cntA < cntMod ∧ s.time.cntB < cntMod ∧ d ≠ s.time.active)
    ∧ (∃ (s : State) (d : Nat) (sec : Nat), d < 2 ∧ s.time.active < 2 ∧ s.time.cntA < cntMod ∧ s.time.cntB < cntMod ∧ sec < 2 ^ 48) := by
  refine ⟨⟨z, 0, 1, ?_⟩,
    ⟨z, 1, ?_⟩,
    ⟨{ z with time.cntB := 12345 }, 1, 5, ?_⟩⟩ <;> decide +kernel

/-- The hypotheses of every clause of `PulsesAndMessagesAreStamped` are met. -/
theorem test_witness_PulsesAndMessagesAreStamped :
    (∃ (s : State) (x : Fin 2) (cyc : Fin 6250), bitOf (s.f R.IN_STORM F.IN_STORM_STORM) (16 + x) = false ∧ s.ppsOk x (s.cntAt 0 cyc,
      s.cntAt 1 cyc) = true)
    ∧ (∃ (s : State) (x : Fin 2) (cyc : Fin 6250), bitOf (s.f R.IN_STORM F.IN_STORM_STORM) (16 + x) = false ∧ s.ppsOk x (s.cntAt 0 cyc,
      s.cntAt 1 cyc) = false)
    ∧ (∃ (s : State) (p : Fin 2), s.b (R.TP_CTL p) F.TP_CTL_EN = true ∧ s.patOn 3 p 0 = false)
    ∧ (∃ (s : State), s.time.slewDone = true) := by
  refine ⟨⟨{ z with time.cntA := 5 * unitSec }, 1, 0, ?_⟩,
    ⟨{ z with time.ppsRef := [(0, some (0, 0))], time.cntA := 5 }, 0, 0, ?_⟩,
    ⟨z.setF (R.TP_CTL 0) F.TP_CTL_EN 1, 0, ?_⟩,
    ⟨{ z with time.slewDone := true }, ?_⟩⟩ <;> decide +kernel

/-- The hypotheses of every clause of `TriggersFireOnTime` are met. -/
theorem test_witness_TriggersFireOnTime :
    (∃ (s : State) (k : Fin 16) (cyc : Fin 6250), s.b (R.TRIG_CTL k) F.TRIG_CTL_ARM = true ∧ (s.trigTime k : Int) ≤ s.trigNow k cyc ∧
      s.time.holdover = false ∧ s.f (R.TRIG_PERIOD k) F.TRIG_PERIOD_PERIOD_NS = 0 ∧ Tab.get (fun _ => false) s.time.trigFired k = false ∧
      s.f (R.TRIG_CTL k) F.TRIG_CTL_ACT = 0)
    ∧ (∃ (s : State) (k : Fin 16) (cyc : Fin 6250), s.b (R.TRIG_CTL k) F.TRIG_CTL_ARM = true ∧ (s.trigTime k : Int) ≤ s.trigNow k cyc ∧
      s.time.holdover = false ∧ s.f (R.TRIG_PERIOD k) F.TRIG_PERIOD_PERIOD_NS ≠ 0 ∧ 3 ≤ s.f (R.TRIG_CTL k) F.TRIG_CTL_ACT ∧ s.f
      (R.TRIG_CTL k) F.TRIG_CTL_ACT ≤ 5 ∧ s.trigBefore k cyc < s.trigTime k ∧ s.trigTime k / 2 ^ 16 + s.f (R.TRIG_PERIOD k)
      F.TRIG_PERIOD_PERIOD_NS < 2 ^ 48 * 1000000000) := by
  refine ⟨⟨(z.setF (R.TRIG_CTL 0) F.TRIG_CTL_ARM 1), 0, 0, ?_⟩,
    ⟨{ ((z.setF (R.TRIG_CTL 15) F.TRIG_CTL_ARM 1).setF (R.TRIG_CTL 15) F.TRIG_CTL_ACT 3).setF (R.TRIG_PERIOD 15) F.TRIG_PERIOD_PERIOD_NS 10000 with time.holdover := false }, 15, 0, ?_⟩⟩ <;> decide +kernel

/-- The hypotheses of every clause of `SynthesisersCalibrate` are met. -/
theorem test_witness_SynthesisersCalibrate :
    (∃ (s : State) (ob : BitVec 8) (rb : BitVec 8) (o : Fin 16) (y : Fin 2), ob.toNat = o.val ∧ rb.toNat < 2 ∧ s.octOn o = true ∧ (s.txo
      o).entering = false ∧ s.synBusy o = false ∧ s.syn o 0 ≠ 6 ∧ s.syn o 1 ≠ 6 ∧ s.synTarget o = some y.val)
    ∧ (∃ (s : State) (ob : BitVec 8) (rb : BitVec 8) (o : Fin 16) (y : Fin 2), ob.toNat = o.val ∧ rb.toNat < 2 ∧ s.octOn o = true ∧ (s.txo
      o).entering = false ∧ s.tick % 100 = 0 ∧ s.b (R.TX_SYN_CTL o) F.TX_SYN_CTL_AUTO_CAL = true ∧ s.synRun o = true ∧ s.synBusy o = false
      ∧ s.syn o y = 5 ∧ s.syn o (1 - y.val) = 1 ∧ s.synWarm o y = false)
    ∧ (∃ (s : State) (ob : BitVec 8) (rb : BitVec 8) (o : Fin 16) (y : Fin 2), ob.toNat = o.val ∧ rb.toNat < 2 ∧ s.octOn o = true ∧ (s.txo
      o).entering = false ∧ s.syn o y = 3 ∧ (s.txo o).runNext = 0 ∧ s.synRun o = true)
    ∧ (∃ (s : State) (ob : BitVec 8) (rb : BitVec 8) (o : Fin 16) (y : Fin 2), ob.toNat = o.val ∧ rb.toNat < 2 ∧ s.octOn o = true ∧ (s.txo
      o).entering = false ∧ s.syn o y = 3 ∧ (s.txo o).runNext = 0 ∧ s.synRun o = false)
    ∧ (∃ (s : State) (ob : BitVec 8) (rb : BitVec 8) (o : Fin 16) (y : Fin 2), ob.toNat = o.val ∧ rb.toNat < 2 ∧ s.octOn o = true ∧ (s.txo
      o).entering = false ∧ s.syn o y = 2)
    ∧ (∃ (s : State) (ob : BitVec 8) (rb : BitVec 8) (o : Fin 16) (y : Fin 2), ob.toNat = o.val ∧ rb.toNat < 2 ∧ s.octOn o = true ∧ (s.txo
      o).entering = false ∧ s.syn o y = 2 ∧ s.synEnt o y + 100 ≤ s.tick ∧ (s.txo o).runNext = 0)
    ∧ (∃ (s : State) (ob : BitVec 8) (rb : BitVec 8) (o : Fin 16) (y : Fin 2), ob.toNat = o.val ∧ rb.toNat < 2 ∧ s.octOn o = true ∧ (s.txo
      o).entering = false ∧ s.syn o y = 4) := by
  refine ⟨⟨on [7], 0, 0, 0, 0, ?_⟩,
    ⟨{ (((on [7]).setSyn 0 0 5).setSyn 0 1 1).setF (R.TX_SYN_CTL 0) F.TX_SYN_CTL_AUTO_CAL 1 |>.setI (R.TX_SYN_CAL 0 0) F.TX_SYN_CAL_CAL_TEMP 20000 with time.tick := 100 }, 0, 0, 0, 0, ?_⟩,
    ⟨((on [22]).setSyn 15 0 3).setSyn 15 1 5, 15, 0, 15, 0, ?_⟩,
    ⟨(on [7]).setSyn 0 1 3, 0, 0, 0, 1, ?_⟩,
    ⟨(on [7]).setSyn 0 0 2, 0, 0, 0, 0, ?_⟩,
    ⟨{ (on [7]).setSyn 0 1 2 with time.tick := 100 }, 0, 0, 0, 1, ?_⟩,
    ⟨(on [7]).setSyn 0 0 4, 0, 0, 0, 0, ?_⟩⟩ <;> decide +kernel

/-- The hypotheses of every clause of `SynthesisersFail` are met. -/
theorem test_witness_SynthesisersFail :
    (∃ (s : State) (o : Fin 16) (y : Fin 2), s.syn o y = 3 ∧ s.synEnt o y + 300 ≤ s.tick ∧ (s.txo o).runNext = 0)
    ∧ (∃ (s : State) (o : Fin 16) (y : Fin 2), s.syn o y = 4 ∧ s.synEnt o y + 100 ≤ s.tick ∧ (s.txo o).runNext = 0)
    ∧ (∃ (s : State) (o : Fin 16), s.synRun o = true)
    ∧ (∃ (s : State) (o : Fin 16) (t0 : _), (s.txo o).lossTick = some t0 ∧ t0 + s.f (R.TX_SYN_CTL o) F.TX_SYN_CTL_PLL_LOCK_TIMEOUT ≤ s.tick
      ∧ s.synRun o = false) := by
  refine ⟨⟨{ (on [7]).setSyn 0 1 3 with time.tick := 300 }, 0, 1, ?_⟩,
    ⟨{ (on [7]).setSyn 0 0 4 with time.tick := 100 }, 0, 0, ?_⟩,
    ⟨(on [7]).setSyn 0 0 5, 0, ?_⟩,
    ⟨{ (((on [7]).setTxState 0 2 3).setTxo 0 { (on [7]).txo 0 with lossTick := some 0 }) with time.tick := 1000 }, 0, 0, ?_⟩⟩ <;> decide +kernel

/-- The hypotheses of every clause of `LaunchRequestsAct` are met. -/
theorem test_witness_LaunchRequestsAct :
    (∃ (s : State) (ob : BitVec 8) (lb : BitVec 8) (kb : BitVec 8) (o : Fin 16) (l : Fin 9), ob.toNat = o.val ∧ lb.toNat = l.val ∧
      s.txRefusal true o l kb.toNat = none ∧ s.txState o l = 0 ∧ s.laneCleared o l = false ∧ s.synRun o = true)
    ∧ (∃ (s : State) (ob : BitVec 8) (lb : BitVec 8) (kb : BitVec 8) (o : Fin 16) (l : Fin 9), ob.toNat = o.val ∧ lb.toNat = l.val ∧
      s.txRefusal true o l kb.toNat = none ∧ s.txState o l = 0 ∧ s.laneCleared o l = false ∧ s.synRun o = false)
    ∧ (∃ (s : State) (ob : BitVec 8) (lb : BitVec 8) (kb : BitVec 8) (o : Fin 16) (l : Fin 9), ob.toNat = o.val ∧ lb.toNat = l.val ∧
      s.txRefusal false o l kb.toNat = none ∧ s.txState o l = 3)
    ∧ (∃ (s : State) (ob : BitVec 8) (lb : BitVec 8) (fb : BitVec 8) (o : Fin 16) (l : Fin 9), ob.toNat = o.val ∧ lb.toNat = l.val ∧
      fb.toNat < 2 ∧ s.holdsLock = true ∧ s.octOn o = true ∧ (s.txo o).entering = false ∧ (fb.toNat = 1 ∨ s.laneInUse o l = false) ∧
      s.txState o l = 3)
    ∧ (∃ (s : State) (ob : BitVec 8) (lb : BitVec 8) (fb : BitVec 8) (o : Fin 16) (l : Fin 9), ob.toNat = o.val ∧ lb.toNat = l.val ∧
      fb.toNat < 2 ∧ s.holdsLock = true ∧ s.octOn o = true ∧ (s.txo o).entering = false ∧ (fb.toNat = 1 ∨ s.laneInUse o l = false) ∧
      s.txState o l = 2) := by
  refine ⟨⟨lit0, 0, 8, 15, 0, 8, ?_⟩,
    ⟨lit0.setSyn 0 0 4, 0, 0, 1, 0, 0, ?_⟩,
    ⟨lit0.setTxState 0 0 3, 0, 0, 1, 0, 0, ?_⟩,
    ⟨lit0.setTxState 0 0 3, 0, 0, 1, 0, 0, ?_⟩,
    ⟨lit0.setTxState 0 0 2, 0, 0, 0, 0, 0, ?_⟩⟩ <;> decide +kernel

/-- The hypotheses of every clause of `LaunchRequestsRefused` are met. -/
theorem test_witness_LaunchRequestsRefused :
    (∃ (s : State) (c : Cmd) (ob : BitVec 8) (lb : BitVec 8) (kb : BitVec 8) (o : Fin 16) (l : Fin 9) (e : _), ob.toNat = o.val ∧
      lb.toNat = l.val ∧ c.epoch = s.host.epoch ∧ s.txRefusal true o l kb.toNat = some e)
    ∧ (∃ (s : State) (c : Cmd) (ob : BitVec 8) (lb : BitVec 8) (kb : BitVec 8) (o : Fin 16) (l : Fin 9), ob.toNat = o.val ∧ lb.toNat =
      l.val ∧ c.epoch = s.host.epoch ∧ s.txRefusal false o l kb.toNat = none ∧ s.txState o l = 0 ∧ s.laneCleared o l = false)
    ∧ (∃ (s : State) (c : Cmd) (ob : BitVec 8) (lb : BitVec 8) (fb : BitVec 8) (o : Fin 16) (l : Fin 9), ob.toNat = o.val ∧ lb.toNat =
      l.val ∧ c.epoch = s.host.epoch ∧ fb.toNat = 0 ∧ s.holdsLock = true ∧ s.octOn o = true ∧ (s.txo o).entering = false ∧ s.laneInUse o l
      = true) := by
  refine ⟨⟨z, c0, 0, 0, 1, 0, 0, St.NOT_ACTIVE, ?_⟩,
    ⟨lit0, c0, 0, 0, 1, 0, 0, ?_⟩,
    ⟨lit0.setFo 0 { lit0.fo 0 with txPage := { seq := 1, slots := [(0, some 5)] } }, c0, 0, 0, 0, 0, 0, ?_⟩⟩ <;> decide +kernel

/-- The hypotheses of every clause of `RampsAndWaitsEnd` are met. -/
theorem test_witness_RampsAndWaitsEnd :
    (∃ (s : State) (o : Fin 16) (l : Fin 9) (c : Cmd) (q : LaunchReq), (s.txl o l).cur = some q ∧ q.cmd = some c ∧ c.epoch = s.host.epoch
      ∧ (s.txState o l = 2 ∨ s.txState o l = 4) ∧ (s.txl o l).start + (s.txl o l).len ≤ s.tick + 1)
    ∧ (∃ (s : State) (o : Fin 16) (l : Fin 9) (c : Cmd) (q : LaunchReq), (s.txl o l).cur = some q ∧ q.cmd = some c ∧ c.epoch = s.host.epoch
      ∧ s.txState o l = 5 ∧ (s.txl o l).retire = false ∧ (s.txl o l).start + (s.txl o l).len ≤ s.tick + 1)
    ∧ (∃ (s : State) (o : Fin 16) (l : Fin 9) (c : Cmd) (q : LaunchReq), (s.txl o l).cur = some q ∧ q.cmd = some c ∧ c.epoch = s.host.epoch
      ∧ s.txState o l = 1 ∧ (s.txl o l).start + s.f (R.TX_SYN_CTL o) F.TX_SYN_CTL_PLL_LOCK_TIMEOUT ≤ s.tick ∧ s.synRun o = false) := by
  refine ⟨⟨ramp 4 .step, 0, 0, c0, (⟨.step, 1, some c0, .host, 0⟩ : LaunchReq), ?_⟩,
    ⟨ramp 5 .disable, 0, 0, c0, (⟨.disable, 1, some c0, .host, 0⟩ : LaunchReq), ?_⟩,
    ⟨{ (ramp 1 .enable).setSyn 0 0 4 with time.tick := 60000 }, 0, 0, c0, (⟨.enable, 1, some c0, .host, 0⟩ : LaunchReq), ?_⟩⟩ <;> decide +kernel

/-- The hypotheses of every clause of `ReceiveChangesAreStagedAndLand` are met. -/
theorem test_witness_ReceiveChangesAreStagedAndLand :
    (∃ (s : State) (ob : BitVec 8) (mask : BitVec 16) (o : Fin 16), ob.toNat = o.val ∧ s.ffeSwapRefusal o mask.toNat = none)
    ∧ (∃ (s : State) (ob : BitVec 8) (mb : BitVec 8) (o : Fin 16), ob.toNat = o.val ∧ s.ffeModeRefusal o mb.toNat = none)
    ∧ (∃ (s : State) (ob : BitVec 8) (o : Fin 16) (l : Fin 9), ob.toNat = o.val ∧ s.ffeOn o l = true ∧ s.adapt o l = 1 ∧ s.tick % s.f
      (R.FFE_CTL o l) F.FFE_CTL_ADAPT_PERIOD = 0 ∧ s.swapStaged o l = false)
    ∧ (∃ (s : State) (c : Cmd) (ob : BitVec 8) (o : Fin 16) (w : _), ob.toNat = o.val ∧ s.swaps o = [w] ∧ w.due ≤ s.tick ∧ w.mode = none ∧
      w.cmd = some c ∧ c.epoch = s.host.epoch) := by
  refine ⟨⟨[0, 1, 2, 3, 4, 5, 6, 7, 8].foldl (fun s l => s.setF (R.FFE_CTL 0 l) F.FFE_CTL_ADAPT 0) (on [7]), 0, 511, 0, ?_⟩,
    ⟨[0, 1, 2, 3, 4, 5, 6, 7].foldl (fun s l => s.setF (R.FFE_CTL 15 l) F.FFE_CTL_ADAPT 0) (on [22]), 15, 1, 15, ?_⟩,
    ⟨(on [7]).setF (R.FFE_CTL 0 1) F.FFE_CTL_ADAPT 1, 0, 0, 1, ?_⟩,
    ⟨(on [7]).setSwaps 0 [⟨3, 0, some c0, none, false⟩], c0, 0, 0, (⟨3, 0, some c0, none, false⟩ : Swap), ?_⟩⟩ <;> decide +kernel

/-- The hypotheses of every clause of `ThresholdsAssertAndClear` are met. -/
theorem test_witness_ThresholdsAssertAndClear :
    (∃ (s : State) (o : Fin 16) (l : Fin 9) (u : Fin 4), s.octOn o = true ∧ s.b (monThr o l u) F.MON_THR_x_EN = true ∧ s.b (R.MON_STAT o
      l) (monBit u) = false ∧ s.f (monThr o l u) F.MON_THR_x_SET_N ≤ (s.rxl o l).setN.getD u 0)
    ∧ (∃ (s : State) (o : Fin 16) (l : Fin 9) (u : Fin 4), s.octOn o = true ∧ s.b (monThr o l u) F.MON_THR_x_EN = true ∧ s.b (R.MON_STAT o
      l) (monBit u) = true ∧ s.f (monThr o l u) F.MON_THR_x_CLR_N ≤ (s.rxl o l).clrN.getD u 0) := by
  refine ⟨⟨((on [7]).setF (monThr 0 0 2) F.MON_THR_x_EN 1).setF (monThr 0 0 2) F.MON_THR_x_SET_N 0, 0, 0, 2, ?_⟩,
    ⟨(((on [7]).setF (monThr 0 0 0) F.MON_THR_x_EN 1).setF (monThr 0 0 0) F.MON_THR_x_CLR_N 0).setB (R.MON_STAT 0 0) (monBit 0) true, 0, 0, 0, ?_⟩⟩ <;> decide +kernel

/-- The hypotheses of every clause of `CodewordsAreCounted` are met. -/
theorem test_witness_CodewordsAreCounted :
    (∃ (s : State) (o : Fin 16) (l : Fin 9) (cw : Fin 808) (errs : List (Nat × Nat)) (rel : List (Nat × Nat)), s.octOn o = true ∧
      s.yfecOn o = true ∧ s.rxLock o l = true ∧ l.val < 8 ∧ s.stdMode o = false ∧ cw.val % 101 ≠ 0 ∧ cw.val ≠ 807 ∧ (decodeOf false errs
      (s.erased o l rel)).ok = true)
    ∧ (∃ (s : State) (o : Fin 16) (l : Fin 9) (cw : Fin 808) (errs : List (Nat × Nat)) (rel : List (Nat × Nat)), s.octOn o = true ∧
      s.yfecOn o = true ∧ s.rxLock o l = true ∧ l.val < 8 ∧ s.stdMode o = false ∧ cw.val % 101 ≠ 0 ∧ cw.val ≠ 807 ∧ (decodeOf false errs
      (s.erased o l rel)).ok = false)
    ∧ (∃ (s : State) (o : Fin 16) (l : Fin 9) (cw : Fin 808) (fc : _) (n : _) (k : _), s.octOn o = true ∧ s.yfecOn o = true ∧ s.rxLock o l
      = true ∧ l.val < 8 ∧ s.stdMode o = false ∧ cw.val % 101 ≠ 0 ∧ cw.val ≠ 807 ∧ (s.fl o l).done = some (fc, n, k)) := by
  refine ⟨⟨(on [7, 39]).setAcq 0 7 6, 0, 7, 1, [(539, 1)], [], ?_⟩,
    ⟨(on [7, 39]).setAcq 0 0 6, 0, 0, 1, (List.range 21).map fun k => (k, 1), [], ?_⟩,
    ⟨((on [7, 39]).setAcq 0 0 6).setFl 0 0 { z.fl 0 0 with done := some (4, 2, 1) }, 0, 0, 1, 4, 2, 1, ?_⟩⟩ <;> decide +kernel

/-- The hypotheses of every clause of `DecoderLimit` are met. -/
theorem test_witness_DecoderLimit :
    (∃ (errs : List (Nat × Nat)), (∀ x ∈ errs, x.1 < 540 ∧ x.2 % 1024 ≠ 0)) := by
  refine ⟨[(0, 1), (539, 1023)], ?_⟩; decide +kernel

/-- The hypotheses of every clause of `FramesCount` are met. -/
theorem test_witness_FramesCount :
    (∃ (s : State) (o : Fin 16), s.octOn o = true ∧ s.yfecOn o = true ∧ s.stdMode o = false ∧ (s.fo o).last ≠ some s.tick ∧ s.octDark o =
      false ∧ s.synRun o = true)
    ∧ (∃ (s : State) (o : Fin 16), s.octOn o = true ∧ s.yfecOn o = true ∧ s.stdMode o = false ∧ (s.fo o).last ≠ some s.tick ∧ s.octDark o =
      true) := by
  refine ⟨⟨lit0.setTxState 0 0 3, 0, ?_⟩,
    ⟨(on [7, 39]).setFo 0 { z.fo 0 with last := some 9 }, 0, ?_⟩⟩ <;> decide +kernel

/-- The hypotheses of every clause of `CalendarPagesTakeForce` are met. -/
theorem test_witness_CalendarPagesTakeForce :
    (∃ (s : State) (o : Fin 16) (p : _) (t0 : _), (s.fo o).txNext = some (p, t0) ∧ t0 + 2 ≤ s.tick ∧ lanes9.find? (fun l => (s.aq o
      l).service) = none)
    ∧ (∃ (s : State) (o : Fin 16) (l : _) (a : _), lanes9.find? (fun l => (s.aq o l).service) = some l ∧ (s.fo o).txNext = none ∧ (s.fo
      o).ann = some a ∧ (s.fl o l).rxFc % 2 ^ 16 = a.switchFc)
    ∧ (∃ (s : State) (o : Fin 16) (a : _), (s.fo o).ann = none ∧ (s.fo o).carried = some a ∧ a.parts = 255) := by
  refine ⟨⟨{ (on [7]).setFo 0 { z.fo 0 with txNext := some ({ seq := 3 }, 0) } with time.tick := 2 }, 0, ({ seq := 3 } : CalPage), 0, ?_⟩,
    ⟨((on [7]).setFo 0 { z.fo 0 with ann := some { seq := 3, switchFc := 0, parts := 255, slots := [], haly := false } }).setAq 0 7 { z.aq 0 7 with service := true }, 0, 7, ({ seq := 3, switchFc := 0, parts := 255, slots := [], haly := false } : RxAnn), ?_⟩,
    ⟨(on [7]).setFo 0 { z.fo 0 with carried := some { seq := 3, switchFc := 0, parts := 255, slots := [], haly := false } }, 0, ({ seq := 3, switchFc := 0, parts := 255, slots := [], haly := false } : RxAnn), ?_⟩⟩ <;> decide +kernel

/-- The hypotheses of every clause of `CodewordsAre2880Symbols` are met. -/
theorem test_witness_CodewordsAre2880Symbols :
    (∃ (pay : List Bool), pay.length = 5000) := by
  refine ⟨List.replicate 5000 true, ?_⟩; decide +kernel

/-- The hypotheses of every clause of `SignalAndTone` are met. -/
theorem test_witness_SignalAndTone :
    (∃ (s : State) (o : Fin 16) (l : Fin 9), s.octOn o = true ∧ s.rxRetired o l = false ∧ s.rawLos o l = false ∧ s.losJudged o l true =
      true)
    ∧ (∃ (s : State) (o : Fin 16) (l : Fin 9), s.octOn o = true ∧ s.rxRetired o l = false ∧ s.rawLos o l = true ∧ s.losJudged o l false =
      true)
    ∧ (∃ (s : State) (o : Fin 16), s.octOn o = true ∧ s.stdMode o = false ∧ s.rxRetired o 8 = false ∧ s.rawLos o 8 = false ∧ s.lcData o =
      false ∧ s.toneLock o = false)
    ∧ (∃ (s : State) (o : Fin 16), s.toneLock o = true) := by
  refine ⟨⟨(on [7]).setB (R.RX_AFE_STAT 0 8) F.RX_AFE_STAT_RAW_LOS false, 0, 8, ?_⟩,
    ⟨(on [22]).setB (R.RX_AFE_STAT 15 0) F.RX_AFE_STAT_RAW_LOS true, 15, 0, ?_⟩,
    ⟨(on [7]).setB (R.RX_AFE_STAT 0 8) F.RX_AFE_STAT_RAW_LOS false, 0, ?_⟩,
    ⟨(on [7]).setB (R.ACQ_STAT 0) F.ACQ_STAT_TONE_LOCK true, 0, ?_⟩⟩ <;> decide +kernel

/-- The hypotheses of every clause of `AcquisitionAdvances` are met. -/
theorem test_witness_AcquisitionAdvances :
    (∃ (s : State) (o : Fin 16) (l : Fin 9), s.acqState o l = 2 ∧ (s.aq o l).since + 8 ≤ s.tick)
    ∧ (∃ (s : State) (o : Fin 16) (l : Fin 9), s.acqState o l = 7 ∧ l.val < 8)
    ∧ (∃ (s : State) (o : Fin 16) (l : Fin 9), s.acqState o l = 7 ∧ (s.aq o l).since + 4 ≤ s.tick)
    ∧ (∃ (s : State) (o : Fin 16) (l : Fin 9), s.acqState o l = 3 ∧ (s.aq o l).since + s.f (R.ACQ_CTL o) F.ACQ_CTL_EQ_TICKS ≤ s.tick)
    ∧ (∃ (s : State) (o : Fin 16) (l : Fin 9) (exact : Nat), s.acqState o l = 4 ∧ l.val < 8 ∧ s.stdMode o = false ∧ s.f (R.ACQ_CTL o)
      F.ACQ_CTL_HIT_MIN ≤ exact)
    ∧ (∃ (s : State) (o : Fin 16) (l : Fin 9), s.acqState o l = 5 ∧ l.val < 8 ∧ s.stdMode o = false)
    ∧ (∃ (s : State) (o : Fin 16) (l : Fin 9), s.acqState o l = 4 ∧ (s.aq o l).since + 255 ≤ s.tick) := by
  refine ⟨⟨acq 2, 0, 0, ?_⟩,
    ⟨acq 7, 0, 0, ?_⟩,
    ⟨acq 7, 0, 0, ?_⟩,
    ⟨acq 3, 0, 0, ?_⟩,
    ⟨acq 4, 0, 0, 4000, ?_⟩,
    ⟨acq 5, 0, 0, ?_⟩,
    ⟨acq 4, 0, 0, ?_⟩⟩ <;> decide +kernel

/-- The hypotheses of every clause of `AcquisitionCommands` are met. -/
theorem test_witness_AcquisitionCommands :
    (∃ (s : State) (c : Cmd) (ob : BitVec 8) (lb : BitVec 8) (nb : BitVec 8) (cb : BitVec 8) (o : Fin 16) (l : Fin 9), ob.toNat = o.val ∧
      lb.toNat = l.val ∧ c.epoch = s.host.epoch ∧ s.stdMode o = false ∧ s.b (R.ACQ_CTL o) F.ACQ_CTL_OWNER = true ∧ s.clkMode o = false ∧
      s.acqState o l = 4 ∧ (s.aq o l).lastSub ≠ some s.tick ∧ 1 ≤ nb.toNat ∧ nb.toNat < 64 ∧ cb.toNat = 0)
    ∧ (∃ (s : State) (c : Cmd) (ob : BitVec 8) (lb : BitVec 8) (cb : BitVec 8) (o : Fin 16) (l : Fin 9), ob.toNat = o.val ∧ lb.toNat =
      l.val ∧ c.epoch = s.host.epoch ∧ s.stdMode o = false ∧ (s.b (R.ACQ_CTL o) F.ACQ_CTL_OWNER = false ∨ s.clkMode o = true) ∧ cb.toNat =
      1)
    ∧ (∃ (s : State) (c : Cmd) (ob : BitVec 8) (lb : BitVec 8) (mask : BitVec 16) (o : Fin 16) (l : Fin 9), ob.toNat = o.val ∧ lb.toNat =
      l.val ∧ c.epoch = s.host.epoch ∧ s.octOn o = true ∧ mask.toNat < 512 ∧ (∀ k, k < 9 → bitOf mask.toNat k = true → s.rxRetired o k =
      false))
    ∧ (∃ (s : State) (c : Cmd) (ob : BitVec 8) (lb : BitVec 8) (o : Fin 16) (l : Fin 9), ob.toNat = o.val ∧ lb.toNat = l.val ∧ c.epoch =
      s.host.epoch ∧ s.acqState o l = 6 ∧ l.val < 8) := by
  refine ⟨⟨(acq 4).setF (R.ACQ_CTL 0) F.ACQ_CTL_OWNER 1, c0, 0, 0, 5, 0, 0, 0, ?_⟩,
    ⟨acq 4, c0, 0, 0, 1, 0, 0, ?_⟩,
    ⟨acq 6, c0, 0, 0, 1, 0, 0, ?_⟩,
    ⟨acq 6, c0, 0, 0, 0, 0, ?_⟩⟩ <;> decide +kernel

/-- The hypotheses of every clause of `OctetsAlign` are met. -/
theorem test_witness_OctetsAlign :
    (∃ (s : State) (o : Fin 16), s.octOn o = true ∧ s.stdMode o = false ∧ s.slotLanes o ≠ [] ∧ s.anyService o = false ∧ (∀ k ∈
      s.slotLanes o, s.rxLock o k = true ∧ (s.aq o k).known = true) ∧ (arrivalSpan ((s.slotLanes o).map fun k => (s.aq o k).arrival)).2 ≤
      64)
    ∧ (∃ (s : State) (o : Fin 16) (l : Fin 9), s.rxLock o l = true ∧ (s.aq o l).known = true ∧ s.b (R.ACQ_STAT o) F.ACQ_STAT_OCT_ALIGNED =
      true ∧ 32 < (s.skewOf o (s.aq o l).arrival).natAbs ∧ (s.aq o l).service = false)
    ∧ (∃ (s : State) (o : Fin 16) (l : Fin 9), s.rxLock o l = true ∧ (s.aq o l).known = true ∧ s.b (R.ACQ_STAT o) F.ACQ_STAT_OCT_ALIGNED =
      true ∧ 32 < (s.skewOf o (s.aq o l).arrival).natAbs ∧ (s.aq o l).service = true)
    ∧ (∃ (s : State) (o : Fin 16), (s.ao o).clkStaged = true)
    ∧ (∃ (s : State) (o : Fin 16) (l : Fin 9), s.octOn o = true ∧ s.stdMode o = true ∧ l.val < 8 ∧ s.acqState o l = 4 ∧ (∀ k ∈ s.linePhy o
      l, (s.acqState o k = 4 ∨ s.acqState o k = 6) ∧ s.rawLos o k = false)) := by
  refine ⟨⟨locked, 0, ?_⟩,
    ⟨(locked.setB (R.ACQ_STAT 0) F.ACQ_STAT_OCT_ALIGNED true).setAq 0 1 { z.aq 0 1 with known := true, arrival := 5000 }, 0, 1, ?_⟩,
    ⟨(locked.setB (R.ACQ_STAT 0) F.ACQ_STAT_OCT_ALIGNED true).setAq 0 1 { z.aq 0 1 with known := true, service := true, arrival := 5000 }, 0, 1, ?_⟩,
    ⟨(locked.setB (R.ACQ_STAT 0) F.ACQ_STAT_OCT_ALIGNED true).setAo 0 { locked.ao 0 with clkStaged := true }, 0, ?_⟩,
    ⟨(((acq 4).setF (R.FRM_CTL 0) F.FRM_CTL_MODE 1)).setB (R.RX_AFE_STAT 0 0) F.RX_AFE_STAT_RAW_LOS false, 0, 0, ?_⟩⟩ <;> decide +kernel

/-- The hypotheses of every clause of `ConversionAtTheReceiver` are met. -/
theorem test_witness_ConversionAtTheReceiver :
    (∃ (s : State) (o : Fin 16) (t0 : _), (s.ao o).convDue = some t0 ∧ t0 ≤ s.tick ∧ s.convRx o = 1)
    ∧ (∃ (s : State) (o : Fin 16), s.convRx o = 1 ∧ (s.ao o).convDue = none ∧ (s.ao o).convTick + s.convLimit o ≤ s.tick ∧ (s.ao o).convExp
      < 2)
    ∧ (∃ (s : State) (o : Fin 16), s.convRx o = 1 ∧ (s.ao o).convDue = none ∧ (s.ao o).convTick + s.convLimit o ≤ s.tick ∧ 2 ≤ (s.ao
      o).convExp)
    ∧ (∃ (s : State) (o : Fin 16), (s.convRx o = 1 ∨ s.convRx o = 2))
    ∧ (∃ (s : State) (o : Fin 16) (d : _), s.framesPastB o = some d ∧ 2 ≤ d ∧ s.convRx o = 3 ∧ s.rxLock o 8 = true ∧ s.convRxLane o < 8 ∧
      s.f (R.FRM_LANE_STAT o 8) F.FRM_LANE_STAT_RX_BRIDGE = s.convRxLane o)
    ∧ (∃ (s : State) (o : Fin 16), s.convRx o = 3 ∧ s.rxLock o 8 = false)
    ∧ (∃ (s : State) (o : Fin 16), s.convRx o = 4 ∧ (s.ao o).doneOwed = true ∧ (s.ao o).convTick + s.convLimit o ≤ s.tick) := by
  refine ⟨⟨((acq 6).setF (R.CONV_STAT 0) F.CONV_STAT_RX_STATE 1).setAo 0 { z.ao 0 with convDue := some 4000 }, 0, 4000, ?_⟩,
    ⟨atTick 90000 ((acq 6).setF (R.CONV_STAT 0) F.CONV_STAT_RX_STATE 1), 0, ?_⟩,
    ⟨(atTick 90000 ((acq 6).setF (R.CONV_STAT 0) F.CONV_STAT_RX_STATE 1)).setAo 0 { z.ao 0 with convExp := 2 }, 0, ?_⟩,
    ⟨((acq 6).setF (R.CONV_STAT 0) F.CONV_STAT_RX_STATE 2), 0, ?_⟩,
    ⟨(((((acq 6).setF (R.FRM_LANE_STAT 0 8) F.FRM_LANE_STAT_RX_BRIDGE 0).setF (R.CONV_STAT 0) F.CONV_STAT_RX_STATE 3).setF (R.ACQ_LANE_STAT 0 8) F.ACQ_LANE_STAT_STATE 6).setAo 0 { z.ao 0 with rxB := some 7 }).setFl 0 8 { z.fl 0 8 with rxFc := 9 }, 0, 2, ?_⟩,
    ⟨((acq 6).setF (R.CONV_STAT 0) F.CONV_STAT_RX_STATE 3), 0, ?_⟩,
    ⟨(atTick 90000 ((acq 6).setF (R.CONV_STAT 0) F.CONV_STAT_RX_STATE 4)).setAo 0 { z.ao 0 with doneOwed := true }, 0, ?_⟩⟩ <;> decide +kernel

/-- The hypotheses of every clause of `RetirementByCommand` are met. -/
theorem test_witness_RetirementByCommand :
    (∃ (s : State) (ob : BitVec 8) (lb : BitVec 8) (o : Fin 16) (l : Fin 8), ob.toNat = o.val ∧ lb.toNat = l.val ∧ s.convTx o = 1 ∧
      s.fcAhead o 0 = s.f (R.CONV_STAT o) F.CONV_STAT_TX_B)
    ∧ (∃ (s : State) (ob : BitVec 8) (lb : BitVec 8) (db : BitVec 8) (o : Fin 16) (l : Fin 8), ob.toNat = o.val ∧ lb.toNat = l.val ∧
      db.toNat = 1 ∧ s.laneRetireRefusal o l true = none ∧ s.convNak o = 0)
    ∧ (∃ (s : State) (ob : BitVec 8) (lb : BitVec 8) (db : BitVec 8) (o : Fin 16) (l : Fin 8), ob.toNat = o.val ∧ lb.toNat = l.val ∧
      db.toNat = 0 ∧ s.laneRetireRefusal o l false = none ∧ s.convPossible o = true)
    ∧ (∃ (s : State) (c : Cmd) (ob : BitVec 8) (lb : BitVec 8) (db : BitVec 8) (o : Fin 16) (l : Fin 8), ob.toNat = o.val ∧ lb.toNat =
      l.val ∧ db.toNat = 0 ∧ s.laneRetireRefusal o l false = none ∧ s.convPossible o = false ∧ c.epoch = s.host.epoch)
    ∧ (∃ (s : State) (c : Cmd) (ob : BitVec 8) (lb : BitVec 8) (o : Fin 16) (l : Fin 8), ob.toNat = o.val ∧ lb.toNat = l.val ∧ s.octOn o =
      true ∧ s.octFree o = true ∧ c.epoch = s.host.epoch) := by
  refine ⟨⟨((acq 6).setF (R.CONV_STAT 0) F.CONV_STAT_TX_STATE 1).setF (R.CONV_STAT 0) F.CONV_STAT_TX_B 0, 0, 0, 0, 0, ?_⟩,
    ⟨((acq 6).setF (R.TX_LANE_STAT 0 8) F.TX_LANE_STAT_STATE 3).setF (R.TONE_CTL 0) F.TONE_CTL_TONE_EN 1, 0, 0, 1, 0, 0, ?_⟩,
    ⟨(acq 6).setF (R.ACQ_STAT 0) F.ACQ_STAT_TONE_LOCK 1, 0, 0, 0, 0, 0, ?_⟩,
    ⟨acq 6, c0, 0, 0, 0, 0, 0, ?_⟩,
    ⟨acq 1, c0, 0, 0, 0, 0, ?_⟩⟩ <;> decide +kernel

/-- The hypotheses of every clause of `SlotPhysTrain` are met. -/
theorem test_witness_SlotPhysTrain :
    (∃ (s : State) (g : Fin 16) (i : Fin 16) (ts : List (Nat × Nat)) (fs : List Nat), s.phyHead g i = i.val ∧ s.slState g i = 1 ∧
      s.anTech g i ∈ ts ∧ s.anFec g i ∈ fs)
    ∧ (∃ (s : State) (g : Fin 16) (i : Fin 16) (ts : List (Nat × Nat)) (fs : List Nat), s.phyHead g i = i.val ∧ s.slState g i = 1 ∧
      (s.anTech g i ∉ ts ∨ s.anFec g i ∉ fs))
    ∧ (∃ (s : State) (g : Fin 16) (i : Fin 16), s.phyHead g i = i.val ∧ s.slState g i = 1 ∧ 50000 ≤ (s.slo g i).anTicks)
    ∧ (∃ (s : State) (g : Fin 16) (i : Fin 16), s.phyHead g i = i.val ∧ s.slState g i = 2)
    ∧ (∃ (s : State) (g : Fin 16) (i : Fin 16), s.phyHead g i = i.val ∧ s.slState g i = 2 ∧ (s.fltUnit 1 g i).armed = false) := by
  refine ⟨⟨slot 1, 0, 0, [(slot 1).anTech 0 0], [(slot 1).anFec 0 0], ?_⟩,
    ⟨slot 1, 0, 0, [], [], ?_⟩,
    ⟨{ (slot 1) with map.lane := [(0, { anTicks := 50000 })] }, 0, 0, ?_⟩,
    ⟨slot 2, 0, 0, ?_⟩,
    ⟨slot 2, 0, 0, ?_⟩⟩ <;> decide +kernel

/-- The hypotheses of every clause of `SlotPhysGoUpAndDown` are met. -/
theorem test_witness_SlotPhysGoUpAndDown :
    (∃ (s : State) (g : Fin 16) (i : Fin 16), s.phyHead g i = i.val ∧ s.slState g i = 3 ∧ (∀ k ∈ s.phy g i, s.b (R.SL_STAT g k)
      F.SL_STAT_RAW_LOS = false))
    ∧ (∃ (s : State) (g : Fin 16) (i : Fin 16), s.phyHead g i = i.val ∧ s.slState g i = 4 ∧ (s.fltUnit 1 g i).armed = false)
    ∧ (∃ (s : State) (g : Fin 16) (i : Fin 16), s.phyHead g i = i.val ∧ s.sgOn g = true ∧ s.b (R.SL_STAT g i) F.SL_STAT_RAW_LOS = false ∧
      s.slState g i = 4)
    ∧ (∃ (s : State) (g : Fin 16) (i : Fin 16), s.phyHead g i = i.val ∧ s.sgOn g = true ∧ s.b (R.SL_STAT g i) F.SL_STAT_RAW_LOS = true ∧
      (s.fltUnit 1 g i).armed = false)
    ∧ (∃ (s : State) (c : Cmd) (gb : BitVec 8) (mask : BitVec 16) (g : Fin 16) (i : Fin 16), s.phyHead g i = i.val ∧ gb.toNat = g.val ∧
      s.sgOn g = true ∧ c.epoch = s.host.epoch ∧ (∀ k, k < 16 → bitOf mask.toNat k = true → ∀ m ∈ s.phy g k, bitOf mask.toNat m = true)) := by
  refine ⟨⟨slot 3 |>.setB (R.SL_STAT 0 0) F.SL_STAT_RAW_LOS false, 0, 0, ?_⟩,
    ⟨slot 4, 0, 0, ?_⟩,
    ⟨slot 4 |>.setB (R.SL_STAT 0 0) F.SL_STAT_RAW_LOS false, 0, 0, ?_⟩,
    ⟨slot 3 |>.setB (R.SL_STAT 0 0) F.SL_STAT_RAW_LOS true, 0, 0, ?_⟩,
    ⟨slot 4, c0, 0, 1, 0, 0, ?_⟩⟩ <;> decide +kernel

/-- The hypotheses of every clause of `ClientsAreAddedAndDeleted` are met. -/
theorem test_witness_ClientsAreAddedAndDeleted :
    (∃ (s : State) (c : Cmd) (a : ClientAddArgs), s.holdsLock = true ∧ c.epoch = s.host.epoch ∧ s.addAccept a = none ∧ s.addTick a = none)
    ∧ (∃ (s : State) (c : Cmd) (a : ClientAddArgs), s.holdsLock = true ∧ c.epoch = s.host.epoch ∧ s.addFieldsOk a = true ∧ s.defined
      a.client.toNat = true)
    ∧ (∃ (s : State) (c : Cmd) (cb : BitVec 16) (wb : BitVec 8) (kb : BitVec 8), s.holdsLock = true ∧ c.epoch = s.host.epoch ∧ cb.toNat <
      512 ∧ s.defined cb.toNat = true ∧ wb.toNat = 1 ∧ (s.cls cb.toNat = 2 ∨ s.cls cb.toNat = 3) ∧ (kb.toNat = 2 ∨ kb.toNat = 3))
    ∧ (∃ (s : State) (c : Cmd) (cb : BitVec 16) (wb : BitVec 8) (ab : BitVec 8) (yb : BitVec 8) (mask : BitVec 128) (o : _) (l : _),
      s.holdsLock = true ∧ c.epoch = s.host.epoch ∧ cb.toNat < 512 ∧ s.defined cb.toNat = true ∧ wb.toNat = 2 ∧ s.modifySlotsBad cb.toNat
      yb.toNat (ab.toNat % 2 == 1) mask.toNat = false ∧ s.moveSlots cb.toNat yb.toNat (ab.toNat % 2 == 1) mask.toNat = some (o, l) ∧
      s.calBusy o = false ∧ s.stdMode o = false)
    ∧ (∃ (s : State) (c : Cmd) (cb : BitVec 16), s.holdsLock = true ∧ c.epoch = s.host.epoch ∧ cb.toNat < 512 ∧ s.defined cb.toNat = true ∧
      (∀ o ∈ s.sinkOcts cb.toNat, s.calBusy o = false))
    ∧ (∃ (s : State) (c : Cmd) (cb : BitVec 16), s.holdsLock = true ∧ c.epoch = s.host.epoch ∧ cb.toNat < 512 ∧ s.defined cb.toNat = false) := by
  refine ⟨⟨{ (on [3, 6, 7, 23, 39]).setB R.PAIR_STAT F.PAIR_STAT_HOLDER true with time.tick := 9 }, c0, add5, ?_⟩,
    ⟨{ (on [3, 6, 7, 23, 39]).setB R.PAIR_STAT F.PAIR_STAT_HOLDER true |>.setF (R.MAP_CLI_DEF 5) F.MAP_CLI_DEF_DEFINED 1 with map.defined := [5] }, c0, add5, ?_⟩,
    ⟨((cliB.setF (R.MAP_CLI_DEF 5) F.MAP_CLI_DEF_CLASS 2)), c0, 5, 1, 3, ?_⟩,
    ⟨(cliB.setF (R.MAP_CLI_DEF 5) F.MAP_CLI_DEF_CLASS 2), c0, 5, 2, 1, 0, 0, 0, [0], ?_⟩,
    ⟨cliB, c0, 5, ?_⟩,
    ⟨cliB, c0, 511, ?_⟩⟩ <;> decide +kernel

/-- The hypotheses of every clause of `ProtectionSelectsRoutes` are met. -/
theorem test_witness_ProtectionSelectsRoutes :
    (∃ (s : State) (c : Fin 512), s.isB c = true ∧ (s.cli c).holdKind ≠ 0 ∧ s.f (R.PROT_STAT c) F.PROT_STAT_HOLD_LEFT = 0 ∧ (s.cli
      c).force = none ∧ (s.cli c).manual = none ∧ s.protReq c = (s.cli c).holdKind)
    ∧ (∃ (s : State) (c : Fin 512), s.isB c = true ∧ (s.cli c).wtrRun = true ∧ s.f (R.PROT_STAT c) F.PROT_STAT_WTR_LEFT = 0 ∧ (s.cli
      c).force = none ∧ (s.cli c).manual = none ∧ s.active c ≠ s.f (R.PROT_CFG c) F.PROT_CFG_PREF ∧ s.sf c (1 - s.active c) = false ∧ s.sd
      c (1 - s.active c) = false)
    ∧ (∃ (s : State) (d : Cmd) (c : Fin 512) (cb : BitVec 16) (qb : BitVec 8), s.isB c = true ∧ s.holdsLock = true ∧ d.epoch = s.host.epoch
      ∧ cb.toNat = c.val ∧ (qb.toNat = 1 ∨ qb.toNat = 2))
    ∧ (∃ (s : State) (d : Cmd) (c : Fin 512) (cb : BitVec 16) (qb : BitVec 8), s.isB c = true ∧ s.holdsLock = true ∧ d.epoch = s.host.epoch
      ∧ cb.toNat = c.val ∧ qb.toNat = 0)
    ∧ (∃ (s : State) (d : Cmd) (c : Fin 512) (cb : BitVec 16) (hb : BitVec 16) (fb : BitVec 8) (ub : BitVec 8) (wb : BitVec 32), s.isB c =
      true ∧ s.holdsLock = true ∧ d.epoch = s.host.epoch ∧ cb.toNat = c.val ∧ protFieldsOk fb.toNat ub.toNat hb.toNat wb.toNat = true) := by
  refine ⟨⟨(cliB.setF (R.PROT_STAT 5) F.PROT_STAT_SF0 1).setCli 5 { z.cli 5 with holdKind := 4 }, 5, ?_⟩,
    ⟨(cliB.setF (R.PROT_CFG 5) F.PROT_CFG_PREF 1).setCli 5 { z.cli 5 with wtrRun := true }, 5, ?_⟩,
    ⟨cliB, c0, 5, 5, 2, ?_⟩,
    ⟨cliB, c0, 5, 5, 0, ?_⟩,
    ⟨cliB, c0, 5, 5, 1, 1, 1, 1, ?_⟩⟩ <;> decide +kernel

/-- The hypotheses of every clause of `ProtectionStatesFollowTheDelay` are met. -/
theorem test_witness_ProtectionStatesFollowTheDelay :
    (∃ (s : State) (c : Fin 512), s.defined c = true)
    ∧ (∃ (s : State) (c : Fin 512) (c0 : Nat) (c1 : Nat), s.isB c = true ∧ s.protState c = 3 ∧ c0 ≠ c1)
    ∧ (∃ (s : State) (c : Fin 512) (c0 : Nat) (c1 : Nat), s.isB c = true ∧ s.protState c = 3 ∧ c0 = c1 ∧ s.b (R.PROT_CFG c)
      F.PROT_CFG_REPAIR = true)
    ∧ (∃ (s : State) (c : Fin 512), s.isB c = true ∧ s.protState c = 3 ∧ 8 ≤ (s.cli c).overN)
    ∧ (∃ (s : State) (c : Fin 512), s.isB c = true ∧ s.protState c = 4 ∧ 8 ≤ (s.cli c).underN)
    ∧ (∃ (s : State) (c : Fin 512), s.isB c = true ∧ s.protState c = 3 ∧ 8 ≤ (s.cli c).signN)
    ∧ (∃ (s : State) (c : Fin 512), s.isB c = true ∧ s.protState c = 1 ∧ 600 ≤ (s.cli c).aloneN ∧ (s.cli c).aloneR < 2)
    ∧ (∃ (s : State) (c : Fin 512), s.isB c = true ∧ (s.protState c = 2 ∨ s.protState c = 3 ∨ s.protState c = 4) ∧ 600 ≤ (s.cli c).goneN) := by
  refine ⟨⟨cliB, 5, ?_⟩,
    ⟨cliB.setF (R.PROT_STAT 5) F.PROT_STAT_STATE 3, 5, 0, 1, ?_⟩,
    ⟨(cliB.setF (R.PROT_STAT 5) F.PROT_STAT_STATE 3).setF (R.PROT_CFG 5) F.PROT_CFG_REPAIR 1, 5, 0, 0, ?_⟩,
    ⟨(cliB.setF (R.PROT_STAT 5) F.PROT_STAT_STATE 3).setCli 5 { z.cli 5 with overN := 8 }, 5, ?_⟩,
    ⟨(cliB.setF (R.PROT_STAT 5) F.PROT_STAT_STATE 4).setCli 5 { z.cli 5 with underN := 8 }, 5, ?_⟩,
    ⟨(cliB.setF (R.PROT_STAT 5) F.PROT_STAT_STATE 3).setCli 5 { z.cli 5 with signN := 8 }, 5, ?_⟩,
    ⟨(cliB.setF (R.PROT_STAT 5) F.PROT_STAT_STATE 1).setCli 5 { z.cli 5 with aloneN := 600, aloneR := 1 }, 5, ?_⟩,
    ⟨(cliB.setF (R.PROT_STAT 5) F.PROT_STAT_STATE 2).setCli 5 { z.cli 5 with goneN := 600 }, 5, ?_⟩⟩ <;> decide +kernel

/-- The hypotheses of every clause of `DeskewChannelsTrainAndFail` are met. -/
theorem test_witness_DeskewChannelsTrainAndFail :
    (∃ (s : State) (ch : Fin 24), s.isOn domGDDR = true ∧ s.b R.GD_STAT F.GD_STAT_READY = false ∧ s.f R.GD_STAT F.GD_STAT_CH_FAIL = 0 ∧
      s.b (R.GD_CH_STAT ch) F.GD_CH_STAT_FAIL = false ∧ (∀ x ∈ s.classB, s.protState x ≠ 5))
    ∧ (∃ (s : State) (c : Fin 512), s.isOn domGDDR = true ∧ s.b R.GD_STAT F.GD_STAT_READY = false ∧ s.f R.GD_STAT F.GD_STAT_CH_FAIL = 0 ∧
      s.classB = [c.val] ∧ s.protState c = 5)
    ∧ (∃ (s : State) (ch : Fin 24), s.isOn domGDDR = true ∧ s.b (R.GD_CH_STAT ch) F.GD_CH_STAT_TRAINED = true ∧ s.b (R.GD_CH_STAT ch)
      F.GD_CH_STAT_FAIL = false ∧ 50 * s.f R.GD_CTL F.GD_CTL_RETRAIN_DT < (s.mastTemp - s.i (R.GD_CH_STAT ch)
      F.GD_CH_STAT_TRAIN_TEMP).natAbs)
    ∧ (∃ (s : State) (c : Fin 512), s.isOn domGDDR = true ∧ s.b R.GD_STAT F.GD_STAT_READY = true ∧ s.classB = [c.val]) := by
  refine ⟨⟨on [4], 19, ?_⟩,
    ⟨let s := (cliB.setF (R.PROT_STAT 5) F.PROT_STAT_STATE 5); s.setF (R.PWR_DOM_STAT 4) F.PWR_DOM_STAT_STATE 0, 5, ?_⟩,
    ⟨(on [4]).setF (R.GD_CH_STAT 0) F.GD_CH_STAT_TRAINED 1 |>.setI (R.GD_CH_STAT 0) F.GD_CH_STAT_TRAIN_TEMP 20000, 0, ?_⟩,
    ⟨let s := (cliB.setF (R.PROT_STAT 5) F.PROT_STAT_STATE 3).setF R.GD_STAT F.GD_STAT_READY 1; s.setF (R.PWR_DOM_STAT 4) F.PWR_DOM_STAT_STATE 0, 5, ?_⟩⟩ <;> decide +kernel

/-- The hypotheses of every clause of `HalyardMessagesAreSent` are met. -/
theorem test_witness_HalyardMessagesAreSent :
    (∃ (s : State) (ob : BitVec 8) (db : BitVec 8) (pb : BitVec 8) (rb : BitVec 8) (len : BitVec 16) (addr : BitVec 64) (o : Fin 16),
      ob.toNat = o.val ∧ s.halSendRefusal o db.toNat pb.toNat rb.toNat len.toNat addr.toNat = none)
    ∧ (∃ (s : State) (c : Cmd) (ob : BitVec 8) (db : BitVec 8) (pb : BitVec 8) (rb : BitVec 8) (len : BitVec 16) (addr : BitVec 64) (o :
      Fin 16) (e : _), ob.toNat = o.val ∧ s.halSendRefusal o db.toNat pb.toNat rb.toNat len.toNat addr.toNat = some e ∧ c.epoch =
      s.host.epoch)
    ∧ (∃ (s : State) (ob : BitVec 8) (o : Fin 16) (m : HalyMsg) (l : List HalyMsg) (ps : _), ob.toNat = o.val ∧ s.halServes o = true ∧
      (s.hal o).flight = none ∧ (s.hal o).queue = m :: l ∧ s.halPaths o m = 0 :: ps ∧ s.halCanSend o 0 m = true ∧ s.halTx o ≠ 0)
    ∧ (∃ (s : State) (c : Cmd) (ob : BitVec 8) (o : Fin 16) (m : HalyMsg), ob.toNat = o.val ∧ s.halServes o = true ∧ (s.hal o).flight =
      some (m, 0) ∧ m.todo = [] ∧ m.owed = 1 ∧ m.cmd = some c ∧ c.epoch = s.host.epoch ∧ (s.hal o).queue = [] ∧ (s.hal o).backlog = [] ∧
      s.halTx o = 2)
    ∧ (∃ (s : State) (ob : BitVec 8) (o : Fin 16) (m : HalyMsg) (l : List HalyMsg) (ps : _), ob.toNat = o.val ∧ s.halServes o = true ∧
      (s.hal o).flight = none ∧ (s.hal o).queue = m :: l ∧ s.halPaths o m = 0 :: ps ∧ s.halCanSend o 0 m = true ∧ s.halTx o = 0)
    ∧ (∃ (s : State) (ob : BitVec 8) (o : Fin 16), ob.toNat = o.val ∧ s.halTx o = 3 ∧ (s.hal o).queue = [])
    ∧ (∃ (s : State) (ob : BitVec 8) (o : Fin 16), ob.toNat = o.val ∧ s.halServes o = true ∧ s.f (R.HALY_CTL o) F.HALY_CTL_BEACON ≠ 0 ∧
      (s.hal o).lastBeacon + s.f (R.HALY_CTL o) F.HALY_CTL_BEACON ≤ s.tick ∧ s.halLocal o 0 = true ∧ (s.hal o).depth < 64)
    ∧ (∃ (s : State) (ob : BitVec 8) (o : Fin 16) (m : HalyMsg) (l : List HalyMsg), ob.toNat = o.val ∧ s.halServes o = true ∧ s.halShared o
      = true ∧ s.halTx o = 0 ∧ s.tick % s.f (R.HALY_SHARE o) F.HALY_SHARE_SLOT_TICKS = 0 ∧ s.tick / s.f (R.HALY_SHARE o)
      F.HALY_SHARE_SLOT_TICKS % (s.f (R.HALY_SHARE o) F.HALY_SHARE_STATIONS + 1) = s.f (R.HALY_SHARE o) F.HALY_SHARE_STATION ∧ (s.hal
      o).queue = m :: l ∧ m.typ ≠ 1 ∧ m.todo = [] ∧ m.choice = 1 ∧ s.halUp o 0 = true ∧ 3888 + 10 * halSymbols m.payload.length + 5832 ≤
      9720 * s.f (R.HALY_SHARE o) F.HALY_SHARE_SLOT_TICKS)
    ∧ (∃ (s : State) (c : Cmd) (ob : BitVec 8) (o : Fin 16) (m : HalyMsg) (l : List HalyMsg), ob.toNat = o.val ∧ (s.hal o).queue = m :: l ∧
      s.halExpired o m = true ∧ (s.hal o).backlog = [] ∧ m.cmd = some c ∧ c.epoch = s.host.epoch) := by
  refine ⟨⟨hal0, 0, 0, 1, 1, 2, 0, 0, ?_⟩,
    ⟨hal0, c0, 0, 0, 0, 0, 2000, 0, 0, St.BAD_FIELD, ?_⟩,
    ⟨(hal0.setHalTx 0 2).setHal 0 { z.hal 0 with queue := [msg0] }, 0, 0, msg0, [], [], ?_⟩,
    ⟨(hal0.setHalTx 0 2).setHal 0 { z.hal 0 with flight := some (msg0, 0) }, c0, 0, 0, msg0, ?_⟩,
    ⟨hal0.setHal 0 { z.hal 0 with queue := [msg0] }, 0, 0, msg0, [], [], ?_⟩,
    ⟨hal0.setHalTx 0 3, 0, 0, ?_⟩,
    ⟨(hal0.setF (R.HALY_CTL 0) F.HALY_CTL_BEACON 100), 0, 0, ?_⟩,
    ⟨let s : State := { ((hal0.setF (R.HALY_SHARE 0) F.HALY_SHARE_SHARED 1).setFs (R.HALY_SHARE 0) [(F.HALY_SHARE_SLOT_TICKS, 10), (F.HALY_SHARE_STATIONS, 1), (F.HALY_SHARE_STATION, 0)]).setHal 0 { z.hal 0 with queue := [msg0] } with time.tick := 5000 }; s, 0, 0, msg0, [], ?_⟩,
    ⟨(hal0.setHal 0 { z.hal 0 with queue := [{ msg0 with waitFrom := some 0, choice := 2 }] }), c0, 0, 0, { msg0 with waitFrom := some 0, choice := 2 }, [], ?_⟩⟩ <;> decide +kernel

/-- The hypotheses of every clause of `HalyardMessagesAreReceived` are met. -/
theorem test_witness_HalyardMessagesAreReceived :
    (∃ (s : State) (o : Fin 16), s.halServes o = true ∧ s.halRx o = 0)
    ∧ (∃ (s : State) (o : Fin 16), s.halRx o = 1)
    ∧ (∃ (s : State) (o : Fin 16) (errs : Nat), errs ≤ s.f (R.HALY_DET o) F.HALY_DET_SYNC_ERR ∧ s.halRx o = 1)
    ∧ (∃ (s : State) (o : Fin 16) (errs : Nat) (level : Int), errs ≤ s.f (R.HALY_DET o) F.HALY_DET_SYNC_ERR ∧ s.halRx o = 3 ∧ (s.hal
      o).rxLevel + 10 * (s.f (R.HALY_DET o) F.HALY_DET_CAPTURE_DB : Int) < level)
    ∧ (∃ (s : State) (o : Fin 16) (hdr : BitVec 64), s.halRx o = 2 ∧ hdrOk hdr.toNat = true ∧ hdrReserved hdr.toNat = false)
    ∧ (∃ (s : State) (o : Fin 16) (hdr : BitVec 64), s.halRx o = 2 ∧ hdrOk hdr.toNat = false)
    ∧ (∃ (s : State) (o : Fin 16) (hdr : BitVec 64) (b : List Byte) (crc : BitVec 32), s.halServes o = true ∧ s.halRx o = 3 ∧ hdr.toNat =
      (s.hal o).rxHdr ∧ hdrLen hdr.toNat = b.length ∧ crc.toNat = crc32 (leBytes 8 hdr.toNat ++ b) ∧ hdrType hdr.toNat = 0x80 ∧ hdrDst
      hdr.toNat = 15 ∧ (Tab.get (fun _ => []) (s.hal o).seen (hdrSrc hdr.toNat)).contains (hdrAlive hdr.toNat) = false)
    ∧ (∃ (s : State) (o : Fin 16) (hdr : BitVec 64) (b : List Byte) (crc : BitVec 32), s.halServes o = true ∧ s.halRx o = 3 ∧ hdr.toNat =
      (s.hal o).rxHdr ∧ hdrLen hdr.toNat = b.length ∧ crc.toNat = crc32 (leBytes 8 hdr.toNat ++ b) ∧ (Tab.get (fun _ => []) (s.hal o).seen
      (hdrSrc hdr.toNat)).contains (hdrAlive hdr.toNat) = true)
    ∧ (∃ (s : State) (o : Fin 16) (hdr : BitVec 64) (b : List Byte) (crc : BitVec 32), s.halServes o = true ∧ s.halRx o = 3 ∧ hdr.toNat =
      (s.hal o).rxHdr ∧ hdrLen hdr.toNat = b.length ∧ crc.toNat ≠ crc32 (leBytes 8 hdr.toNat ++ b))
    ∧ (∃ (s : State) (o : Fin 16) (hdr : BitVec 64) (b : List Byte) (crc : BitVec 32), s.halServes o = true ∧ s.stdMode o = false ∧
      s.halShared o = false ∧ (s.hal o).relGot = [] ∧ hdrOk hdr.toNat = true ∧ hdrReserved hdr.toNat = false ∧ hdrLen hdr.toNat = b.length
      ∧ crc.toNat = crc32 (leBytes 8 hdr.toNat ++ b) ∧ hdrType hdr.toNat = 0x80 ∧ hdrDst hdr.toNat = 15 ∧ (Tab.get (fun _ => []) (s.hal
      o).seen (hdrSrc hdr.toNat)).contains (hdrAlive hdr.toNat) = false)
    ∧ (∃ (s : State) (o : Fin 16) (p : Fin 2), s.halStale o (if p = 0 then (s.hal o).sub else (s.hal o).rel).heard = true ∧ s.halStale o
      (if p = 0 then (s.hal o).sub else (s.hal o).rel).far = true) := by
  refine ⟨⟨hal0, 0, ?_⟩,
    ⟨hal0.setHalRx 0 1, 0, ?_⟩,
    ⟨hal0.setHalRx 0 1, 0, 0, ?_⟩,
    ⟨hal0.setHalRx 0 3, 0, 0, 700, ?_⟩,
    ⟨hal0.setHalRx 0 2, 0, BitVec.ofNat 64 (halHeader 0x80 2 9 1 15), ?_⟩,
    ⟨hal0.setHalRx 0 2, 0, BitVec.ofNat 64 (halHeader 0x80 2 9 1 15 + 1), ?_⟩,
    ⟨(hal0.setHalRx 0 3).setHal 0 { z.hal 0 with rxHdr := halHeader 0x80 2 9 1 15 }, 0, BitVec.ofNat 64 (halHeader 0x80 2 9 1 15), [1, 2], BitVec.ofNat 32 (crc32 (leBytes 8 (halHeader 0x80 2 9 1 15) ++ [1, 2])), ?_⟩,
    ⟨(hal0.setHalRx 0 3).setHal 0 { z.hal 0 with rxHdr := halHeader 0x80 2 9 1 15, seen := [(1, [9])] }, 0, BitVec.ofNat 64 (halHeader 0x80 2 9 1 15), [1, 2], BitVec.ofNat 32 (crc32 (leBytes 8 (halHeader 0x80 2 9 1 15) ++ [1, 2])), ?_⟩,
    ⟨(hal0.setHalRx 0 3).setHal 0 { z.hal 0 with rxHdr := halHeader 0x80 2 9 1 15 }, 0, BitVec.ofNat 64 (halHeader 0x80 2 9 1 15), [1, 2], 0, ?_⟩,
    ⟨hal0, 0, BitVec.ofNat 64 (halHeader 0x80 2 9 1 15), [1, 2], BitVec.ofNat 32 (crc32 (leBytes 8 (halHeader 0x80 2 9 1 15) ++ [1, 2])), ?_⟩,
    ⟨(hal0.setB (R.HALY_STAT 0) (fFAR 0) true), 0, 0, ?_⟩⟩ <;> decide +kernel

/-- The hypotheses of every clause of `TrimRunsFollowTheirRows` are met. -/
theorem test_witness_TrimRunsFollowTheirRows :
    (∃ (s : State) (ub : BitVec 8) (u : Fin 34), ub.toNat = u.val ∧ (u.val < 16 → s.octOn u = true) ∧ (16 ≤ u.val → u.val < 32 → s.sgOn
      (u - 16) = true) ∧ (s.tu u).start = none ∧ (s.tu u).admitted = none ∧ s.trimLanes u = true)
    ∧ (∃ (s : State) (c : Cmd) (ub : BitVec 8) (u : Fin 34), ub.toNat = u.val ∧ (u.val < 16 → s.octOn u = true) ∧ (16 ≤ u.val → u.val < 32
      → s.sgOn (u - 16) = true) ∧ (s.tu u).start = none ∧ (s.tu u).admitted = none ∧ s.trimLanes u = false ∧ c.epoch = s.host.epoch)
    ∧ (∃ (s : State) (ub : BitVec 8) (u : Fin 34) (x : _) (d : _), ub.toNat = u.val ∧ s.trimAsk u = some (x, d) ∧ s.tick % 100 = 0 ∧ d <
      (s.trimTemp u - x).natAbs ∧ (s.tu u).start = none ∧ (s.tu u).admitted = none ∧ s.trimLanes u = true)
    ∧ (∃ (s : State) (ub : BitVec 8) (u : Fin 34) (a : _), ub.toNat = u.val ∧ (s.tu u).admitted = some a ∧ a + 1 ≤ s.tick ∧ (s.tu u).spaced
      s.tick = true ∧ s.trimLanes u = true)
    ∧ (∃ (s : State) (c : Cmd) (ub : BitVec 8) (u : Fin 34) (a : _), ub.toNat = u.val ∧ (s.tu u).start = some a ∧ s.trimEnd u ≤ (s.tu
      u).row ∧ (s.tu u).waiting = [c] ∧ c.epoch = s.host.epoch) := by
  refine ⟨⟨acq 6, 0, 0, ?_⟩,
    ⟨on [7], c0, 0, 0, ?_⟩,
    ⟨(acq 6).setFs (R.TRIM_CTL 0) [(F.TRIM_CTL_AUTO, 1), (F.TRIM_CTL_TRIM_DT, 1)] |>.setI (R.TRIM_LAST 0) F.TRIM_LAST_TEMP 30000, 0, 0, 30000, 10, ?_⟩,
    ⟨(acq 6).setTu 0 { z.tu 0 with admitted := some 4000 }, 0, 0, 4000, ?_⟩,
    ⟨(acq 6).setTu 0 { z.tu 0 with start := some 4000, row := 26, waiting := [c0] }, c0, 0, 0, 4000, ?_⟩⟩ <;> decide +kernel

/-- The hypotheses of every clause of `RingsAreManaged` are met. -/
theorem test_witness_RingsAreManaged :
    (∃ (s : State), s.blockedBy R.RING_OP = none)
    ∧ (∃ (s : State) (r : Fin 65536), s.blockedBy R.RING_OP = none ∧ (s.ring r).typ = 0 ∧ s.createBad r s.stagedRing = false)
    ∧ (∃ (s : State) (r : Fin 65536), s.blockedBy R.RING_OP = none ∧ (s.ring r).typ ≠ 0)
    ∧ (∃ (s : State) (r : Fin 65536), s.blockedBy R.RING_OP = none ∧ (s.ring r).typ ≠ 0 ∧ s.ringInUse r = false)
    ∧ (∃ (s : State) (r : Fin 65536), s.blockedBy R.RING_OP = none ∧ (s.ring r).typ ≠ 0 ∧ s.ringInUse r = true)
    ∧ (∃ (s : State) (r : Fin 65536) (h : BitVec 16), s.blockedBy R.RING_OP = none ∧ (s.ring r).typ = 1 ∧ h.toNat < (s.ring r).size)
    ∧ (∃ (s : State) (r : Fin 65536) (v : BitVec 64), (s.ring r).typ = 1 ∧ v.toNat % 65536 ≠ (s.ring r).tail ∧ v.toNat % 65536 < (s.ring
      r).size)
    ∧ (∃ (s : State) (r : Fin 65536) (v : BitVec 64), (s.ring r).typ = 1 ∧ v.toNat % 65536 ≠ (s.ring r).tail ∧ (s.ring r).size ≤ v.toNat %
      65536)
    ∧ (∃ (s : State) (r : Fin 65536) (v : BitVec 64), 2 ≤ (s.ring r).typ ∧ v.toNat % 65536 < (s.ring r).size ∧ v.toNat % 65536 ≠ (s.ring
      r).head ∧ (v.toNat % 65536 + (s.ring r).size - (s.ring r).head) % (s.ring r).size ≤ (s.ring r).held)
    ∧ (∃ (s : State) (r : Fin 65536), (s.ring r).typ = 0) := by
  refine ⟨⟨ringed, ?_⟩,
    ⟨((ringed.setF R.RING_CTX_B F.RING_CTX_B_TYPE 3).setF R.RING_CTX_B F.RING_CTX_B_LOG2_SIZE 4).setF R.RING_CTX_B F.RING_CTX_B_MOD_COUNT 1, 9, ?_⟩,
    ⟨ringed, 2, ?_⟩,
    ⟨ringed, 3, ?_⟩,
    ⟨ringed, 1, ?_⟩,
    ⟨ringed, 2, 15, ?_⟩,
    ⟨ringed, 2, 0x50003, ?_⟩,
    ⟨ringed, 2, 0x10, ?_⟩,
    ⟨ringed.setRing 3 { typ := 3, log2 := 4, state := 1, tail := 3 }, 3, 3, ?_⟩,
    ⟨ringed, 9, ?_⟩⟩ <;> decide +kernel

/-- The hypotheses of every clause of `RecordsAreWritten` are met. -/
theorem test_witness_RecordsAreWritten :
    (∃ (s : State) (r : Fin 65536) (c : CompRec) (cs : List CompRec), s.host.compQ = c :: cs ∧ s.canWrite = true ∧ (s.ring c.ring).typ =
      1 ∧ (s.ring c.ring).cq = r.val ∧ (s.ring r).typ = 2 ∧ (s.ring r).state = 1)
    ∧ (∃ (s : State), s.canWrite = false ∧ (∀ y ∈ s.host.compQ, y.ring < 65536))
    ∧ (∃ (s : State) (r : Fin 65536) (e : EvRec) (es : List EvRec), s.host.evQ = e :: es ∧ s.subscribers (e.code / 256) = [r.val] ∧
      s.canWrite = true ∧ (s.ring r).state = 1 ∧ (s.ring r).lost = none ∧ 1 ≤ (s.ring r).free)
    ∧ (∃ (s : State) (e : EvRec) (es : List EvRec), s.host.evQ = e :: es ∧ s.subscribers (e.code / 256) = [])
    ∧ (∃ (s : State) (r : Fin 65536) (e : EvRec) (es : List EvRec), s.host.evQ = e :: es ∧ s.subscribers (e.code / 256) = [r.val] ∧ (s.ring
      r).lost = none ∧ (s.ring r).free = 0)
    ∧ (∃ (s : State) (r : Fin 65536) (x : RingRec) (xs : List RingRec), s.host.recQ = x :: xs ∧ x.ring = r.val ∧ (s.ring r).typ = 4 ∧
      (s.ring r).state = 1 ∧ s.canWrite = true ∧ x.entries.length ≤ (s.ring r).free)
    ∧ (∃ (s : State) (r : Fin 65536) (x : RingRec) (xs : List RingRec), s.host.recQ = x :: xs ∧ x.ring = r.val ∧ (s.ring r).typ = 4 ∧
      (s.ring r).free < x.entries.length)
    ∧ (∃ (s : State) (r : Fin 65536), s.intReady r = true ∧ s.canWrite = true) := by
  refine ⟨⟨{ ringed with host.compQ := [comp0] }, 1, comp0, [], ?_⟩,
    ⟨z, ?_⟩,
    ⟨{ ringed with host.evQ := [ev0] }, 3, ev0, [], ?_⟩,
    ⟨{ z with host.evQ := [ev0] }, ev0, [], ?_⟩,
    ⟨{ ringed.setRing 3 { typ := 3, log2 := 4, state := 1, ctxC := 0xFFFFFFFF, tail := 15 } with host.evQ := [ev0] }, 3, ev0, [], ?_⟩,
    ⟨{ ringed with host.recQ := [⟨4, 9, 0, [List.replicate 64 0]⟩] }, 4, (⟨4, 9, 0, [List.replicate 64 0]⟩ : RingRec), [], ?_⟩,
    ⟨{ ringed.setRing 4 { typ := 4, log2 := 4, state := 1, tail := 15 } with host.recQ := [⟨4, 9, 0, [List.replicate 64 0]⟩] }, 4, (⟨4, 9, 0, [List.replicate 64 0]⟩ : RingRec), [], ?_⟩,
    ⟨ringed, 1, ?_⟩⟩ <;> decide +kernel

/-- The hypotheses of every clause of `DescriptorsAreCheckedAndStaged` are met. -/
theorem test_witness_DescriptorsAreCheckedAndStaged :
    (∃ (s : State) (k : Fin 65536) (b : List Byte) (r : Fin 65538), r.val = k.val ∧ s.fetching = true ∧ s.nextRing = some r.val ∧
      b.length ≤ 128)
    ∧ (∃ (s : State) (k : Fin 65536) (b : List Byte) (r : Fin 65538), r.val = k.val ∧ s.fetching = true ∧ s.nextRing = some r.val ∧
      b.length ≤ 128 ∧ (if dExt b then 2 else 1) ≤ (s.ring k).held ∧ dCrcOk b = false)
    ∧ (∃ (s : State) (k : Fin 65536) (b : List Byte) (r : Fin 65538), r.val = k.val ∧ s.fetching = true ∧ s.nextRing = some r.val ∧
      b.length ≤ 128 ∧ (if dExt b then 2 else 1) ≤ (s.ring k).held ∧ dCrcOk b = true ∧ dNum b 2 2 ≠ (s.ring k).expHseq)
    ∧ (∃ (s : State) (k : Fin 65536) (b : List Byte) (mem : List Byte) (i : Instr) (r : Fin 65538), r.val = k.val ∧ s.fetching = true ∧
      s.nextRing = some r.val ∧ b.length ≤ 128 ∧ (if dExt b then 2 else 1) ≤ (s.ring k).held ∧ dCrcOk b = true ∧ seqOk (s.ring k) (if dExt
      b then 2 else 1) (dNum b 2 2) = true ∧ dCommand k ⟨k, dNum b 2 2, dNum b 8 8, s.host.epoch⟩ b mem = some i ∧ bitOf (dByte b 1) 1 =
      false ∧ s.tickCheck (dNum b 8 8) = none ∧ s.acceptCheck i = none)
    ∧ (∃ (s : State) (k : Fin 65536) (b : List Byte) (mem : List Byte) (i : Instr) (r : Fin 65538) (e : _), r.val = k.val ∧ s.fetching =
      true ∧ s.nextRing = some r.val ∧ b.length ≤ 128 ∧ (if dExt b then 2 else 1) ≤ (s.ring k).held ∧ dCrcOk b = true ∧ seqOk (s.ring k)
      (if dExt b then 2 else 1) (dNum b 2 2) = true ∧ dCommand k ⟨k, dNum b 2 2, dNum b 8 8, s.host.epoch⟩ b mem = some i ∧ bitOf (dByte b
      1) 1 = false ∧ s.tickCheck (dNum b 8 8) = some e) := by
  refine ⟨⟨fetched, 2, [], 2, ?_⟩,
    ⟨fetched, 2, List.replicate 64 2, 2, ?_⟩,
    ⟨fetched, 2, nopDesc 8 0, 2, ?_⟩,
    ⟨fetched, 2, nopDesc 7 100, [], .nop ⟨2, 7, 100, 0⟩, 2, ?_⟩,
    ⟨fetched, 2, nopDesc 7 41, [], .nop ⟨2, 7, 41, 0⟩, 2, St.TICK_PAST, ?_⟩⟩ <;> decide +kernel

/-- The hypotheses of every clause of `RingCommandsComplete` are met. -/
theorem test_witness_RingCommandsComplete :
    (∃ (s : State) (c : Cmd), c.epoch = s.host.epoch)
    ∧ (∃ (s : State) (c : Cmd) (r : BitVec 16) (h : BitVec 16), c.epoch = s.host.epoch ∧ r.toNat ≠ 0 ∧ (s.ring r.toNat).typ = 1 ∧ h.toNat <
      (s.ring r.toNat).size)
    ∧ (∃ (s : State) (c : Cmd) (r : BitVec 16), c.epoch = s.host.epoch ∧ r.toNat = 0)
    ∧ (∃ (s : State) (c : Cmd) (r : BitVec 16) (n : BitVec 24) (z : BitVec 8) (addr : BitVec 64), c.epoch = s.host.epoch ∧ 1 ≤ n.toNat ∧
      r.toNat + n.toNat ≤ 65536 ∧ addr.toNat % 64 = 0 ∧ z.toNat = 0)
    ∧ (∃ (s : State) (c : Cmd) (r : BitVec 16) (n : BitVec 24) (z : BitVec 8) (addr : BitVec 64), c.epoch = s.host.epoch ∧ 1 ≤ n.toNat ∧
      r.toNat + n.toNat ≤ 65536 ∧ addr.toNat % 64 = 0 ∧ z.toNat = 1) := by
  refine ⟨⟨z, c0, ?_⟩,
    ⟨ringed, c0, 2, 3, ?_⟩,
    ⟨ringed, c0, 0, ?_⟩,
    ⟨ringed, c0, 0, 2, 0, 64, ?_⟩,
    ⟨ringed, c0, 0, 3, 1, 64, ?_⟩⟩ <;> decide +kernel

/-- The hypotheses of every clause of `LinkAndFunctionLevelReset` are met. -/
theorem test_witness_LinkAndFunctionLevelReset :
    (∃ (s : State), s.host.linkUp = false ∧ s.host.everUp = true ∧ s.host.d3 = false)
    ∧ (∃ (s : State), s.host.linkUp = false ∧ s.host.everUp = false)
    ∧ (∃ (s : State), s.host.d3 = true ∧ s.host.linkUp = true) := by
  refine ⟨⟨{ ringed with host.linkUp := false }, ?_⟩,
    ⟨z, ?_⟩,
    ⟨{ ringed with host.d3 := true }, ?_⟩⟩ <;> decide +kernel

/-- The hypotheses of every clause of `PairLockIsHeldByOne` are met. -/
theorem test_witness_PairLockIsHeldByOne :
    (∃ (s : State), s.holdsLock = false ∧ s.pair.freeAt = none ∧ s.pairState = 3 ∧ s.pairAuto = true ∧ s.pair.notice = none)
    ∧ (∃ (s : State), s.holdsLock = false ∧ s.pair.freeAt = none ∧ s.pairState = 2)
    ∧ (∃ (s : State) (t0 : Nat), s.pair.freeAt = some t0 ∧ s.pairState = 0 ∧ s.sec.held = false ∧ s.b R.PAIR_STAT F.PAIR_STAT_PRESENT =
      false ∧ t0 + 100 ≤ s.tick)
    ∧ (∃ (s : State) (t0 : Nat), s.pair.freeAt = some t0 ∧ s.pairState = 0 ∧ s.sec.held = false ∧ s.b R.PAIR_STAT F.PAIR_STAT_PRESENT =
      true ∧ t0 + 10000 ≤ s.tick ∧ s.role = 0)
    ∧ (∃ (s : State) (t0 : Nat), s.pair.freeAt = some t0 ∧ s.pairState = 0 ∧ s.sec.held = false ∧ s.b R.PAIR_STAT F.PAIR_STAT_PRESENT =
      true ∧ t0 + 10000 ≤ s.tick ∧ s.role = 1 ∧ s.pair.unsafePosted = false)
    ∧ (∃ (s : State), s.holdsLock = false ∧ s.pairState = 0)
    ∧ (∃ (s : State), s.b R.PAIR_CTL F.PAIR_CTL_FENCE_EN = true ∧ s.pairState = 1)
    ∧ (∃ (s : State), s.b R.PAIR_CTL F.PAIR_CTL_FENCE_EN = false)
    ∧ (∃ (s : State), s.b R.PAIR_STAT F.PAIR_STAT_HB_LOST = false ∧ s.f R.PAIR_CTL F.PAIR_CTL_PAIR_MISS_TICKS ≤ s.pair.miss) := by
  refine ⟨⟨{ (pairIn 3).setF R.PAIR_CTL F.PAIR_CTL_AUTO 1 with pair.freeAt := none }, ?_⟩,
    ⟨{ (pairIn 2) with pair.freeAt := none }, ?_⟩,
    ⟨{ (pairIn 0).setB R.PAIR_STAT F.PAIR_STAT_PRESENT false with pair.freeAt := some 0, time.tick := 100, sec.held := false }, 0, ?_⟩,
    ⟨{ (pairIn 0).setB R.PAIR_STAT F.PAIR_STAT_PRESENT true with pair.freeAt := some 0, time.tick := 10000, sec.held := false }, 0, ?_⟩,
    ⟨{ ((pairIn 0).setB R.PAIR_STAT F.PAIR_STAT_PRESENT true).setF R.PAIR_STAT F.PAIR_STAT_ROLE 1 with pair.freeAt := some 0, time.tick := 10000, sec.held := false }, 0, ?_⟩,
    ⟨pairIn 0, ?_⟩,
    ⟨((pairIn 1).setB R.PAIR_STAT F.PAIR_STAT_HOLDER true).setF R.PAIR_CTL F.PAIR_CTL_FENCE_EN 1, ?_⟩,
    ⟨(pairIn 1).setF R.PAIR_CTL F.PAIR_CTL_FENCE_EN 0, ?_⟩,
    ⟨{ pairIn 3 with pair.miss := 255 }, ?_⟩⟩ <;> decide +kernel

/-- The hypotheses of every clause of `PairCommandsAct` are met. -/
theorem test_witness_PairCommandsAct :
    (∃ (s : State) (c : Cmd) (fb : BitVec 8) (t0 : Nat), c.epoch = s.host.epoch ∧ fb.toNat = 1 ∧ s.pairState ≠ 1 ∧ s.pairState ≠ 4 ∧
      s.pair.freeAt = some t0)
    ∧ (∃ (s : State) (c : Cmd) (fb : BitVec 8) (t0 : Nat), c.epoch = s.host.epoch ∧ fb.toNat = 0 ∧ s.pairState = 3 ∧ s.pair.freeAt = some
      t0 ∧ s.tick < t0 + 5000)
    ∧ (∃ (s : State) (c : Cmd) (fb : BitVec 8), c.epoch = s.host.epoch ∧ fb.toNat < 2 ∧ s.pairState ≠ 1 ∧ s.pairState ≠ 4 ∧ s.pair.freeAt =
      none)
    ∧ (∃ (s : State) (c : Cmd), c.epoch = s.host.epoch ∧ s.pairState = 1 ∧ s.b R.PAIR_STAT F.PAIR_STAT_TWIN_SYNCED = true ∧ s.pair.twinAuto
      = true)
    ∧ (∃ (s : State) (c : Cmd), c.epoch = s.host.epoch ∧ s.pairState = 1 ∧ s.pair.twinAuto = false)
    ∧ (∃ (s : State) (c : Cmd) (t0 : Nat), c.epoch = s.host.epoch ∧ s.pair.released = some (c, t0) ∧ t0 + 10 ≤ s.tick ∧ s.pair.freeAt ≠
      none)
    ∧ (∃ (s : State) (c : Cmd) (first : BitVec 16) (n : BitVec 24) (addr : BitVec 64), c.epoch = s.host.epoch ∧ 1 ≤ n.toNat ∧ first.toNat +
      n.toNat ≤ 65536 ∧ addr.toNat % 64 = 0 ∧ s.pair.haveImage = true ∧ (s.pairState = 1 ∨ s.pairState = 2 ∨ s.pairState = 3))
    ∧ (∃ (s : State) (c : Cmd), c.epoch = s.host.epoch ∧ s.pairState = 1 ∧ s.shrdUp = true) := by
  refine ⟨⟨pairIn 2, c0, 1, 0, ?_⟩,
    ⟨pairIn 3, c0, 0, 0, ?_⟩,
    ⟨{ pairIn 2 with pair.freeAt := none }, c0, 1, ?_⟩,
    ⟨{ ((pairIn 1).setB R.PAIR_STAT F.PAIR_STAT_HOLDER true).setB R.PAIR_STAT F.PAIR_STAT_TWIN_SYNCED true with pair.twinAuto := true }, c0, ?_⟩,
    ⟨pairIn 1, c0, ?_⟩,
    ⟨{ pairIn 2 with pair.released := some (c0, 0), time.tick := 10 }, c0, 0, ?_⟩,
    ⟨{ pairIn 2 with pair.haveImage := true }, c0, 0, 2, 64, ?_⟩,
    ⟨(shrd 4 3).setF R.PAIR_STAT F.PAIR_STAT_STATE 1, c0, ?_⟩⟩ <;> decide +kernel

/-- The hypotheses of every clause of `PairMessagesAreTaken` are met. -/
theorem test_witness_PairMessagesAreTaken :
    (∃ (s : State) (b : List Byte), s.shrdUp = true ∧ (¬ (b.length = 68 + ofLeBytes ((b.drop 32).take 4) ∧ crc32c (b.take (b.length - 4))
      = ofLeBytes ((b.drop (b.length - 4)).take 4))))
    ∧ (∃ (s : State) (b : List Byte), s.shrdUp = true ∧ b.length = 68 + ofLeBytes ((b.drop 32).take 4) ∧ crc32c (b.take (b.length - 4)) =
      ofLeBytes ((b.drop (b.length - 4)).take 4) ∧ ofLeBytes (b.take 2) = 0xA55A ∧ ofLeBytes ((b.drop 2).take 1) = 1 ∧ ofLeBytes ((b.drop
      3).take 1) / 2 % 2 = s.role)
    ∧ (∃ (s : State) (b : List Byte), s.shrdUp = true ∧ b.length = 68 + ofLeBytes ((b.drop 32).take 4) ∧ crc32c (b.take (b.length - 4)) =
      ofLeBytes ((b.drop (b.length - 4)).take 4) ∧ ofLeBytes (b.take 2) = 0xA55A ∧ ofLeBytes ((b.drop 2).take 1) = 1 ∧ ofLeBytes ((b.drop
      3).take 1) / 2 % 2 ≠ s.role ∧ s.holdsLock = false)
    ∧ (∃ (s : State) (b : List Byte), s.shrdUp = true ∧ b.length = 68 + ofLeBytes ((b.drop 32).take 4) ∧ crc32c (b.take (b.length - 4)) =
      ofLeBytes ((b.drop (b.length - 4)).take 4) ∧ ofLeBytes (b.take 2) = 0xA55A ∧ ofLeBytes ((b.drop 2).take 1) = 2 ∧ ofLeBytes ((b.drop
      3).take 1) / 2 % 2 ≠ s.role ∧ s.holdsLock = true ∧ bitOf (ofLeBytes ((b.drop 3).take 1)) 0 = false)
    ∧ (∃ (s : State), s.shrdUp = true ∧ s.holdsLock = false ∧ s.pair.got = false)
    ∧ (∃ (s : State), s.shrdUp = true ∧ s.holdsLock = true) := by
  refine ⟨⟨shrd 4 3, [], ?_⟩,
    ⟨shrd 4 3, twinMsg 1 0, ?_⟩,
    ⟨(shrd 4 3).setF R.PAIR_STAT F.PAIR_STAT_STATE 3, twinMsg 1 2, ?_⟩,
    ⟨((shrd 4 3).setF R.PAIR_STAT F.PAIR_STAT_STATE 1).setB R.PAIR_STAT F.PAIR_STAT_HOLDER true, twinMsg 2 14, ?_⟩,
    ⟨shrd 4 3, ?_⟩,
    ⟨((shrd 4 3).setF R.PAIR_STAT F.PAIR_STAT_STATE 1).setB R.PAIR_STAT F.PAIR_STAT_HOLDER true, ?_⟩⟩ <;> decide +kernel

/-- The hypotheses of every clause of `ShroudLanesAlign` are met. -/
theorem test_witness_ShroudLanesAlign :
    (∃ (s : State), s.shrdRuns = true ∧ s.shrdLink = 1)
    ∧ (∃ (s : State) (n : Fin 8), s.shrdRuns = true ∧ (s.shrdLane n = 1 ∨ s.shrdLane n = 2))
    ∧ (∃ (s : State) (n : Fin 8), s.shrdRuns = true ∧ (s.shrdLane n = 1 ∨ s.shrdLane n = 2))
    ∧ (∃ (s : State), s.shrdRuns = true ∧ s.shrdLink = 3)
    ∧ (∃ (s : State) (n : Fin 8), s.shrdLane n = 3 ∧ 2 ≤ Tab.get (fun _ => 0) s.pair.badTicks n ∧ s.shrdLink = 4)
    ∧ (∃ (s : State) (n : Fin 8), (s.shrdLane n = 1 ∨ s.shrdLane n = 2) ∧ s.f (R.SHRD_LANE_STAT n) F.SHRD_LANE_STAT_SEARCH_TICKS = 255)
    ∧ (∃ (s : State) (c : Cmd) (mb : BitVec 8) (fb : BitVec 8), mb.toNat < 4 ∧ fb.toNat = 1 ∧ s.isOn domSHRD = true ∧ c.epoch =
      s.host.epoch) := by
  refine ⟨⟨shrd 1 0, ?_⟩,
    ⟨shrd 2 2, 0, ?_⟩,
    ⟨shrd 2 1, 0, ?_⟩,
    ⟨shrd 3 3, ?_⟩,
    ⟨{ shrd 4 3 with pair.badTicks := [(0, 2)] }, 0, ?_⟩,
    ⟨(shrd 2 2).setF (R.SHRD_LANE_STAT 0) F.SHRD_LANE_STAT_SEARCH_TICKS 255, 0, ?_⟩,
    ⟨shrd 4 3, c0, 3, 1, ?_⟩⟩ <;> decide +kernel

/-- The hypotheses of every clause of `CheckEngineFeedsFrames` are met. -/
theorem test_witness_CheckEngineFeedsFrames :
    (∃ (s : State) (ch : Fin 32) (v : BitVec 64), s.isOn domMAP = true ∧ 8 ≤ ch.val ∧ F.CHK_CTL_EN.of v = 1)
    ∧ (∃ (s : State) (ch : Fin 32), s.isOn domMAP = true ∧ ch.val < 8)
    ∧ (∃ (s : State) (ch : Fin 32), s.isOn domMAP = true ∧ 8 ≤ ch.val ∧ s.b (R.CHK_CTL ch) F.CHK_CTL_EN = true)
    ∧ (∃ (s : State) (ch : Fin 32), s.isOn domMAP = true ∧ (ch.val < 8 ∨ s.b (R.CHK_CTL ch) F.CHK_CTL_EN = false))
    ∧ (∃ (s : State) (ch : Fin 32), s.isOn domMAP = true ∧ 8 ≤ ch.val ∧ s.b (R.CHK_CTL ch) F.CHK_CTL_MODE = true)
    ∧ (∃ (s : State) (ch : Fin 32), s.isOn domMAP = true ∧ (ch.val < 8 ∨ s.b (R.CHK_CTL ch) F.CHK_CTL_MODE = false)) := by
  refine ⟨⟨on [3], 8, F.CHK_CTL_EN.put 0 1, ?_⟩,
    ⟨on [3], 0, ?_⟩,
    ⟨(on [3]).setF (R.CHK_CTL 15) F.CHK_CTL_EN 1, 15, ?_⟩,
    ⟨on [3], 8, ?_⟩,
    ⟨(on [3]).setF (R.CHK_CTL 8) F.CHK_CTL_MODE 1, 8, ?_⟩,
    ⟨on [3], 7, ?_⟩⟩ <;> decide +kernel

/-- The hypotheses of every clause of `FaultsAreClassified` are met. -/
theorem test_witness_FaultsAreClassified :
    (∃ (s : State) (k : Fin 3) (u : Fin 16) (l : Fin 16), (k.val = 0 → l.val < 9) ∧ (k.val = 2 → l.val = 0) ∧ (s.fltUnit k u l).armed =
      false)
    ∧ (∃ (s : State) (k : Fin 3) (u : Fin 16) (l : Fin 16), (k.val = 0 → l.val < 9) ∧ (k.val = 2 → l.val = 0) ∧ (s.fltUnit k u l).armed =
      true ∧ s.fltState k u l ≠ 2 ∧ s.fltState k u l ≠ 3 ∧ (fltWindow s.tick (s.fltUnit k u l)).length < 3 ∧ fltHourCount s.tick
      (s.fltUnit k u l) + 1 ≤ s.f (fltCtl k u) F.FLT_CTL_O_RATE_MAX)
    ∧ (∃ (s : State) (k : Fin 3) (u : Fin 16) (l : Fin 16), (k.val = 0 → l.val < 9) ∧ (k.val = 2 → l.val = 0) ∧ (s.fltUnit k u l).armed =
      true ∧ s.fltState k u l ≠ 2 ∧ s.fltState k u l ≠ 3 ∧ (3 ≤ (fltWindow s.tick (s.fltUnit k u l)).length ∨ s.f (fltCtl k u)
      F.FLT_CTL_O_RATE_MAX < fltHourCount s.tick (s.fltUnit k u l) + 1)) := by
  refine ⟨⟨on [7], 0, 0, 0, ?_⟩,
    ⟨armed, 0, 0, 0, ?_⟩,
    ⟨armed.setFlt 0 0 0 { armed := true, retries := [0, 0, 0] }, 0, 0, 0, ?_⟩⟩ <;> decide +kernel

/-- The hypotheses of every clause of `TimedFaultsAndClear` are met. -/
theorem test_witness_TimedFaultsAndClear :
    (∃ (s : State) (k : Fin 3) (u : Fin 16) (l : Fin 16), (k.val = 0 → l.val < 9) ∧ (k.val = 2 → l.val = 0) ∧ (k.val = 1 → s.phyHead u l
      = l.val) ∧ k.val < 2 ∧ s.fltLosLong k u l = true ∧ s.fltState k u l ≠ 2 ∧ s.fltState k u l ≠ 3 ∧ (s.fltUnit k u l).armed = false)
    ∧ (∃ (s : State) (k : Fin 3) (u : Fin 16) (l : Fin 16), (k.val = 0 → l.val < 9) ∧ (k.val = 2 → l.val = 0) ∧ (k.val = 1 → s.phyHead u l
      = l.val) ∧ k.val < 2 ∧ s.fltLosLong k u l = true ∧ s.fltState k u l ≠ 2 ∧ s.fltState k u l ≠ 3 ∧ (s.fltUnit k u l).armed = true ∧
      (fltWindow s.tick (s.fltUnit k u l)).length < 3 ∧ fltHourCount s.tick (s.fltUnit k u l) + 1 ≤ s.f (fltCtl k u) F.FLT_CTL_O_RATE_MAX)
    ∧ (∃ (s : State) (k : Fin 3) (u : Fin 16) (l : Fin 16), (k.val = 0 → l.val < 9) ∧ (k.val = 2 → l.val = 0) ∧ (k.val = 1 → s.phyHead u l
      = l.val) ∧ s.fltLate k u l = true ∧ s.fltState k u l ≠ 2 ∧ s.fltState k u l ≠ 3 ∧ (s.fltUnit k u l).armed = true ∧ (fltWindow s.tick
      (s.fltUnit k u l)).length < 3 ∧ fltHourCount s.tick (s.fltUnit k u l) + 1 ≤ s.f (fltCtl k u) F.FLT_CTL_O_RATE_MAX)
    ∧ (∃ (s : State) (k : Fin 3) (u : Fin 16) (l : Fin 16), (k.val = 0 → l.val < 9) ∧ (k.val = 2 → l.val = 0) ∧ (k.val = 1 → s.phyHead u l
      = l.val) ∧ s.fltLate k u l = false)
    ∧ (∃ (s : State) (c : Cmd) (k : Fin 3) (u : Fin 16) (l : Fin 16) (kb : BitVec 8) (ub : BitVec 8) (lb : BitVec 8), (k.val = 0 → l.val <
      9) ∧ (k.val = 2 → l.val = 0) ∧ (k.val = 1 → s.phyHead u l = l.val) ∧ kb.toNat = k.val ∧ ub.toNat = u.val ∧ lb.toNat = l.val ∧ s.isOn
      (if k.val = 1 then domSG u else domOct u) = true ∧ c.epoch = s.host.epoch) := by
  refine ⟨⟨atTick 900000 (armed.setFlt 0 0 0 { los := some 0 }), 0, 0, 0, ?_⟩,
    ⟨atTick 900000 (armed.setFlt 0 0 0 { armed := true, los := some 0 }), 0, 0, 0, ?_⟩,
    ⟨atTick 900000 (armed.setFlt 0 0 0 { armed := true, limit := some 0 }), 0, 0, 0, ?_⟩,
    ⟨armed, 0, 0, 0, ?_⟩,
    ⟨armed.setFltState 1 0 0 3, c0, 1, 0, 0, 1, 0, 0, ?_⟩⟩ <;> decide +kernel

/-- The hypotheses of every clause of `HsiaoCorrectsOneAndFindsTwo` are met. -/
theorem test_witness_HsiaoCorrectsOneAndFindsTwo :
    (∃ (i : Fin 64) (j : Fin 64), i ≠ j)
    ∧ (∃ (i : Fin 64) (j : Fin 64), i ≠ j) := by
  refine ⟨⟨0, 71, ?_⟩,
    ⟨0, 63, ?_⟩⟩ <;> decide +kernel

/-- The hypotheses of every clause of `MemoryErrorsAreHandled` are met. -/
theorem test_witness_MemoryErrorsAreHandled :
    (∃ (space : Fin 8) (ix : BitVec 8) (chk : BitVec 8) (data : BitVec 64) (p : _), space.val < 5 ∧ memNamed space ix.toNat = true ∧
      hsiaoPos (hsiaoSynd data.toNat chk.toNat) = some p)
    ∧ (∃ (s : State) (space : Fin 8) (ix : BitVec 8) (chk : BitVec 8) (data : BitVec 64), space.val < 5 ∧ memNamed space ix.toNat = true ∧
      hsiaoSynd data.toNat chk.toNat ≠ 0 ∧ hsiaoPos (hsiaoSynd data.toNat chk.toNat) = none ∧ s.mem.posted.contains (memId space ix.toNat)
      = false)
    ∧ (∃ (chk : BitVec 8) (data : BitVec 64), hsiaoSynd data.toNat chk.toNat = 0)
    ∧ (∃ (s : State) (a : Nat) (w : Word), longLived a = true ∧ s.b R.MEM_ECC_CTL F.MEM_ECC_CTL_REFRESH_EN = true ∧ s.blockedBy a = none ∧
      Tab.get (fun _ => none) s.mem.bad a = some w ∧ a ≠ R.REFRESH_STAT) := by
  refine ⟨⟨0, 0, 0, 1, 0, ?_⟩,
    ⟨z, 0, 0, 0, 3, ?_⟩,
    ⟨0, 0, ?_⟩,
    ⟨{ on [7] with mem.bad := [(R.TX_LANE_CTL 0 0, some 5)] }, R.TX_LANE_CTL 0 0, 5, ?_⟩⟩ <;> decide +kernel

/-- The hypotheses of every clause of `MemoryTestWritesAndReads` are met. -/
theorem test_witness_MemoryTestWritesAndReads :
    (∃ (s : State) (c : Cmd) (die : BitVec 8) (op : BitVec 8) (mac : BitVec 16) (word : BitVec 16), wordNamed die.toNat mac.toNat
      word.toNat = true ∧ s.testAllowed die.toNat = true ∧ c.epoch = s.host.epoch ∧ op.toNat = 0)
    ∧ (∃ (s : State) (c : Cmd) (die : BitVec 8) (op : BitVec 8) (mac : BitVec 16) (word : BitVec 16) (w : Nat × Nat), wordNamed die.toNat
      mac.toNat word.toNat = true ∧ s.testAllowed die.toNat = true ∧ c.epoch = s.host.epoch ∧ op.toNat = 1 ∧ Tab.get (fun _ => none)
      s.mem.test (wordKey die.toNat mac.toNat word.toNat) = some w)
    ∧ (∃ (s : State) (c : Cmd) (die : BitVec 8) (op : BitVec 8) (mac : BitVec 16) (word : BitVec 16), wordNamed die.toNat mac.toNat
      word.toNat = true ∧ s.testAllowed die.toNat = true ∧ c.epoch = s.host.epoch ∧ op.toNat = 2)
    ∧ (∃ (s : State) (v : BitVec 64), s.b R.GLB_LOCK F.GLB_LOCK_LOCK = false ∧ wordNamed (F.MEM_TEST_CTL_DIE.of v) (F.MEM_TEST_CTL_MACRO.of
      v) (F.MEM_TEST_CTL_WORD.of v) = true)
    ∧ (∃ (s : State) (v : BitVec 64) (w : Nat × Nat), s.b R.GLB_LOCK F.GLB_LOCK_LOCK = false ∧ wordNamed (F.MEM_TEST_CTL_DIE.of v)
      (F.MEM_TEST_CTL_MACRO.of v) (F.MEM_TEST_CTL_WORD.of v) = true ∧ Tab.get (fun _ => none) s.mem.test (wordKey (F.MEM_TEST_CTL_DIE.of
      v) (F.MEM_TEST_CTL_MACRO.of v) (F.MEM_TEST_CTL_WORD.of v)) = some w)
    ∧ (∃ (s : State), s.b R.GLB_LOCK F.GLB_LOCK_LOCK = true) := by
  refine ⟨⟨z, c0, 1, 0, 0, 0, ?_⟩,
    ⟨{ z with mem.test := [(wordKey 1 0 0, some (5, 7))] }, c0, 1, 1, 0, 0, (5, 7), ?_⟩,
    ⟨z, c0, 1, 2, 0, 0, ?_⟩,
    ⟨z, 0, ?_⟩,
    ⟨{ z with mem.test := [(0, some (5, 7))] }, 0, (5, 7), ?_⟩,
    ⟨z.setB R.GLB_LOCK F.GLB_LOCK_LOCK true, ?_⟩⟩ <;> decide +kernel

/-- The hypotheses of every clause of `InputsAreConditioned` are met. -/
theorem test_witness_InputsAreConditioned :
    (∃ (s : State) (x : Fin 21) (v : Bool), bitOf s.pwr.inRaw x ≠ v ∧ s.stormed x = false)
    ∧ (∃ (s : State) (x : Fin 21) (v : Bool), bitOf s.pwr.inRaw x ≠ v ∧ s.stormed x = true ∧ stormHolds x = true)
    ∧ (∃ (s : State) (x : Fin 21) (v : Bool), bitOf s.pwr.inRaw x = v)
    ∧ (∃ (s : State) (x : Fin 21), s.pwr.stormDue.contains x.val = true ∧ s.stormed x = false)
    ∧ (∃ (s : State), s.pwr.page ≠ []) := by
  refine ⟨⟨z, 0, true, ?_⟩,
    ⟨z.setF R.IN_STORM F.IN_STORM_STORM 1, 0, true, ?_⟩,
    ⟨z, 0, false, ?_⟩,
    ⟨{ z with pwr.stormDue := [3] }, 3, ?_⟩,
    ⟨{ z with pwr.page := [1, 2] }, ?_⟩⟩ <;> decide +kernel

/-- The hypotheses of every clause of `EngineChannelsQueueAndClear` are met. -/
theorem test_witness_EngineChannelsQueueAndClear :
    (∃ (s : State) (c : Cmd) (ch : BitVec 16) (n : BitVec 8) (fl : BitVec 8) (codes : BitVec 128), c.epoch = s.host.epoch ∧ ch.toNat <
      432 ∧ 1 ≤ n.toNat ∧ n.toNat ≤ 8 ∧ fl.toNat < 2 ∧ codes.toNat / 2 ^ (16 * n.toNat) = 0 ∧ s.owner ch.toNat = 0 ∧ (if fl.toNat = 1 then
      0 else (s.ch ch.toNat).queue.length) + n.toNat ≤ 8)
    ∧ (∃ (s : State) (c : Cmd) (ch : BitVec 16) (n : BitVec 8) (fl : BitVec 8) (codes : BitVec 128), c.epoch = s.host.epoch ∧ ch.toNat <
      432 ∧ 1 ≤ n.toNat ∧ n.toNat ≤ 8 ∧ fl.toNat < 2 ∧ codes.toNat / 2 ^ (16 * n.toNat) = 0 ∧ s.owner ch.toNat = 3)
    ∧ (∃ (s : State) (x : Fin 432) (v : Nat) (q : List Nat), (s.ch x).spanPend = true ∧ (s.ch x).spanLeft = 0 ∧ s.chClear x = false ∧ (s.ch
      x).queue = v :: q)
    ∧ (∃ (s : State) (x : Fin 432), (s.ch x).spanPend = true ∧ (s.ch x).spanLeft = 0 ∧ s.chClear x = true)
    ∧ (∃ (s : State) (g : Fin 4), s.groupClear g = false) := by
  refine ⟨⟨eng0, c0, 431, 1, 0, 7, ?_⟩,
    ⟨z, c0, 5, 2, 0, 7, ?_⟩,
    ⟨eng0.setCh 0 { spanPend := true, queue := [5] }, 0, 5, [], ?_⟩,
    ⟨{ eng0.setCh 0 { spanPend := true, queue := [5] } with eng.clrPin := 1 }, 0, ?_⟩,
    ⟨eng0.setCh 0 { queue := [5], code := 9 }, 0, ?_⟩⟩ <;> decide +kernel

/-- The hypotheses of every clause of `EngineRampsRun` are met. -/
theorem test_witness_EngineRampsRun :
    (∃ (s : State) (sl : BitVec 8), sl.toNat < 16 ∧ s.f (R.EDAC_RAMP_CTL sl.toNat) F.EDAC_RAMP_CTL_COUNT = 1 ∧ s.rampRefusal sl.toNat =
      none)
    ∧ (∃ (s : State) (c : Cmd) (k : Fin 16) (q : RampRun), s.ramp k = some q ∧ q.ticks ≤ q.step ∧ q.cmd = some c ∧ c.epoch = s.host.epoch)
    ∧ (∃ (s : State), s.lrState = 0)
    ∧ (∃ (s : State) (c : Cmd), s.lrState = 2 ∧ c.epoch = s.host.epoch)
    ∧ (∃ (s : State) (y : Nat × Nat × Nat), s.lrState = 1 ∧ s.eng.lrStep < s.eng.lrN ∧ (s.eng.lrFrom.map (·.1)).Nodup ∧ y ∈ s.eng.lrFrom)
    ∧ (∃ (s : State) (c : Cmd), s.lrState = 1 ∧ s.eng.lrStep = s.eng.lrN ∧ s.eng.lrReset = false ∧ c ∈ s.eng.lrWait ∧ c.epoch =
      s.host.epoch)
    ∧ (∃ (s : State) (c : Cmd), s.lrState ≠ 2 ∧ c.epoch = s.host.epoch) := by
  refine ⟨⟨(((eng0.setF (R.TX_LANE_CTL 0 0) F.TX_LANE_CTL_LAUNCH_OWN 0).setF (R.EDAC_RAMP_CTL 0) F.EDAC_RAMP_CTL_COUNT 1).setF (R.EDAC_RAMP_CTL 0) F.EDAC_RAMP_CTL_TICKS 4).setF (R.EDAC_RAMP_ENT 0 0) F.EDAC_RAMP_ENT_TARGET 900, 0, ?_⟩,
    ⟨eng0.setRamp 0 (some ⟨0, 4, 4, [(0, 0, 9)], some c0⟩), c0, 0, (⟨0, 4, 4, [(0, 0, 9)], some c0⟩ : RampRun), ?_⟩,
    ⟨eng0, ?_⟩,
    ⟨eng0.setF R.LR_STAT F.LR_STAT_STATE 2, c0, ?_⟩,
    ⟨{ eng0.setF R.LR_STAT F.LR_STAT_STATE 1 with eng.lrN := 10, eng.lrFrom := [(0, 900, 0), (3, 50, 7)] }, (0, 900, 0), ?_⟩,
    ⟨{ eng0.setF R.LR_STAT F.LR_STAT_STATE 1 with eng.lrN := 10, eng.lrStep := 10, eng.lrWait := [c0] }, c0, ?_⟩,
    ⟨eng0, c0, ?_⟩⟩ <;> decide +kernel

/-- The hypotheses of every clause of `BusTransactionsRunOneAtATime` are met. -/
theorem test_witness_BusTransactionsRunOneAtATime :
    (∃ (s : State) (b : BitVec 8) (ad : BitVec 8) (wn : BitVec 8) (rn : BitVec 8) (rs : BitVec 8), b.toNat < 4 ∧ ad.toNat < 128 ∧
      wn.toNat ≤ 64 ∧ rn.toNat ≤ 16 ∧ rs.toNat < 2 ∧ s.i2cNow b.toNat = none ∧ s.b (R.ENG_I2C_CTL b.toNat) F.ENG_I2C_CTL_EN = true ∧ (∀ z
      ∈ s.eng.i2cHost, z.bus ≠ b.toNat) ∧ (∀ y ∈ s.eng.i2cFw, y.2.2.bus ≠ b.toNat))
    ∧ (∃ (s : State) (c : Cmd) (k : Fin 4) (x : BusXfer), s.i2cNow k = some x ∧ x.cmd = some c ∧ c.epoch = s.host.epoch)
    ∧ (∃ (s : State) (b : BitVec 8) (wn : BitVec 8) (rn : BitVec 8) (rs : BitVec 8), b.toNat < 32 ∧ wn.toNat ≤ 32 ∧ rn.toNat ≤ 24 ∧
      rs.toNat < 2 ∧ s.pwr.pmbRun = none ∧ s.pwr.pmbHost = [])
    ∧ (∃ (s : State) (c : Cmd) (x : BusXfer), s.pwr.pmbRun = some x ∧ x.cmd = some c ∧ c.epoch = s.host.epoch)
    ∧ (∃ (s : State) (j : Fin 32) (res : List (Option (BitVec 64))) (v : BitVec 64), s.isOn domCTRL = true ∧ s.pwr.pmbRun = none ∧ s.b
      (R.PMB_DEV j) F.PMB_DEV_POLL = true ∧ res.getD j none = some v)
    ∧ (∃ (s : State) (j : Fin 32) (res : List (Option (BitVec 64))), s.isOn domCTRL = true ∧ s.pwr.pmbRun = none ∧ s.b (R.PMB_DEV j)
      F.PMB_DEV_POLL = true ∧ res.getD j none = none) := by
  refine ⟨⟨eng0.setF (R.ENG_I2C_CTL 3) F.ENG_I2C_CTL_EN 1, 3, 7, 1, 0, 0, ?_⟩,
    ⟨eng0.setI2c 0 (some xfer0), c0, 0, xfer0, ?_⟩,
    ⟨z, 31, 0, 24, 0, ?_⟩,
    ⟨{ z with pwr.pmbRun := some xfer0 }, c0, xfer0, ?_⟩,
    ⟨(on [1]).setF (R.PMB_DEV 3) F.PMB_DEV_POLL 1, 3, [none, none, none, some 9], 9, ?_⟩,
    ⟨(on [1]).setF (R.PMB_DEV 3) F.PMB_DEV_POLL 1, 3, [], ?_⟩⟩ <;> decide +kernel

/-- The hypotheses of every clause of `MeasurementsAndCoreVoltage` are met. -/
theorem test_witness_MeasurementsAndCoreVoltage :
    (∃ (s : State) (h : Fin 2) (e : Nat) (ch : Nat), (s.b (R.HK_SEQ_CTL h) F.HK_SEQ_CTL_EN = true ∨ (s.hk h).trig.isSome = true) ∧ e =
      (s.hk h).entry ∧ e < 256 ∧ ch = s.hkEntry h e F.HK_SEQ_CH ∧ ch < 640 ∧ s.hkEntry h e F.HK_SEQ_CHECK = 0)
    ∧ (∃ (s : State) (o : Fin 16), s.b (R.ENG_THERM o) F.ENG_THERM_EN = true ∧ s.i2cNow (o / 4) = none ∧ s.b (R.ENG_I2C_CTL (o / 4))
      F.ENG_I2C_CTL_EN = true ∧ s.isOn domCTRL = true)
    ∧ (∃ (s : State) (pll : Bool), s.b R.PWR_STAT F.PWR_STAT_CORE_CLK ≠ pll)
    ∧ (∃ (s : State) (pll : Bool), s.b R.PWR_STAT F.PWR_STAT_CORE_CLK = pll)
    ∧ (∃ (s : State) (w : Nat), s.b R.AVS_CTL F.AVS_CTL_EN = true ∧ s.isOn domCTRL = true ∧ s.avsDue = true ∧ s.pwr.avsSet = some w) := by
  refine ⟨⟨z.setF (R.HK_SEQ_CTL 0) F.HK_SEQ_CTL_EN 1, 0, 0, 0, ?_⟩,
    ⟨((on [1]).setF (R.ENG_THERM 3) F.ENG_THERM_EN 1).setF (R.ENG_I2C_CTL 0) F.ENG_I2C_CTL_EN 1, 3, ?_⟩,
    ⟨z, true, ?_⟩,
    ⟨z, false, ?_⟩,
    ⟨{ (on [1]).setF R.AVS_CTL F.AVS_CTL_EN 1 with pwr.avsSet := some 7000 }, 7000, ?_⟩⟩ <;> decide +kernel

/-- The hypotheses of every clause of `PowerRequestsAreEvaluated` are met. -/
theorem test_witness_PowerRequestsAreEvaluated :
    (∃ (s : State) (c : Cmd) (dom : BitVec 8) (tg : BitVec 8) (d : Nat), c.epoch = s.host.epoch ∧ d = dom.toNat ∧ 3 ≤ d ∧ d ≤ 42 ∧
      tg.toNat < 3 ∧ s.domTrans d = 0 ∧ (s.dom d).held = none ∧ tg.toNat = s.domState d)
    ∧ (∃ (s : State) (c : Cmd) (dom : BitVec 8) (tg : BitVec 8) (d : Nat), c.epoch = s.host.epoch ∧ d = dom.toNat ∧ 3 ≤ d ∧ d ≤ 42 ∧
      tg.toNat < 3 ∧ s.domTrans d = 0 ∧ (s.dom d).held = none ∧ tg.toNat = 0 ∧ s.domState d ≠ 0 ∧ s.onCause d = 0)
    ∧ (∃ (s : State) (c : Cmd) (dom : BitVec 8) (tg : BitVec 8) (d : Nat), c.epoch = s.host.epoch ∧ d = dom.toNat ∧ 3 ≤ d ∧ d ≤ 42 ∧
      tg.toNat < 3 ∧ s.domTrans d = 0 ∧ (s.dom d).held = none ∧ tg.toNat = 0 ∧ s.domState d ≠ 0 ∧ s.onCause d ≠ 0)
    ∧ (∃ (s : State) (c : Cmd) (dom : BitVec 8) (tg : BitVec 8) (d : Nat), c.epoch = s.host.epoch ∧ d = dom.toNat ∧ 3 ≤ d ∧ d ≤ 42 ∧
      tg.toNat < 3 ∧ s.domTrans d = 0 ∧ (s.dom d).held = none ∧ tg.toNat = 1 ∧ s.domState d = 2)
    ∧ (∃ (s : State) (c : Cmd) (dom : BitVec 8) (tg : BitVec 8) (d : Nat), c.epoch = s.host.epoch ∧ d = dom.toNat ∧ 3 ≤ d ∧ d ≤ 42 ∧
      tg.toNat < 3 ∧ s.domTrans d = 0 ∧ (s.dom d).held = none ∧ 1 ≤ tg.toNat ∧ s.domState d < tg.toNat ∧ s.wakePending d = true)
    ∧ (∃ (s : State) (c : Cmd) (dom : BitVec 8) (tg : BitVec 8) (d : Nat) (v : Nat), c.epoch = s.host.epoch ∧ d = dom.toNat ∧ 3 ≤ d ∧ d ≤
      42 ∧ tg.toNat < 3 ∧ s.domTrans d = 0 ∧ (s.dom d).held = none ∧ 1 ≤ tg.toNat ∧ s.domState d < tg.toNat ∧ s.wakePending d = false ∧
      s.agent d = (1, v) ∧ v < 16)
    ∧ (∃ (s : State) (c : Cmd) (dom : BitVec 8) (tg : BitVec 8) (d : Nat) (v : Nat), c.epoch = s.host.epoch ∧ d = dom.toNat ∧ 3 ≤ d ∧ d ≤
      42 ∧ tg.toNat < 3 ∧ s.domTrans d = 0 ∧ (s.dom d).held = none ∧ 1 ≤ tg.toNat ∧ s.domState d < tg.toNat ∧ s.wakePending d = false ∧
      s.agent d = (2, v) ∧ v < 128 ∧ v ≤ s.f R.PWR_CTL F.PWR_CTL_DELAY_MAX)
    ∧ (∃ (s : State) (c : Cmd) (dom : BitVec 8) (tg : BitVec 8) (d : Nat) (v : Nat), c.epoch = s.host.epoch ∧ d = dom.toNat ∧ 3 ≤ d ∧ d ≤
      42 ∧ tg.toNat < 3 ∧ s.domTrans d = 0 ∧ (s.dom d).held = none ∧ 1 ≤ tg.toNat ∧ s.domState d < tg.toNat ∧ s.wakePending d = false ∧
      s.agent d = (2, v) ∧ v < 128 ∧ s.f R.PWR_CTL F.PWR_CTL_DELAY_MAX < v)
    ∧ (∃ (s : State) (c : Cmd) (dom : BitVec 8) (tg : BitVec 8) (d : Nat) (v : Nat), c.epoch = s.host.epoch ∧ d = dom.toNat ∧ 3 ≤ d ∧ d ≤
      42 ∧ tg.toNat < 3 ∧ s.domTrans d = 0 ∧ (s.dom d).held = none ∧ 1 ≤ tg.toNat ∧ s.domState d < tg.toNat ∧ s.wakePending d = false ∧
      s.agent d = (0, v)) := by
  refine ⟨⟨dom4 0 0, c0, 4, 0, 4, ?_⟩,
    ⟨dom4 2 0, c0, 4, 0, 4, ?_⟩,
    ⟨((on []).setDomState 6 2), c0, 6, 0, 6, ?_⟩,
    ⟨dom4 2 0, c0, 4, 1, 4, ?_⟩,
    ⟨(dom4 0 0).setDom 4 { wake := 1 }, c0, 4, 1, 4, ?_⟩,
    ⟨let s : State := { dom4 0 0 with map.defined := [5] }; s.setF (R.MAP_CLI_DEF 5) F.MAP_CLI_DEF_CLASS 1, c0, 4, 1, 4, 1, ?_⟩,
    ⟨{ dom4 0 0 with jrn.flashQ := [[]] }, c0, 4, 2, 4, 1, ?_⟩,
    ⟨{ (dom4 0 0).setF R.PWR_CTL F.PWR_CTL_DELAY_MAX 0 with jrn.flashQ := [[]] }, c0, 4, 2, 4, 1, ?_⟩,
    ⟨dom4 0 0, c0, 4, 2, 4, 0, ?_⟩⟩ <;> decide +kernel

/-- The hypotheses of every clause of `PowerTransitionsEnd` are met. -/
theorem test_witness_PowerTransitionsEnd :
    (∃ (s : State) (c' : Cmd) (dom : BitVec 8) (tg : BitVec 8) (d : Fin 43) (p : DomReq), 3 ≤ d.val ∧ c'.epoch = s.host.epoch ∧ dom.toNat
      = d.val ∧ tg.toNat < 3 ∧ (s.domTrans d = 3 ∨ s.domTrans d = 4) ∧ (s.dom d).held = some p ∧ p.cmd = some c')
    ∧ (∃ (s : State) (d : Fin 43) (q : DomReq) (v : Nat), 3 ≤ d.val ∧ s.domTrans d = 2 ∧ (s.dom d).req = some q ∧ (s.dom d).due ≤ s.tick ∧
      (s.undelay d).wakePending d = false ∧ (s.undelay d).agent d = (0, v))
    ∧ (∃ (s : State) (d : Fin 43) (q : DomReq), 3 ≤ d.val ∧ s.domTrans d = 2 ∧ (s.dom d).req = some q ∧ s.tick < (s.dom d).due)
    ∧ (∃ (s : State) (c : Cmd) (d : Fin 43) (q : DomReq), 3 ≤ d.val ∧ s.domTrans d = 3 ∧ (s.dom d).req = some q ∧ q.cmd = some c ∧ c.epoch
      = s.host.epoch ∧ s.entryIdle d = true ∧ (q.target = 1 ∨ q.target = 2) ∧ s.domState d ≠ q.target)
    ∧ (∃ (s : State) (d : Fin 43), 3 ≤ d.val ∧ s.domTrans d = 3 ∧ s.entryIdle d = false)
    ∧ (∃ (s : State) (c : Cmd) (d : Fin 43) (q : DomReq), 3 ≤ d.val ∧ s.domTrans d = 4 ∧ (s.dom d).supply = false ∧ (s.dom d).due ≤ s.tick
      ∧ (s.dom d).req = some q ∧ q.cmd = some c ∧ c.epoch = s.host.epoch ∧ s.domState d ≠ 0)
    ∧ (∃ (s : State) (d : Fin 43) (o : Fin 16), 3 ≤ d.val ∧ s.domTrans (domOct o) = 4 ∧ (s.dom (domOct o)).supply = true)
    ∧ (∃ (s : State) (c : Cmd) (d : Fin 43) (q : DomReq) (o : Fin 16), 3 ≤ d.val ∧ s.domTrans (domOct o) = 4 ∧ (s.dom (domOct o)).supply =
      true ∧ (s.dom (domOct o)).due ≤ s.tick ∧ (s.dom (domOct o)).req = some q ∧ q.cmd = some c ∧ c.epoch = s.host.epoch)
    ∧ (∃ (s : State) (d : Fin 43), 3 ≤ d.val ∧ sigSource d = true ∧ s.b (R.PWR_DOM_WAKE d) F.PWR_DOM_WAKE_SIG_EN = true)
    ∧ (∃ (s : State) (d : Fin 43), 3 ≤ d.val ∧ s.b (R.PWR_DOM_WAKE d) F.PWR_DOM_WAKE_TICK_EN = true ∧ s.f (R.PWR_DOM_WAKE d)
      F.PWR_DOM_WAKE_WAKE_TICK = s.tick % 2 ^ 48 ∧ s.domTrans d = 0 ∧ s.isOn d = false ∧ s.onCause d = 0) := by
  refine ⟨⟨(dom4 0 3).setHeld 4 (some ⟨some c0, 0, 0⟩), c0, 4, 2, 4, (⟨some c0, 0, 0⟩ : DomReq), ?_⟩,
    ⟨(dom4 0 2).setDom 4 { req := some ⟨some c0, 2, 0⟩ }, 4, (⟨some c0, 2, 0⟩ : DomReq), 0, ?_⟩,
    ⟨(dom4 0 2).setDom 4 { req := some ⟨some c0, 2, 0⟩, due := 9 }, 4, (⟨some c0, 2, 0⟩ : DomReq), ?_⟩,
    ⟨(dom4 0 3).setDom 4 { req := some ⟨some c0, 2, 0⟩ }, c0, 4, (⟨some c0, 2, 0⟩ : DomReq), ?_⟩,
    ⟨(dom4 0 3).setDom 4 { req := some ⟨some c0, 2, 0⟩, due := 9 }, 4, ?_⟩,
    ⟨(dom4 2 4).setDom 4 { req := some ⟨some c0, 0, 0⟩ }, c0, 4, (⟨some c0, 0, 0⟩ : DomReq), ?_⟩,
    ⟨(z.setTrans 7 4).setDom 7 { supply := true }, 3, 0, ?_⟩,
    ⟨(z.setTrans 7 4).setDom 7 { supply := true, req := some ⟨some c0, 0, 0⟩ }, c0, 3, (⟨some c0, 0, 0⟩ : DomReq), 0, ?_⟩,
    ⟨z.setF (R.PWR_DOM_WAKE 7) F.PWR_DOM_WAKE_SIG_EN 1, 7, ?_⟩,
    ⟨(dom4 2 0).setF (R.PWR_DOM_WAKE 4) F.PWR_DOM_WAKE_TICK_EN 1, 4, ?_⟩⟩ <;> decide +kernel

/-- The hypotheses of every clause of `StopsAndReefStages` are met. -/
theorem test_witness_StopsAndReefStages :
    (∃ (s : State) (n : Nat), s.pwr.critPend = some n ∧ s.pwr.stop = .none)
    ∧ (∃ (s : State) (c : Cmd), s.pwr.stop = .none ∧ c.epoch = s.host.epoch)
    ∧ (∃ (s : State) (d : Nat) (rest : List Nat), s.pwr.stop = .orderly (d :: rest) ∧ s.lrState = 2 ∧ 1 ≤ d ∧ d ≤ 42)
    ∧ (∃ (s : State) (d : Nat) (rest : List Nat), s.pwr.stop = .orderly (d :: rest) ∧ s.lrState ≠ 2)
    ∧ (∃ (s : State), s.reefStage = 1 ∧ s.reefEn = true ∧ s.reefTimer F.REEF_CTL_GRACE = true)
    ∧ (∃ (s : State), s.reefStage = 2 ∧ s.reefEn = true ∧ s.reefTimer F.REEF_CTL_GRACE2 = true)
    ∧ (∃ (s : State), s.reefStage ≠ 0 ∧ s.f R.REEF_CTL F.REEF_CTL_HOLD ≤ s.pwr.holdCnt)
    ∧ (∃ (s : State) (c : Cmd) (m : BitVec 8), m.toNat < 2 ∧ c.epoch = s.host.epoch) := by
  refine ⟨⟨{ z with pwr.critPend := some 3 }, 3, ?_⟩,
    ⟨z, c0, ?_⟩,
    ⟨{ z.setF R.LR_STAT F.LR_STAT_STATE 2 with pwr.stop := .orderly [42, 5] }, 42, [5], ?_⟩,
    ⟨{ z with pwr.stop := .orderly [42, 5] }, 42, [5], ?_⟩,
    ⟨((z.setF R.REEF_CTL F.REEF_CTL_EN 1).setF R.REEF_STAT F.REEF_STAT_STAGE 1).setF R.REEF_STAT F.REEF_STAT_TIMER 0xFFFF, ?_⟩,
    ⟨(((z.setF R.REEF_CTL F.REEF_CTL_GRACE2 10).setF R.REEF_CTL F.REEF_CTL_EN 1).setF R.REEF_STAT F.REEF_STAT_STAGE 2).setF R.REEF_STAT F.REEF_STAT_TIMER 0xFFFF, ?_⟩,
    ⟨{ z.setF R.REEF_STAT F.REEF_STAT_STAGE 2 with pwr.holdCnt := 1000000 }, ?_⟩,
    ⟨z.setF R.REEF_CTL F.REEF_CTL_EN 1, c0, 1, ?_⟩⟩ <;> decide +kernel

/-- The hypotheses of every clause of `ResetsAndStartUp` are met. -/
theorem test_witness_ResetsAndStartUp :
    (∃ (s : State), s.b R.WDT_CTL F.WDT_CTL_EN = true ∧ 3 ≤ s.bootStage ∧ s.bootStage ≤ 5 ∧ s.sec.held = false ∧ s.pwr.stop = .none ∧
      s.eng.lrReset = false ∧ s.isOn domPCIE = true)
    ∧ (∃ (s : State), s.sec.held = true)
    ∧ (∃ (s : State), s.sec.held = true ∧ s.time.holdover = false)
    ∧ (∃ (s : State), s.sec.held = false)
    ∧ (∃ (s : State), s.time.holdover = true)
    ∧ (∃ (s : State), s.time.holdover = false) := by
  refine ⟨⟨{ ((on [2]).setF R.WDT_CTL F.WDT_CTL_EN 1).setBootStage 5 with sec.held := false }, ?_⟩,
    ⟨z, ?_⟩,
    ⟨{ z with time.holdover := false }, ?_⟩,
    ⟨{ z with sec.held := false }, ?_⟩,
    ⟨{ z with time.holdover := true }, ?_⟩,
    ⟨{ z with time.holdover := false }, ?_⟩⟩ <;> decide +kernel

/-- The hypotheses of every clause of `ImagesAndIdentity` are met. -/
theorem test_witness_ImagesAndIdentity :
    (∃ (s : State) (c : Cmd) (a : BitVec 64), c.epoch = s.host.epoch ∧ a.toNat % 64 = 0 ∧ s.b R.SEC_BOOT_STAT F.SEC_BOOT_STAT_CERT_OK =
      true)
    ∧ (∃ (s : State) (c : Cmd) (a : BitVec 64), c.epoch = s.host.epoch ∧ a.toNat % 64 = 0 ∧ s.b R.SEC_BOOT_STAT F.SEC_BOOT_STAT_CERT_OK =
      false)
    ∧ (∃ (s : State) (c : Cmd), c.epoch = s.host.epoch)
    ∧ (∃ (s : State) (c : Cmd) (sl : BitVec 8) (off : BitVec 32) (len : BitVec 32), c.epoch = s.host.epoch ∧ sl.toNat < 2 ∧ off.toNat %
      0x10000 = 0 ∧ len.toNat % 0x10000 = 0 ∧ len.toNat ≤ 0x100000 ∧ off.toNat + len.toNat ≤ 0xC00000 ∧ sl.toNat ≠ s.runSlot)
    ∧ (∃ (s : State) (c : Cmd) (sl : BitVec 8) (off : BitVec 32) (len : BitVec 32), c.epoch = s.host.epoch ∧ sl.toNat < 2 ∧ off.toNat %
      0x10000 = 0 ∧ len.toNat % 0x10000 = 0 ∧ len.toNat ≤ 0x100000 ∧ off.toNat + len.toNat ≤ 0xC00000 ∧ sl.toNat = s.runSlot)
    ∧ (∃ (s : State) (c : Cmd) (sl : BitVec 8), c.epoch = s.host.epoch ∧ sl.toNat < 2)
    ∧ (∃ (s : State) (c : Cmd) (fc : BitVec 8), c.epoch = s.host.epoch ∧ fc.toNat = 1 ∧ s.runVersion ≤ s.rollback)
    ∧ (∃ (s : State) (c : Cmd) (fc : BitVec 8), c.epoch = s.host.epoch ∧ fc.toNat = 1 ∧ s.rollback < s.runVersion) := by
  refine ⟨⟨z.setB R.SEC_BOOT_STAT F.SEC_BOOT_STAT_CERT_OK true, c0, 0, ?_⟩,
    ⟨z, c0, 0, ?_⟩,
    ⟨z, c0, ?_⟩,
    ⟨z, c0, 1, 0, 0x10000, ?_⟩,
    ⟨z, c0, 0, 0, 0x10000, ?_⟩,
    ⟨z, c0, 0, ?_⟩,
    ⟨z, c0, 1, ?_⟩,
    ⟨z.setF R.SEC_BOOT_STAT F.SEC_BOOT_STAT_VERSION 3, c0, 1, ?_⟩⟩ <;> decide +kernel

/-- The hypotheses of every clause of `KeysTasksAndFlash` are met. -/
theorem test_witness_KeysTasksAndFlash :
    (∃ (s : State) (c : Cmd), c.epoch = s.host.epoch ∧ s.b R.GLB_LOCK F.GLB_LOCK_LOCK = true)
    ∧ (∃ (s : State) (c : Cmd) (m : List Byte) (k : Nat), c.epoch = s.host.epoch ∧ s.b R.GLB_LOCK F.GLB_LOCK_LOCK = false ∧ fieldOf m 0 2 =
      0x6B3E ∧ fieldOf m 2 1 = 1 ∧ k = fieldOf m 3 1 ∧ k < 4 ∧ fieldOf m 12 1 = 0xFF ∧ fieldOf m 4 8 = (s.reg R.GLB_SERIAL).toNat ∧ s.f
      R.SEC_KEY_STAT F.SEC_KEY_STAT_SLOTS = 0)
    ∧ (∃ (s : State) (c : Cmd) (m : List Byte) (tk : BitVec 8) (len : BitVec 32), c.epoch = s.host.epoch ∧ tk.toNat < 2 ∧ 512 ≤ len.toNat ∧
      len.toNat ≤ 512 + 262144 ∧ len.toNat = 512 + fieldOf m 16 4 ∧ s.taskState tk.toNat ≠ 2 ∧ s.taskState tk.toNat ≠ 3)
    ∧ (∃ (s : State) (c : Cmd) (tk : BitVec 8) (ac : BitVec 8) (md : BitVec 8) (bg : BitVec 16) (w : Nat), c.epoch = s.host.epoch ∧
      tk.toNat < 2 ∧ ac.toNat < 3 ∧ md.toNat < 2 ∧ 500 ≤ bg.toNat ∧ bg.toNat ≤ 2000 ∧ taskNext ac.toNat (s.taskState tk.toNat) = some w)
    ∧ (∃ (s : State) (c : Cmd) (tk : BitVec 8) (ac : BitVec 8) (md : BitVec 8) (bg : BitVec 16), c.epoch = s.host.epoch ∧ tk.toNat < 2 ∧
      ac.toNat < 3 ∧ md.toNat < 2 ∧ 500 ≤ bg.toNat ∧ bg.toNat ≤ 2000 ∧ taskNext ac.toNat (s.taskState tk.toNat) = none)
    ∧ (∃ (s : State) (c : Cmd) (w : Nat) (x : Nat), c.epoch = s.host.epoch ∧ w = s.f R.SEC_FLASH_ADDR F.SEC_FLASH_ADDR_ADDR ∧ w % 8 = 0 ∧
      s.sec.op = none ∧ s.bootStage = 6 ∧ flashWindow w = true ∧ x = s.f R.SEC_FLASH_DATA F.SEC_FLASH_DATA_DATA)
    ∧ (∃ (s : State) (c : Cmd), c.epoch = s.host.epoch ∧ s.f R.SEC_FLASH_ADDR F.SEC_FLASH_ADDR_ADDR % 8 = 0 ∧ s.bootStage ≠ 6)
    ∧ (∃ (s : State) (c : Cmd) (w : Nat) (x : Nat), c.epoch = s.host.epoch ∧ s.sec.op = some (0, w, x))
    ∧ (∃ (s : State) (c : Cmd) (k : Nat) (w : Nat) (x : Nat), c.epoch = s.host.epoch ∧ s.sec.op = some (1, w, x) ∧ k < 8 ∧ Tab.get
      flashBlank s.sec.flash (w + k) = 0xFF)
    ∧ (∃ (s : State) (c : Cmd) (w : Nat) (x : Nat), c.epoch = s.host.epoch ∧ s.sec.op = some (2, w, x)) := by
  refine ⟨⟨z.setB R.GLB_LOCK F.GLB_LOCK_LOCK true, c0, ?_⟩,
    ⟨z, c0, leBytes 2 0x6B3E ++ [1, 2] ++ List.replicate 8 0 ++ [0xFF] ++ List.replicate 99 0, 2, ?_⟩,
    ⟨z, c0, List.replicate 600 0, 1, 512, ?_⟩,
    ⟨z.setTask 0 1, c0, 0, 1, 0, 500, 2, ?_⟩,
    ⟨z, c0, 0, 0, 0, 500, ?_⟩,
    ⟨z.setBootStage 6, c0, 0, 0, ?_⟩,
    ⟨z, c0, ?_⟩,
    ⟨{ z with sec.op := some (0, 0x10000, 0) }, c0, 0x10000, 0, ?_⟩,
    ⟨{ z with sec.op := some (1, 0x10000, 0x1234) }, c0, 1, 0x10000, 0x1234, ?_⟩,
    ⟨{ z with sec.op := some (2, 0x10000, 0), sec.flash := [(0x10001, 5), (0x20000, 6)] }, c0, 0x10000, 0, ?_⟩⟩ <;> decide +kernel

/-- The hypotheses of every clause of `PatternsAndLoops` are met. -/
theorem test_witness_PatternsAndLoops :
    (∃ (s : State) (c : Cmd) (ty : BitVec 8) (ix : BitVec 8) (ln : BitVec 8) (gen : BitVec 8) (chk : BitVec 8) (sq : BitVec 8) (fc :
      BitVec 8), c.epoch = s.host.epoch ∧ patNamed ty.toNat ix.toNat ln.toNat = true ∧ fc.toNat < 2 ∧ 0 < sq.toNat ∧ sq.toNat < 64 ∧
      s.patAccepts ty.toNat ix.toNat ln.toNat gen.toNat = true ∧ s.patAccepts ty.toNat ix.toNat ln.toNat chk.toNat = true ∧ s.patOnDomain
      ty.toNat ix.toNat = true ∧ (gen.toNat = 0 ∨ fc.toNat = 1))
    ∧ (∃ (s : State) (c : Cmd) (ty : BitVec 8) (ix : BitVec 8) (ln : BitVec 8) (gen : BitVec 8) (chk : BitVec 8) (sq : BitVec 8) (fc :
      BitVec 8), c.epoch = s.host.epoch ∧ patNamed ty.toNat ix.toNat ln.toNat = true ∧ fc.toNat < 2 ∧ 0 < sq.toNat ∧ sq.toNat < 64 ∧
      s.patAccepts ty.toNat ix.toNat ln.toNat gen.toNat = true ∧ s.patAccepts ty.toNat ix.toNat ln.toNat chk.toNat = true ∧ s.patOnDomain
      ty.toNat ix.toNat = true ∧ gen.toNat ≠ 0 ∧ fc.toNat = 0 ∧ ty.toNat ≠ 2 ∧ s.patInUse ty.toNat ix.toNat ln.toNat false = true)
    ∧ (∃ (s : State) (c : Cmd) (ty : BitVec 8) (ix : BitVec 8) (ln : BitVec 8) (fc : BitVec 8) (lp : BitVec 8), c.epoch = s.host.epoch ∧
      patNamed ty.toNat ix.toNat ln.toNat = true ∧ ty.toNat ≠ 2 ∧ lp.toNat < 4 ∧ fc.toNat < 2 ∧ s.patOnDomain ty.toNat ix.toNat = true ∧
      (lp.toNat = 0 ∨ fc.toNat = 1))
    ∧ (∃ (s : State) (c : Cmd) (ty : BitVec 8), c.epoch = s.host.epoch ∧ ty.toNat = 2)
    ∧ (∃ (s : State) (p : Fin 4) (i : Fin 16) (l : Fin 16), patNamed p i l = true ∧ s.patOnDomain p i = true ∧ s.f (patBase p i l)
      F.PAT_CTL_CHK ≠ 0 ∧ s.b (patStat p i l) F.PAT_STAT_LOCK = false)
    ∧ (∃ (s : State) (p : Fin 4) (i : Fin 16) (l : Fin 16), patNamed p i l = true ∧ s.b (patStat p i l) F.PAT_STAT_LOCK = true)
    ∧ (∃ (s : State) (p : Fin 4) (i : Fin 16) (l : Fin 16), patNamed p i l = true ∧ s.f (patBase p i l) F.PAT_CTL_LOOP = 3) := by
  refine ⟨⟨on [7], c0, 0, 0, 8, 3, 0, 1, 1, ?_⟩,
    ⟨(on [7]).setFo 0 { z.fo 0 with txPage := { seq := 1, slots := [(0, some 5)] } }, c0, 0, 0, 0, 3, 0, 1, 0, ?_⟩,
    ⟨on [7], c0, 0, 0, 0, 1, 3, ?_⟩,
    ⟨on [7], c0, 2, ?_⟩,
    ⟨(on [7]).setF (patBase 0 0 0) F.PAT_CTL_CHK 3, 0, 0, 0, ?_⟩,
    ⟨((on [7]).setF (patBase 0 0 0) F.PAT_CTL_CHK 3).setB (patStat 0 0 0) F.PAT_STAT_LOCK true, 0, 0, 0, ?_⟩,
    ⟨(on [7]).setF (patBase 0 0 0) F.PAT_CTL_LOOP 3, 0, 0, 0, ?_⟩⟩ <;> decide +kernel

/-- The hypotheses of every clause of `HistogramsSamplesAndCaptures` are met. -/
theorem test_witness_HistogramsSamplesAndCaptures :
    (∃ (s : State) (u : Fin 16), s.blockedBy (R.HIST_CTL u) = none)
    ∧ (∃ (s : State) (u : Fin 16), 0 < Tab.get (fun _ => 0) s.obs.marks u ∧ s.b (R.HIST_CTL u) F.HIST_CTL_EN = true ∧ s.b (R.HIST_CTL u)
      F.HIST_CTL_FREEZE = false)
    ∧ (∃ (s : State) (u : Fin 16), 0 < Tab.get (fun _ => 0) s.obs.marks u)
    ∧ (∃ (s : State) (co : Fin 4), s.b R.SAMP_CTL F.SAMP_CTL_EN = true ∧ bitOf (s.f R.SAMP_CTL F.SAMP_CTL_CORES) co = true ∧ s.f R.SAMP_CTL
      F.SAMP_CTL_EVENT ≠ 0 ∧ s.isOn domCTRL = true ∧ s.obs.samples.length < 4096)
    ∧ (∃ (s : State) (co : Fin 4), s.b R.SAMP_CTL F.SAMP_CTL_EN = true ∧ bitOf (s.f R.SAMP_CTL F.SAMP_CTL_CORES) co = true ∧ s.f R.SAMP_CTL
      F.SAMP_CTL_EVENT ≠ 0 ∧ s.isOn domCTRL = true ∧ 4096 ≤ s.obs.samples.length)
    ∧ (∃ (s : State), s.obs.sampDue = true)
    ∧ (∃ (s : State) (ll : BitVec 8) (src : BitVec 8) (bf : BitVec 8) (ln : BitVec 16), s.capCause ll.toNat src.toNat ln.toNat bf.toNat =
      none)
    ∧ (∃ (s : State) (c : Cmd) (ll : BitVec 8) (src : BitVec 8) (bf : BitVec 8) (ln : BitVec 16) (e : _), c.epoch = s.host.epoch ∧
      s.capCause ll.toNat src.toNat ln.toNat bf.toNat = some e)
    ∧ (∃ (s : State) (c : Cmd) (y : Fin 4) (q : CapRun), s.cap y = some q ∧ q.draining = false ∧ q.cmd = some c ∧ c.epoch = s.host.epoch)
    ∧ (∃ (s : State) (y : Fin 4) (q : CapRun), s.cap y = some q ∧ q.draining = true ∧ s.isOn domGDDR = true ∧ q.buf < 16)
    ∧ (∃ (s : State) (c : Cmd) (a : BitVec 64) (bf : BitVec 8) (off : BitVec 32) (len : BitVec 32), c.epoch = s.host.epoch ∧ bf.toNat < 16
      ∧ off.toNat % 64 = 0 ∧ len.toNat % 64 = 0 ∧ off.toNat + len.toNat ≤ 2 ^ 20 ∧ a.toNat % 64 = 0 ∧ s.isOn domGDDR = true ∧ s.b
      (R.CAP_BUF_A bf.toNat) F.CAP_BUF_A_BUSY = false ∧ s.b (R.CAP_BUF_A bf.toNat) F.CAP_BUF_A_VALID = true)
    ∧ (∃ (s : State) (c : Cmd) (a : BitVec 64) (bf : BitVec 8) (off : BitVec 32) (len : BitVec 32), c.epoch = s.host.epoch ∧ bf.toNat < 16
      ∧ off.toNat % 64 = 0 ∧ len.toNat % 64 = 0 ∧ off.toNat + len.toNat ≤ 2 ^ 20 ∧ a.toNat % 64 = 0 ∧ s.isOn domGDDR = true ∧ s.b
      (R.CAP_BUF_A bf.toNat) F.CAP_BUF_A_BUSY = false ∧ s.b (R.CAP_BUF_A bf.toNat) F.CAP_BUF_A_VALID = false) := by
  refine ⟨⟨on [1], 15, ?_⟩,
    ⟨{ (z.setF (R.HIST_CTL 0) F.HIST_CTL_EN 1) with obs.marks := [(0, 2)] }, 0, ?_⟩,
    ⟨{ z with obs.marks := [(15, 2)] }, 15, ?_⟩,
    ⟨((((on [1]).setF R.SAMP_CTL F.SAMP_CTL_EN 1).setF R.SAMP_CTL F.SAMP_CTL_CORES 3).setF R.SAMP_CTL F.SAMP_CTL_EVENT 2), 0, ?_⟩,
    ⟨{ ((((on [1]).setF R.SAMP_CTL F.SAMP_CTL_EN 1).setF R.SAMP_CTL F.SAMP_CTL_CORES 3).setF R.SAMP_CTL F.SAMP_CTL_EVENT 2) with obs.samples := List.replicate 4096 [] }, 0, ?_⟩,
    ⟨{ z with obs.sampDue := true, obs.samples := List.replicate 40 [] }, ?_⟩,
    ⟨on [7, 4], 8, 0, 0, 1, ?_⟩,
    ⟨z, c0, 0, 0, 0, 1, 2, ?_⟩,
    ⟨(on [7, 4]).setCap 0 (some ⟨3, some c0, 4, 5, false, []⟩), c0, 0, (⟨3, some c0, 4, 5, false, []⟩ : CapRun), ?_⟩,
    ⟨(on [7, 4]).setCap 0 (some ⟨3, some c0, 4, 5, true, [1, 2]⟩), 0, (⟨3, some c0, 4, 5, true, [1, 2]⟩ : CapRun), ?_⟩,
    ⟨(on [7, 4]).setB (R.CAP_BUF_A 15) F.CAP_BUF_A_VALID true, c0, 0, 15, 0, 64, ?_⟩,
    ⟨on [7, 4], c0, 0, 0, 0, 64, ?_⟩⟩ <;> decide +kernel

/-- The hypotheses of every clause of `WritesAreStagedOrLogged` are met. -/
theorem test_witness_WritesAreStagedOrLogged :
    (∃ (s : State) (x : Fin 432) (v : BitVec 64), s.isOn domAON = true ∧ F.EDAC_CH_CFG_SPAN.of v < 3 ∧ (s.owner x = 0 ∨ s.owner x = 3))
    ∧ (∃ (s : State) (v : BitVec 64), s.isOn domAON = true ∧ F.EDAC_CH_CFG_SPAN.of v = 3)
    ∧ (∃ (s : State) (x : Fin 432) (v : BitVec 64), s.isOn domAON = true ∧ F.EDAC_CH_CFG_SPAN.of v < 3 ∧ s.host.regQ = [] ∧ s.owner x = 2 ∧
      F.EDAC_CH_CFG_SPAN.of v ≠ s.f (R.EDAC_CH_CFG x) F.EDAC_CH_CFG_SPAN)
    ∧ (∃ (s : State) (o : Fin 16) (v : BitVec 64), s.blockedBy (R.FEC_CAP_CTL o) = none ∧ s.b (R.FEC_CAP_CTL o) F.FEC_CAP_CTL_ARM = false ∧
      F.FEC_CAP_CTL_LANE.of v ≤ 8 ∧ 1 ≤ F.FEC_CAP_CTL_TRIG_LOAD.of v ∧ F.FEC_CAP_CTL_TRIG_LOAD.of v ≤ 41)
    ∧ (∃ (s : State), s.isOn domAON = true ∧ s.b R.GLB_LOCK F.GLB_LOCK_LOCK = false)
    ∧ (∃ (s : State) (a : Nat) (b : List Byte) (r : RegDef) (is : List Nat), a % 8 = 0 ∧ b.length = 8 ∧ s.blockedBy a = none ∧ regAt a =
      some (r, is) ∧ s.b R.GLB_LOCK F.GLB_LOCK_LOCK = true ∧ r.stagedMask = r.maskOf (· == Acc.rwl) ∧ r.stagedMask ≠ 0 ∧ r.reservedIn
      (BitVec.ofNat 64 (ofLeBytes b)) (maskW 64) = false)
    ∧ (∃ (a : Nat) (b : List Byte), b ≠ [] ∧ b.length ≤ 8 ∧ sizeOk a b.length = false)
    ∧ (∃ (s : State) (a : Nat) (k : Nat) (b : List Byte), sizeOk a b.length = true ∧ s.blockedBy a = some k)
    ∧ (∃ (s : State) (a : Nat) (b : List Byte), sizeOk a b.length = true ∧ s.blockedBy a = none ∧ regAt (a / 8 * 8) = none) := by
  refine ⟨⟨eng0, 431, 2, ?_⟩,
    ⟨eng0, 3, ?_⟩,
    ⟨(eng0.setRamp 0 (some ⟨0, 4, 1, [(0, 0, 9)], some c0⟩)), 0, 1, ?_⟩,
    ⟨on [7, 39], 0, F.FEC_CAP_CTL_TRIG_LOAD.put 0 41, ?_⟩,
    ⟨z, ?_⟩,
    ⟨z.setB R.GLB_LOCK F.GLB_LOCK_LOCK true, R.THERM_LVL, leBytes 8 0x2EE0_2AF8_2710, rowOf (R.THERM_LVL), [], ?_⟩,
    ⟨1, [1, 2], ?_⟩,
    ⟨z, R.TX_LANE_CTL 0 0, 7, [1], ?_⟩,
    ⟨z, 8 * 7, [1], ?_⟩⟩ <;> decide +kernel

/-- The hypotheses of every clause of `ReadsCaptureAndLatch` are met. -/
theorem test_witness_ReadsCaptureAndLatch :
    (∃ (s : State) (a : Nat) (r : RegDef) (is : List Nat), a % 8 = 0 ∧ s.blockedBy a = none ∧ regAt a = some (r, is) ∧ r.id ≠ .GLB_ERR_A)
    ∧ (∃ (s : State) (a : Nat) (r : RegDef) (is : List Nat), a % 8 = 0 ∧ s.blockedBy a = none ∧ regAt a = some (r, is) ∧ r.id ≠ .GLB_ERR_A)
    ∧ (∃ (s : State) (a : Nat) (r : RegDef) (is : List Nat) (x : Shadow), a % 8 = 0 ∧ s.blockedBy a = none ∧ regAt a = some (r, is) ∧ r.id
      ≠ .GLB_ERR_A ∧ s.host.shadow = some x ∧ x.addr = a)
    ∧ (∃ (s : State) (a : Nat) (r : RegDef) (is : List Nat), a % 8 = 0 ∧ s.blockedBy a = none ∧ regAt a = some (r, is) ∧ r.id ≠ .GLB_ERR_A
      ∧ s.host.shadow = none)
    ∧ (∃ (s : State) (a : Nat), a % 8 = 0 ∧ s.blockedBy a = none ∧ regAt a = none)
    ∧ (∃ (s : State) (a : Nat) (k : Nat), a % 8 = 0 ∧ s.blockedBy a = some k)
    ∧ (∃ (s : State) (d : Fin 2), s.isOn domAON = true ∧ Tab.get (fun _ => none) s.host.latch (R.DOM_TIME_NS d) = none)
    ∧ (∃ (s : State) (e : LogEntry) (l : List LogEntry), s.isOn domAON = true ∧ s.host.log = e :: l)
    ∧ (∃ (s : State), s.isOn domAON = true ∧ s.host.log = [])
    ∧ (∃ (a : Nat) (n : Nat), sizeOk a n = false) := by
  refine ⟨⟨on [7], R.MON_STAT 0 0, rowOf (R.MON_STAT 0 0), [0, 0], ?_⟩,
    ⟨((on [7, 39]).setReg (R.PPS_IN_STAT 0) 7), R.PPS_IN_STAT 0, rowOf (R.PPS_IN_STAT 0), [0], ?_⟩,
    ⟨{ z with host.shadow := some ⟨R.TICK_COUNT, 7⟩ }, R.TICK_COUNT, rowOf (R.TICK_COUNT), [], ⟨R.TICK_COUNT, 7⟩, ?_⟩,
    ⟨z, R.TICK_COUNT, rowOf (R.TICK_COUNT), [], ?_⟩,
    ⟨z, 8 * 7, ?_⟩,
    ⟨z, R.TX_LANE_CTL 0 0, 7, ?_⟩,
    ⟨z, 1, ?_⟩,
    ⟨{ z with host.log := [⟨8, logSIZE, true, false, 3, 63, 0, 9, 5⟩] }, ⟨8, logSIZE, true, false, 3, 63, 0, 9, 5⟩, [], ?_⟩,
    ⟨z, ?_⟩,
    ⟨0, 16, ?_⟩⟩ <;> decide +kernel

/-- The hypotheses of every clause of `ReservedEncodingsAreDiscarded` are met. -/
theorem test_witness_ReservedEncodingsAreDiscarded :
    (∃ (s : State) (a : Nat) (b : List Byte) (r : RegDef) (is : List Nat) (cur : Word) (d : Word) (m : Word), sizeOk a b.length = true ∧
      s.blockedBy a = none ∧ regAt (a / 8 * 8) = some (r, is) ∧ cur = s.regLive r is (a / 8 * 8) 0 &&& ~~~(r.maskOf (· == Acc.wo)) ∧ d =
      BitVec.ofNat 64 (ofLeBytes b) <<< (8 * (a % 8)) ∧ m = maskW (8 * b.length) <<< (8 * (a % 8)) ∧ r.reservedIn ((cur &&& ~~~m) ||| (d
      &&& m)) m = true) := by
  refine ⟨z, R.SAMP_CTL, leBytes 8 0xFFFFFFFFFFFFFFFF, rowOf (R.SAMP_CTL), [], z.regLive (rowOf R.SAMP_CTL) [] R.SAMP_CTL 0 &&& ~~~((rowOf R.SAMP_CTL).maskOf (· == Acc.wo)), 0xFFFFFFFFFFFFFFFF, 0xFFFFFFFFFFFFFFFF, ?_⟩; decide +kernel

/-- The hypotheses of every clause of `ThermalLevelsKeepTheirOrder` are met. -/
theorem test_witness_ThermalLevelsKeepTheirOrder :
    (∃ (s : State) (v : BitVec 64) (warn : Int) (crit : Int) (trip : Int) (ew : Int) (ec : Int), s.isOn domAON = true ∧ s.b R.GLB_LOCK
      F.GLB_LOCK_LOCK = false ∧ warn = signedOf 16 (F.THERM_LVL_WARN.of v) ∧ crit = signedOf 16 (F.THERM_LVL_CRIT.of v) ∧ trip = signedOf
      16 (F.THERM_LVL_TRIP.of v) ∧ ew = signedOf 16 (F.ENG_THERM_LVL_ENG_WARN.of v) ∧ ec = signedOf 16 (F.ENG_THERM_LVL_ENG_CRIT.of v) ∧
      (¬ (warn < crit ∧ crit < trip) ∨ trip < 10500))
    ∧ (∃ (s : State) (v : BitVec 64) (warn : Int) (crit : Int) (trip : Int) (ew : Int) (ec : Int), s.isOn domAON = true ∧ s.b R.GLB_LOCK
      F.GLB_LOCK_LOCK = false ∧ warn = signedOf 16 (F.THERM_LVL_WARN.of v) ∧ crit = signedOf 16 (F.THERM_LVL_CRIT.of v) ∧ trip = signedOf
      16 (F.THERM_LVL_TRIP.of v) ∧ ew = signedOf 16 (F.ENG_THERM_LVL_ENG_WARN.of v) ∧ ec = signedOf 16 (F.ENG_THERM_LVL_ENG_CRIT.of v) ∧
      warn < crit ∧ crit < trip ∧ 10500 ≤ trip)
    ∧ (∃ (s : State) (v : BitVec 64) (warn : Int) (crit : Int) (trip : Int) (ew : Int) (ec : Int), s.isOn domAON = true ∧ s.b R.GLB_LOCK
      F.GLB_LOCK_LOCK = false ∧ warn = signedOf 16 (F.THERM_LVL_WARN.of v) ∧ crit = signedOf 16 (F.THERM_LVL_CRIT.of v) ∧ trip = signedOf
      16 (F.THERM_LVL_TRIP.of v) ∧ ew = signedOf 16 (F.ENG_THERM_LVL_ENG_WARN.of v) ∧ ec = signedOf 16 (F.ENG_THERM_LVL_ENG_CRIT.of v) ∧
      ec ≤ ew)
    ∧ (∃ (s : State) (v : BitVec 64) (warn : Int) (crit : Int) (trip : Int) (ew : Int) (ec : Int), s.isOn domAON = true ∧ s.b R.GLB_LOCK
      F.GLB_LOCK_LOCK = false ∧ warn = signedOf 16 (F.THERM_LVL_WARN.of v) ∧ crit = signedOf 16 (F.THERM_LVL_CRIT.of v) ∧ trip = signedOf
      16 (F.THERM_LVL_TRIP.of v) ∧ ew = signedOf 16 (F.ENG_THERM_LVL_ENG_WARN.of v) ∧ ec = signedOf 16 (F.ENG_THERM_LVL_ENG_CRIT.of v) ∧
      ew < ec) := by
  refine ⟨⟨z, F.THERM_LVL_WARN.put 0 1, 1, 0, 0, 1, 0, ?_⟩,
    ⟨z, F.THERM_LVL_WARN.put (F.THERM_LVL_CRIT.put (F.THERM_LVL_TRIP.put 0 12000) 11000) 10000, 10000, 11000, 12000, signedOf 16 (F.ENG_THERM_LVL_ENG_WARN.of (F.THERM_LVL_WARN.put (F.THERM_LVL_CRIT.put (F.THERM_LVL_TRIP.put 0 12000) 11000) 10000)), signedOf 16 (F.ENG_THERM_LVL_ENG_CRIT.of (F.THERM_LVL_WARN.put (F.THERM_LVL_CRIT.put (F.THERM_LVL_TRIP.put 0 12000) 11000) 10000)), ?_⟩,
    ⟨z, F.ENG_THERM_LVL_ENG_WARN.put 0 1, signedOf 16 (F.THERM_LVL_WARN.of (F.ENG_THERM_LVL_ENG_WARN.put 0 1)), 0, 0, 1, 0, ?_⟩,
    ⟨z, F.ENG_THERM_LVL_ENG_CRIT.put 0 1, 0, signedOf 16 (F.THERM_LVL_CRIT.of (F.ENG_THERM_LVL_ENG_CRIT.put 0 1)), 0, 0, 1, ?_⟩⟩ <;> decide +kernel

end Sys2Proof.Tests
end

section
/-!
PROOF. A write that carries a reserved encoding (R16): an aligned write of up to 8 bytes lies in one word, reaches the register
there, and leaves an entry of the error log and nothing else.
-/

namespace Sys2Proof.Machine

/-! ## An entry of the error log (R612) -/

@[simp] theorem State.logEntry_regQ (s : State) (e : LogEntry) : (s.logEntry e).host.regQ = s.host.regQ := by
  simp only [State.logEntry]; split <;> rfl

theorem State.logW_host_only (s : State) (a cause size : Nat) (fw : Bool) (v : Word) :
    s.logW a cause size fw v = { s with host := (s.logW a cause size fw v).host } :=
  s.logEntry_host_only _

@[simp] theorem State.logW_regQ (s : State) (a cause size : Nat) (fw : Bool) (v : Word) :
    (s.logW a cause size fw v).host.regQ = s.host.regQ :=
  s.logEntry_regQ _

theorem logs_logEntry (s : State) (e : LogEntry) : Logs s (s.logEntry e) e.off e.cause := by
  refine ⟨s.logEntry_logTotal e, ?_⟩
  rw [s.logEntry_log e]
  split
  · exact ⟨e, rfl, rfl, rfl⟩
  · rfl

theorem logs_logW (s : State) (a cause size : Nat) (fw : Bool) (v : Word) : Logs s (s.logW a cause size fw v) a cause :=
  logs_logEntry s _

/-! ## Aligned writes of up to 8 bytes (R606) -/

theorem sizeOk_iff (a n : Nat) : sizeOk a n = true ↔ (n = 1 ∨ n = 2 ∨ n = 4 ∨ n = 8) ∧ a % n = 0 := by
  simp [sizeOk, or_assoc]

theorem sizeOk_pos {a n : Nat} (h : sizeOk a n = true) : 0 < n := by
  obtain ⟨hn, -⟩ := (sizeOk_iff a n).mp h
  omega

/-- A naturally aligned access does not reach into the next word. -/
theorem sizeOk_le_wordEnd {a n : Nat} (h : sizeOk a n = true) : n ≤ 8 - a % 8 := by
  obtain ⟨rfl | rfl | rfl | rfl, ha⟩ := (sizeOk_iff a n).mp h <;> omega

/-- Bytes that end within their word are one part. -/
theorem wordParts_single (n a : Nat) (b : List Byte) (hb : b ≠ []) (h : b.length ≤ 8 - a % 8) :
    wordParts (n + 1) a b = [(a, b)] := by
  have htake : b.take (8 - a % 8) = b := List.take_of_length_le h
  have hdrop : b.drop (8 - a % 8) = [] := List.drop_of_length_le h
  cases n <;> simp [wordParts, hb, htake, hdrop]

theorem State.busWrite_of_sizeOk (s : State) (a : Nat) (b : List Byte) (fw : Bool) (h : sizeOk a b.length = true) :
    s.busWrite a b fw = s.wordWrite a b fw := by
  have hpos := sizeOk_pos h
  have hb : b ≠ [] := List.ne_nil_of_length_pos hpos
  have hparts : wordParts b.length a b = [(a, b)] := by
    rw [← Nat.sub_add_cancel hpos]
    exact wordParts_single _ a b hb (sizeOk_le_wordEnd h)
  simp [State.busWrite, hparts, hb, h]

theorem State.wordWrite_of_regAt (s : State) {a : Nat} (b : List Byte) (fw : Bool) {r : RegDef} {is : List Nat}
    (hon : s.blockedBy a = none) (hr : regAt (a / 8 * 8) = some (r, is)) :
    s.wordWrite a b fw = s.regWrite r is (a / 8 * 8) a (BitVec.ofNat 64 (ofLeBytes b) <<< (8 * (a % 8)))
      (maskW (8 * b.length) <<< (8 * (a % 8))) fw (sizeCode b.length) := by
  simp only [State.wordWrite, hon, hr]

/-! ## Reserved encodings (R16) -/

/-- The word that a write leaves: the bytes written over what reads back, with WO fields read as 0 (R48). -/
def State.mergedWord (s : State) (r : RegDef) (is : List Nat) (a : Nat) (d bytes : Word) : Word :=
  ((s.regLive r is a 0 &&& ~~~(r.maskOf (· == Acc.wo))) &&& ~~~bytes) ||| (d &&& bytes)

/-- A write whose merged word is reserved is logged: RESERVED, or REFUSED where the rule of SL_CTL judges a bound lane first. -/
theorem State.regWrite_of_reservedIn (s : State) (r : RegDef) (is : List Nat) (a off : Nat) (d bytes : Word) (fw : Bool) (size : Nat)
    (h : r.reservedIn (s.mergedWord r is a d bytes) bytes = true) :
    ∃ cause, (cause = logRESERVED ∨ r.id = .SL_CTL ∧ cause = logREFUSED)
      ∧ s.regWrite r is a off d bytes fw size = s.logW off cause size fw (s.mergedWord r is a d bytes) := by
  unfold State.mergedWord at h ⊢
  simp only [State.regWrite]
  split
  next hsl => exact ⟨logREFUSED, .inr ⟨hsl.1, rfl⟩, rfl⟩
  next => exact ⟨logRESERVED, .inl rfl, rfl⟩

end Sys2Proof.Machine

namespace Sys2Proof.Proofs

open Sys2Proof.Machine

/-- Settles O30: the aligned write is one write to the register at its word, and that is the entry of the error log alone. -/
theorem reservedEncodingsAreDiscarded : Obligations.ReservedEncodingsAreDiscarded := by
  rintro s a b fw r is cur d m hsize hon hr rfl rfl rfl hres
  obtain ⟨cause, -, hlog⟩ := s.regWrite_of_reservedIn r is (a / 8 * 8) a _ _ fw (sizeCode b.length) hres
  refine ⟨s.busWrite a b fw, rfl, ?_⟩
  rw [s.busWrite_of_sizeOk a b fw hsize, s.wordWrite_of_regAt b fw hon hr, hlog]
  exact ⟨s.logW_host_only .., s.logW_regQ .., cause, logs_logW ..⟩

end Sys2Proof.Proofs
end

section
/-!
PROOF. A switch of the time domain (R68): OUT_OFFSET takes up what the two counters differ by, so the output timescale does not
move.
-/

namespace Sys2Proof.Machine

/-! ## The completion of a live command (R388) -/

/-- A completion of the present epoch answers the command, also behind work that left the host interface alone. -/
theorem answers_completeAt {s u : State} {c : Cmd} (hu : u.host = s.host) (hc : c.epoch = s.host.epoch) (op st eff : Nat)
    (res : List (Nat × Nat × Nat)) : Answers s (u.completeAt c op st eff res) c op st := by
  have hq : (u.completeAt c op st eff res).host.compQ =
      s.host.compQ ++ [] ++ [⟨c.ring, op, st, c.hseq, eff, res, c.epoch, u.tick⟩] := by
    rw [u.completeAt_compQ, hu, if_pos hc, List.append_nil]
  exact ⟨[], _, [], hq, rfl, rfl, rfl, rfl⟩

theorem answers_ok {s u : State} {c : Cmd} (hu : u.host = s.host) (hc : c.epoch = s.host.epoch) (op : Nat)
    (res : List (Nat × Nat × Nat)) : Answers s (u.ok c op res) c op St.OK :=
  answers_completeAt hu hc op St.OK u.tick res

theorem answers_refuse {s u : State} {c : Cmd} (hu : u.host = s.host) (hc : c.epoch = s.host.epoch) (op st : Nat) :
    Answers s (u.refuse c op st) c op st :=
  answers_completeAt hu hc op st 0 []

/-! ## The output timescale at a tick edge -/

/-- At its edge the output timescale is the active domain's counter and OUT_OFFSET, whatever the step of the counter (R43). -/
theorem State.outAt_zero (s : State) : s.outAt 0 = (s.cnt s.time.active * offUnit : Nat) + s.time.off := by
  simp [State.outAt]

theorem State.outAt_zero_of_time {s t : State} (h : t.time = s.time) : t.outAt 0 = s.outAt 0 := by
  simp only [State.outAt_zero, State.cnt, h]

/-- The time base after a switch to domain `d`: the domain and OUT_OFFSET change, the counters run on (R68). -/
def State.switchTo (s : State) (d : Nat) : State := { s with time.active := d, time.off := s.switchOff d }

@[simp] theorem State.switchTo_active (s : State) (d : Nat) : (s.switchTo d).time.active = d := rfl
@[simp] theorem State.switchTo_off (s : State) (d : Nat) : (s.switchTo d).time.off = s.switchOff d := rfl
@[simp] theorem State.switchTo_host (s : State) (d : Nat) : (s.switchTo d).host = s.host := rfl
@[simp] theorem State.switchTo_cnt (s : State) (d k : Nat) : (s.switchTo d).cnt k = s.cnt k := rfl

/-- The new domain's counter cancels against the one that OUT_OFFSET was lowered by. -/
theorem State.switchTo_outAt_zero (s : State) (d : Nat) : (s.switchTo d).outAt 0 = s.outAt 0 := by
  rw [(s.switchTo d).outAt_zero, s.switchTo_active, s.switchTo_cnt, s.switchTo_off, State.switchOff]
  exact add_sub_cancel _ _

/-! ## TIME_SWITCH at its edge (R68) -/

theorem exec_timeSwitch (s : State) (c : Cmd) (d : BitVec 8) : exec (.timeSwitch c d) s = .next (s.timeSwitch c d.toNat) := rfl

theorem State.timeSwitch_of_within (s : State) (c : Cmd) {d : Nat} (hd : d < 2) (h : (s.switchOff d).natAbs ≤ offLimit) :
    s.timeSwitch c d = (s.switchTo d).ok c Op.TIME_SWITCH [(32, 8, patternOf 64 (offShown (s.switchOff d)))] := by
  simp only [State.timeSwitch, if_neg (Nat.not_le.mpr hd), if_neg (Nat.not_lt.mpr h), State.switchTo]

theorem State.timeSwitch_of_beyond (s : State) (c : Cmd) {d : Nat} (hd : d < 2) (h : offLimit < (s.switchOff d).natAbs) :
    s.timeSwitch c d = s.refuse c Op.TIME_SWITCH St.TIME_DIFF := by
  simp only [State.timeSwitch, if_neg (Nat.not_le.mpr hd), if_pos h]

end Sys2Proof.Machine

namespace Sys2Proof.Proofs

open Sys2Proof.Machine

/-- Settles O1: within 1 ms the command is the switch, whose OUT_OFFSET keeps the timescale, and beyond it a refusal. -/
theorem timeSwitchKeepsTheTimescale : Obligations.TimeSwitchKeepsTheTimescale := by
  intro s c d hd hc
  constructor
  · intro hwithin
    refine ⟨_, exec_timeSwitch s c d, ?_⟩
    rw [s.timeSwitch_of_within c hd hwithin]
    have htime := (s.switchTo d.toNat).ok_time c Op.TIME_SWITCH [(32, 8, patternOf 64 (offShown (s.switchOff d.toNat)))]
    refine ⟨?active, ?offset, ?timescale, answers_ok (s.switchTo_host _) hc ..⟩
    case active => rw [htime, s.switchTo_active]
    case offset => rw [htime, s.switchTo_off, State.switchOff]
    case timescale => exact (State.outAt_zero_of_time htime).trans (s.switchTo_outAt_zero _)
  · intro hbeyond
    refine ⟨_, exec_timeSwitch s c d, ?_⟩
    rw [s.timeSwitch_of_beyond c hd hbeyond]
    exact ⟨s.refuse_time .., answers_refuse rfl hc ..⟩

end Sys2Proof.Proofs
end

section
/-!
PROOF. The registers of thermal levels (R535): an 8-byte write is judged by its own word alone, and is discarded with an entry of the
error log or waits for the tick edge.
-/

namespace Sys2Proof.Machine

/-! ## An 8-byte write that lies in one word -/

theorem ofNat_ofLeBytes_leBytes_toNat (v : Word) : BitVec.ofNat 64 (ofLeBytes (leBytes 8 v.toNat)) = v := by
  have hlt : v.toNat < 256 ^ 8 := v.isLt
  rw [ofLeBytes_leBytes, Nat.mod_eq_of_lt hlt, BitVec.ofNat_toNat, BitVec.setWidth_eq]

theorem State.busWrite_word (s : State) {a : Nat} (v : Word) (fw : Bool) {r : RegDef} {is : List Nat} (ha : a % 8 = 0)
    (hon : s.blockedBy a = none) (hr : regAt a = some (r, is)) :
    s.busWrite a (leBytes 8 v.toNat) fw = s.regWrite r is a a v (maskW 64) fw 3 := by
  have hword : a / 8 * 8 = a := Nat.div_mul_cancel (Nat.dvd_of_mod_eq_zero ha)
  rw [s.busWrite_of_sizeOk a _ fw (by simp [sizeOk_iff, ha]), s.wordWrite_of_regAt _ fw hon (hword.symm ▸ hr), hword, ha,
    ofNat_ofLeBytes_leBytes_toNat, leBytes_length]
  simp [sizeCode]

@[simp] theorem and_maskW_64 (v : Word) : v &&& maskW 64 = v := BitVec.and_allOnes

@[simp] theorem not_maskW_64 : ~~~maskW 64 = 0#64 := rfl

/-- A write of all eight bytes leaves nothing of the word that read back. -/
@[simp] theorem State.mergedWord_word (s : State) (r : RegDef) (is : List Nat) (a : Nat) (v : Word) :
    s.mergedWord r is a v (maskW 64) = v := by
  simp [State.mergedWord]

/-- Where no field of a register reserves an encoding of its own, the rule for the whole word decides (R16). -/
theorem RegDef.reservedIn_word (r : RegDef) (v : Word) (hlegal : ∀ x ∈ r.fields, x.legal = []) (hm : r.stagedMask ≠ 0) :
    r.reservedIn v (maskW 64) = !wordOk r.id v := by
  have hfields : r.fields.any (fun x => x.reserved v (maskW 64)) = false := by
    rw [List.any_eq_false]
    intro x hx
    simp [FieldDef.reserved, hlegal x hx]
  rw [RegDef.reservedIn, hfields, and_maskW_64, decide_eq_true hm, Bool.false_or, Bool.true_and]

theorem registerWrite_gives_reserved (s : State) {a : Nat} (v : Word) (fw : Bool) {r : RegDef} {is : List Nat} (ha : a % 8 = 0)
    (hon : s.blockedBy a = none) (hr : regAt a = some (r, is)) (hid : r.id ≠ .SL_CTL) (hres : r.reservedIn v (maskW 64) = true) :
    Gives (.registerWrite a (leBytes 8 v.toNat) fw) s fun t => Logs s t a logRESERVED
      ∧ t = { s with host := t.host } ∧ t.host.regQ = s.host.regQ := by
  obtain ⟨cause, hcause, hlog⟩ := s.regWrite_of_reservedIn r is a a v (maskW 64) fw 3 (by rwa [s.mergedWord_word])
  obtain rfl : cause = logRESERVED := hcause.resolve_right fun h => hid h.1
  refine ⟨_, rfl, ?_⟩
  rw [s.busWrite_word v fw ha hon hr, hlog]
  exact ⟨logs_logW .., s.logW_host_only .., s.logW_regQ ..⟩

/-! ## Locked and staged bits -/

theorem State.lockedBits_of_unlocked (s : State) (r : RegDef) (m : Word) (h : s.b R.GLB_LOCK F.GLB_LOCK_LOCK = false) :
    s.lockedBits r m = 0#64 := by
  simp [State.lockedBits, h]

theorem State.stageAccess_of_ne_zero (s : State) (x : Access) {m : Word} (hm : m ≠ 0) :
    s.stageAccess x m = { s with host.regQ := s.host.regQ ++ [⟨x.addr, x.off, m, x.new &&& m, x.fw, x.size⟩] } :=
  if_neg hm

/-- A field keeps its value under a mask that covers it. -/
theorem Fld.of_and_of_covered (f : Fld) (v m : Word) (h : m >>> f.lo &&& maskW f.w = maskW f.w) : f.of (v &&& m) = f.of v := by
  rw [Fld.of, Fld.of, BitVec.ushiftRight_and_distrib, BitVec.and_assoc, h]

/-! ## The registers of thermal levels (R535) -/

/-- The row of THERM_LVL. -/
def thermLvlRow : RegDef :=
  ⟨.THERM_LVL, R.THERM_LVL, [],
    [⟨F.THERM_LVL_WARN, .rwl, []⟩, ⟨F.THERM_LVL_CRIT, .rwl, []⟩, ⟨F.THERM_LVL_TRIP, .rwl, []⟩, ⟨F.THERM_LVL_HYST, .rwl, []⟩],
    0x1e2cec2904251c⟩

/-- The row of ENG_THERM_LVL. -/
def engThermLvlRow : RegDef :=
  ⟨.ENG_THERM_LVL, R.ENG_THERM_LVL, [], [⟨F.ENG_THERM_LVL_ENG_WARN, .rw, []⟩, ⟨F.ENG_THERM_LVL_ENG_CRIT, .rw, []⟩], 0x1f401b58⟩

theorem regAt_THERM_LVL : regAt R.THERM_LVL = some (thermLvlRow, []) := by decide
theorem regAt_ENG_THERM_LVL : regAt R.ENG_THERM_LVL = some (engThermLvlRow, []) := by decide

/-- The register at `a` holds thermal levels. -/
def ThermLevels (a : Nat) (r : RegDef) : Prop :=
  a = R.THERM_LVL ∧ r = thermLvlRow ∨ a = R.ENG_THERM_LVL ∧ r = engThermLvlRow

theorem thermLevels_THERM_LVL : ThermLevels R.THERM_LVL thermLvlRow := .inl ⟨rfl, rfl⟩
theorem thermLevels_ENG_THERM_LVL : ThermLevels R.ENG_THERM_LVL engThermLvlRow := .inr ⟨rfl, rfl⟩

section
variable {a : Nat} {r : RegDef} (h : ThermLevels a r)
include h

theorem ThermLevels.aligned : a % 8 = 0 := by
  obtain ⟨rfl, -⟩ | ⟨rfl, -⟩ := h <;> rfl

theorem ThermLevels.regAt_eq : regAt a = some (r, []) := by
  obtain ⟨rfl, rfl⟩ | ⟨rfl, rfl⟩ := h
  · exact regAt_THERM_LVL
  · exact regAt_ENG_THERM_LVL

/-- Both lie in a block of AON (R464). -/
theorem ThermLevels.blockedBy_eq_none {s : State} (hon : s.isOn domAON = true) : s.blockedBy a = none := by
  have hdom : domainsAt a = [domAON] := by obtain ⟨rfl, -⟩ | ⟨rfl, -⟩ := h <;> rfl
  simp [State.blockedBy, hdom, hon]

theorem ThermLevels.id_ne_SL_CTL : r.id ≠ .SL_CTL := by
  obtain ⟨-, rfl⟩ | ⟨-, rfl⟩ := h <;> decide

theorem ThermLevels.stagedMask_ne_zero : r.stagedMask ≠ 0 := by
  obtain ⟨-, rfl⟩ | ⟨-, rfl⟩ := h <;> decide

theorem ThermLevels.reservedIn_word (v : Word) : r.reservedIn v (maskW 64) = !wordOk r.id v := by
  refine r.reservedIn_word v ?_ h.stagedMask_ne_zero
  obtain ⟨-, rfl⟩ | ⟨-, rfl⟩ := h <;> decide

theorem ThermLevels.readOnlyHere_eq : readOnlyHere r.id [] = 0#64 := by
  obtain ⟨-, rfl⟩ | ⟨-, rfl⟩ := h <;> rfl

/-- The mirror does not carry them, so either device of a pair takes the write (R424, R425). -/
theorem ThermLevels.notHolder_eq (s : State) (off : Nat) (m v : Word) (fw : Bool) (size : Nat) :
    s.notHolder ⟨a, off, m, v, fw, size⟩ = false := by
  have hmir : mirrored a = false := by obtain ⟨rfl, -⟩ | ⟨rfl, -⟩ := h <;> decide
  simp [State.notHolder, hmir]

theorem ThermLevels.notOwner_eq (s : State) (fw : Bool) : s.notOwner r.id [] fw = false := by
  obtain ⟨-, rfl⟩ | ⟨-, rfl⟩ := h <;> rfl

theorem ThermLevels.capWriteRefused_eq (s : State) (m : Word) : s.capWriteRefused r.id [] m = false := by
  obtain ⟨-, rfl⟩ | ⟨-, rfl⟩ := h <;> rfl

theorem ThermLevels.writeRefusal_eq (s : State) (cur new m : Word) : s.writeRefusal r.id [] cur new m = none := by
  obtain ⟨-, rfl⟩ | ⟨-, rfl⟩ := h <;> rfl

theorem ThermLevels.writeAct_eq (s : State) (x : Access) (m : Word) : s.writeAct r [] x m = s.stageAccess x m := by
  obtain ⟨-, rfl⟩ | ⟨-, rfl⟩ := h <;> rfl

/-- With GLB_LOCK clear no check but the one for reserved encodings stands between the write and its tick edge. -/
theorem ThermLevels.regWrite_word (s : State) (v : Word) (fw : Bool) (hunlocked : s.b R.GLB_LOCK F.GLB_LOCK_LOCK = false)
    (hok : wordOk r.id v = true) :
    s.regWrite r [] a a v (maskW 64) fw 3 = s.stageAccess ⟨a, a, v, maskW 64, fw, 3⟩ r.stagedMask := by
  -- A mask's complement stays symbolic, so that the library's lemmas on `allOnes` apply.
  simp [-BitVec.reduceNot, -BitVec.reduceAllOnes, State.regWrite, s.lockedBits_of_unlocked r _ hunlocked, h.id_ne_SL_CTL,
    h.reservedIn_word, hok, h.readOnlyHere_eq, h.notHolder_eq, h.notOwner_eq, h.capWriteRefused_eq, h.writeRefusal_eq,
    h.writeAct_eq]

theorem ThermLevels.write_reserved {s : State} (v : Word) (fw : Bool) (hon : s.isOn domAON = true) (hbad : wordOk r.id v = false) :
    Gives (.registerWrite a (leBytes 8 v.toNat) fw) s fun t => Logs s t a logRESERVED
      ∧ t = { s with host := t.host } ∧ t.host.regQ = s.host.regQ :=
  registerWrite_gives_reserved s v fw h.aligned (h.blockedBy_eq_none hon) h.regAt_eq h.id_ne_SL_CTL
    (by rw [h.reservedIn_word, hbad]; rfl)

theorem ThermLevels.write_staged {s : State} (v : Word) (fw : Bool) (hon : s.isOn domAON = true)
    (hunlocked : s.b R.GLB_LOCK F.GLB_LOCK_LOCK = false) (hok : wordOk r.id v = true) :
    Gives (.registerWrite a (leBytes 8 v.toNat) fw) s fun t => t.host.logTotal = s.host.logTotal
      ∧ ∃ w, t.host.regQ = s.host.regQ ++ [w] ∧ w.addr = a ∧ w.val = v &&& r.stagedMask := by
  refine ⟨_, rfl, ?_⟩
  rw [s.busWrite_word v fw h.aligned (h.blockedBy_eq_none hon) h.regAt_eq, h.regWrite_word s v fw hunlocked hok,
    s.stageAccess_of_ne_zero _ h.stagedMask_ne_zero]
  exact ⟨rfl, _, rfl, rfl, rfl⟩

end

theorem wordOk_thermLvlRow (v : Word) : wordOk thermLvlRow.id v = true ↔
    (signedOf 16 (F.THERM_LVL_WARN.of v) < signedOf 16 (F.THERM_LVL_CRIT.of v)
      ∧ signedOf 16 (F.THERM_LVL_CRIT.of v) < signedOf 16 (F.THERM_LVL_TRIP.of v))
      ∧ 10500 ≤ signedOf 16 (F.THERM_LVL_TRIP.of v) := by
  simp [thermLvlRow, wordOk, thermLvlOk]

theorem wordOk_engThermLvlRow (v : Word) : wordOk engThermLvlRow.id v = true ↔
    signedOf 16 (F.ENG_THERM_LVL_ENG_WARN.of v) < signedOf 16 (F.ENG_THERM_LVL_ENG_CRIT.of v) := by
  simp [engThermLvlRow, wordOk]

end Sys2Proof.Machine

namespace Sys2Proof.Proofs

open Sys2Proof.Machine

/-- Settles O31: the order of the levels is the rule for the whole word, which alone decides between an entry of the error log and
a staged write. -/
theorem thermalLevelsKeepTheirOrder : Obligations.ThermalLevelsKeepTheirOrder := by
  rintro s v fw warn crit trip ew ec hon hunlocked rfl rfl rfl rfl rfl
  refine ⟨?levelsReserved, ?levelsStaged, ?engineReserved, ?engineStaged⟩
  case levelsReserved =>
    intro hbad
    refine thermLevels_THERM_LVL.write_reserved v fw hon ?_
    rw [← Bool.not_eq_true, wordOk_thermLvlRow, not_and_or, not_le]
    exact hbad
  case levelsStaged =>
    intro hwarn hcrit htrip
    have hok := (wordOk_thermLvlRow v).mpr ⟨⟨hwarn, hcrit⟩, htrip⟩
    obtain ⟨t, ht, hlog, w, hq, haddr, hval⟩ := thermLevels_THERM_LVL.write_staged v fw hon hunlocked hok
    refine ⟨t, ht, hlog, w, hq, haddr, ?_⟩
    rw [hval]
    exact ⟨Fld.of_and_of_covered _ v _ (by decide), Fld.of_and_of_covered _ v _ (by decide),
      Fld.of_and_of_covered _ v _ (by decide)⟩
  case engineReserved =>
    intro hbad
    refine thermLevels_ENG_THERM_LVL.write_reserved v fw hon ?_
    rw [← Bool.not_eq_true, wordOk_engThermLvlRow, not_lt]
    exact hbad
  case engineStaged =>
    intro horder
    obtain ⟨t, ht, hlog, w, hq, haddr, -⟩ :=
      thermLevels_ENG_THERM_LVL.write_staged v fw hon hunlocked ((wordOk_engThermLvlRow v).mpr horder)
    exact ⟨t, ht, hlog, w, hq, haddr⟩

end Sys2Proof.Proofs
end
